-- ==== Sys2Proof/Word.lean ====
section
/-! DEFINITION. The bit-vector types of the fields that travel in frames, records and images. -/

namespace Sys2Proof

/-- One byte of a frame, a record or the image. -/
abbrev Byte := BitVec 8

/-- A two-byte field (R194), a notice word (11.3), a grant serial (R102) or a cycle counter (R35). -/
abbrev Word := BitVec 16

/-- A four-byte field (R194) or a gauge's total tips (R41). -/
abbrev Long := BitVec 32

end Sys2Proof
end

