-- ==== Sys2Proof/Config.lean ====
section
/-! DEFINITION. The values the spec leaves open. Each is a constant with no body: nothing can be
proved of its value, and a statement that holds holds for every value of it. -/

namespace Sys2Proof

/-- Which of several due events is taken first, drawn with State.freeIndex: the spec lets events at
one moment be taken in either order (R54, R72, R85, R124, R132). Log entry 2. -/
opaque Config.choice : Nat → Nat

/-- A byte the EEPROM holds after a page write that was not read back (R187). Log entry 7. -/
opaque Config.eepromByte : Nat → Byte

/-- Whether a page left half-written reads UNREADABLE (true) or DAMAGED (false) (R163, R189). Log entry 23. -/
opaque Config.tornUnreadable : Nat → Bool

/-- The page mark the part writes into a spare area; no rule gives its value (R145). Log entry 43. -/
opaque Config.pageMark : Byte

/-- A byte of the settings image whose content no rule gives, by its offset: the parameters of an
unbound binder and the parameters a binder's kind does not use (11.5). Log entry 20. -/
opaque Config.imageFill : Nat → Byte

/-- A byte of a response field whose value does not fit the field, by the value and the byte's place
in the field. Log entry 19. -/
opaque Config.overflowByte : Nat → Nat → Byte

/-- The start offset of an INTERRUPTED close whose start time lies after the record's own time
(R139, 11.4). Log entry 29. -/
opaque Config.startOffset : Nat → Nat

end Sys2Proof
end

