-- ==== Sys2Proof/Machine/Bytes.lean ====
section
/-! DEFINITION. Byte order, padding and the CRC-16 of the array and the image. -/

namespace Sys2Proof

/-- The number v as n bytes, most significant byte first (R194). -/
def beBytes : Nat → Nat → List Byte
  | 0, _ => []
  | n + 1, v => BitVec.ofNat 8 (v / 256 ^ n) :: beBytes n v

/-- The byte at an offset, as a number; 0 past the end. -/
def byteAt (bs : List Byte) (i : Nat) : Nat := (bs.getD i 0#8).toNat

/-- The n-byte field at an offset, most significant byte first (R194). -/
def fieldAt (bs : List Byte) (i : Nat) : Nat → Nat
  | 0 => 0
  | n + 1 => fieldAt bs i n * 256 + byteAt bs (i + n)

/-- A list of bytes brought to exactly n bytes: 0 beyond its end (11.2.1). -/
def padTo (n : Nat) (bs : List Byte) : List Byte :=
  (bs ++ List.replicate (n - bs.length) 0#8).take n

/-- The largest number n bytes carry. -/
def fieldMax (n : Nat) : Nat := 256 ^ n - 1

/-- A record field: a value wider than the field is written as the largest value it can carry (R195). -/
def cappedBytes (n v : Nat) : List Byte := beBytes n (min v (fieldMax n))

/-- A response field. Where the value does not fit, no rule gives the bytes: they are free (log entry 19). -/
def responseBytes (n v : Nat) : List Byte :=
  if v ≤ fieldMax n then beBytes n v else (List.range n).map (Config.overflowByte v)

/-- A response field that may be absent: absent is all ones (11.2.1). -/
def absentBytes (n : Nat) : Option Nat → List Byte
  | some v => responseBytes n v
  | none => List.replicate n 255#8

/-- One shift of the CRC-16 with polynomial x^16 + x^12 + x^5 + 1 (R145, R184). -/
def crcShift (c : Nat) : Nat :=
  if c / 32768 % 2 = 1 then Nat.xor (c * 2 % 65536) 0x1021 else c * 2 % 65536

/-- The CRC-16 register after one more byte, its most significant bit first (log entry 32). -/
def crcByte (c : Nat) (b : Byte) : Nat :=
  Nat.repeat crcShift 8 (Nat.xor c (b.toNat * 256))

/-- The CRC-16 with initial value all ones (R145, R184). -/
def crc16 (bs : List Byte) : Word := BitVec.ofNat 16 (bs.foldl crcByte 0xFFFF)

end Sys2Proof
end

