-- ==== Sys2Proof/Syntax.lean ====
section
/-! DEFINITION. The commands of the block: one constructor of Instr per row of spec/opcode_table.json.
An order's operands are the operand fields of 11.2, each at the width in which it travels. -/

namespace Sys2Proof

/-- The four station ports (R166). -/
inductive Port where
  | works | siteA | siteB | record
  deriving DecidableEq, Repr

/-- What every order of a bundle carries beside its operands: the port whose frame carried it, its
guard byte (R174), its place in the bundle, from 0, and the number of orders of the bundle (R170). -/
structure Head where
  port : Port
  guard : Byte
  index : Nat
  count : Nat
  deriving DecidableEq, Repr

/-- The operands of WORKS_SET (11.2). -/
structure WorksOperands where
  cLeg : Word
  fallback : Word
  tLease : Byte
  tConfirm : Word
  legTol : Word
  channel : Byte
  polarity : Byte
  debounce : Byte
  gate : Byte
  tenths : Word
  deriving DecidableEq, Repr

/-- The operands of TANK_SET after the tank (11.2). -/
structure TankOperands where
  flags : Byte
  cls : Byte
  mLimit : Word
  e : Byte
  fFull : Word
  h : Byte
  tol : Byte
  dLo : Word
  dHi : Word
  span : Word
  deriving DecidableEq, Repr

/-- One point slot of SHAPE_SET: a level in millimetres and a volume in cubic metres. -/
structure PointOperand where
  level : Word
  volume : Word
  deriving DecidableEq, Repr

/-- The operands of SHAPE_SET after the tank: the point count and eight point slots (R194). -/
structure ShapeOperands where
  count : Byte
  points : Vector PointOperand 8
  deriving DecidableEq, Repr

/-- The operands of CHANNEL_BIND after the tank and the role. -/
structure BindOperands where
  channel : Byte
  polarity : Byte
  debounce : Byte
  gate : Byte
  tenths : Word
  deriving DecidableEq, Repr

/-- The operands of SPILL_SET (11.2). -/
structure SpillOperands where
  w1 : Byte
  w2 : Byte
  tOn : Word
  tOff : Word
  p : Word
  dDry : Byte
  dryGauge : Byte
  deriving DecidableEq, Repr

/-- The four thresholds of one alert level in GAUGE_SET, in the order they travel (11.2). -/
structure ThresholdOperand where
  entryI : Word
  entryD : Word
  exitI : Word
  exitD : Word
  deriving DecidableEq, Repr

/-- The operands of GAUGE_SET (11.2): tip depths of G0 to G3, thresholds of WATCH, WARN and STORM, T_clear. -/
structure GaugeOperands where
  tips : Vector Byte 4
  watch : ThresholdOperand
  warn : ThresholdOperand
  storm : ThresholdOperand
  tClear : Byte
  deriving DecidableEq, Repr

/-- The operands of GAUGE_BIND after the gauge (11.2). -/
structure GaugeBindOperands where
  channel : Byte
  polarity : Byte
  debounce : Byte
  lockout : Word
  deriving DecidableEq, Repr

/-- The commands. -/
inductive Instr where
  -- start-up (R189, R190, R162 to R164)
  | startUp
  | resetAssert
  | imageLoad (acknowledged : Bool)
  | storeFormat (eraseFails : List (Fin 64))
  | storeScan
  -- transfers (R167 to R170)
  | requestStart (port : Port) (bytes : List Byte)
  | frameError (port : Port)
  | notReady (port : Port)
  | responseRead (port : Port) (clocked : Nat)
  -- orders of every port (R176)
  | nop (h : Head)
  | unassignedCode (h : Head) (code : Byte)
  | identify (h : Head)
  | statusRead (h : Head) (group : Byte)
  | noticesRead (h : Head)
  | noticeMask (h : Head) (mask : Word)
  | portReset (h : Head)
  | saveSettings (h : Head)
  -- the save in flight (R187)
  | savePageSent (acknowledged : Bool)
  | eepromWriteComplete
  | eepromWriteTimeout
  | pageReadbackComplete (data : List Byte)
  | tankRead (h : Head) (tank : Byte) (part : Byte)
  | alertRead (h : Head) (gauge : Byte)
  -- orders of the WORKS port
  | entryWrite (h : Head) (entry : Byte) (rate : Word) (duration : Word) (link : Byte)
  | entryPost (h : Head) (entry : Byte)
  | entryRecall (h : Head) (entry : Byte)
  | entryRead (h : Head) (entry : Byte)
  | scheduleKick (h : Head) (entry : Byte)
  | scheduleStop (h : Head)
  | leaseRenew (h : Head)
  | hold (h : Head) (minutes : Byte)
  | release (h : Head)
  | worksSet (h : Head) (v : WorksOperands)
  | drawRead (h : Head)
  -- orders of the site ports
  | tankClaim (h : Head) (tank : Byte)
  | tankRelease (h : Head) (tank : Byte)
  | tankSet (h : Head) (tank : Byte) (v : TankOperands)
  | shapeSet (h : Head) (tank : Byte) (v : ShapeOperands)
  | channelBind (h : Head) (tank : Byte) (role : Byte) (v : BindOperands)
  | drainRequest (h : Head) (tank : Byte) (m : Word) (n : Word)
  | drainStop (h : Head) (tank : Byte)
  | grantAck (h : Head) (tank : Byte) (serial : Word) (rate : Word)
  | cycleRead (h : Head) (tank : Byte)
  -- orders of the RECORD port
  | clockSet (h : Head) (time : Long)
  | readFrom (h : Head) (sequence : Long)
  | readNext (h : Head)
  | archiveUpto (h : Head) (sequence : Long)
  | closePeriod (h : Head)
  | countRead (h : Head) (outfall : Byte)
  | spillSet (h : Head) (v : SpillOperands)
  | gaugeSet (h : Head) (v : GaugeOperands)
  | gaugeBind (h : Head) (gauge : Byte) (v : GaugeBindOperands)
  | storeRead (h : Head) (part : Byte)
  -- the measurement lines (R7 to R16)
  | rawLineChange (c : Fin 16) (high : Bool)
  | debounceAccept (c : Fin 16)
  | channelSettle (c : Fin 16)
  | rainStuck (c : Fin 16)
  | levelSaturate (c : Fin 16)
  | levelSample (c : Fin 16)
  | levelStaleTimeout (c : Fin 16)
  | levelFaultTimeout (c : Fin 16)
  | gateEnd (c : Fin 16)
  -- the timers of the blocks
  | binBoundary
  | clearTimerExpiry
  | entryExpiry
  | leaseLapse
  | holdExpiry
  | confirmDeadline (t : Fin 8)
  | tOnExpiry (o : Fin 8)
  | tOffExpiry (o : Fin 8)
  | intervalEnd (o : Fin 8)
  | flushTimerExpiry
  -- the record store and its array (R144 to R160)
  | pageHandover
  | arrayOperationStart
  | pageProgramComplete (ok : Bool)
  | relocationCopyComplete (ok : Bool)
  | blockEraseComplete (ok : Bool)
  | pageReadComplete (sound : Bool)
  deriving DecidableEq, Repr

end Sys2Proof
end

