-- ==== Sys2Proof/Machine/Types.lean ====
section
/-! DEFINITION. The types of the pieces of state: plain data, one structure per record the spec names. -/

namespace Sys2Proof.Machine

/-- The stages of the part (R189); HELD is the RESET pin asserted or no supply. -/
inductive Stage where
  | held | loading | store | running
  deriving DecidableEq, Repr

/-- The transfer state of a port (R166). -/
inductive Transfer where
  | idle | receiving | sending
  deriving DecidableEq, Repr

/-- The state of one station port (R166). dataOut is the model's view of the data-out line: the bytes
the part presented in the last transfer (log entry 5). -/
structure PortState where
  transfer : Transfer
  received : List Byte
  excess : Nat
  response : Option (List Byte)
  sendPos : Nat
  notices : Word
  mask : Word
  dataOut : List Byte
  deriving DecidableEq, Repr

/-- The bundle of which some orders have been taken and some not yet (R170; log entry 4): its port, the
number taken, the number of orders, and the result codes and data placed so far. -/
structure Bundle where
  port : Port
  taken : Nat
  count : Nat
  placed : List Byte
  deriving DecidableEq, Repr

/-- The sixteen notice kinds, in the bit order of 11.3. -/
inductive Notice where
  | grantChanged | drainEnded | overdue | overdraw | settled | schedule | lease | hold
  | alert | spill | event | earlySpill | channel | store | settings | legExcess
  deriving DecidableEq, Repr

/-- The holder of a tank (R19). -/
inductive Owner where
  | nobody | siteA | siteB
  deriving DecidableEq, Repr

/-- The three roles of a tank (1.2). -/
inductive Role where
  | level | draw | spill
  deriving DecidableEq, Repr

/-- The binder of a channel (R1): none, a role of a tank, a gauge or the leg meter. -/
inductive Binder where
  | none
  | tank (t : Fin 8) (r : Role)
  | gauge (g : Fin 4)
  | legMeter
  deriving DecidableEq, Repr

/-- The kind of a channel (R1). -/
inductive Kind where
  | none | rain | level | flow | spill
  deriving DecidableEq, Repr

/-- The status of a channel (R1). -/
inductive ChannelStatus where
  | ok | stale | fault | saturated
  deriving DecidableEq, Repr

/-- The causes of a CHANNEL record (R18). -/
inductive FaultCause where
  | stuck | noSample | released | sample | unbound
  deriving DecidableEq, Repr

/-- A PWM period in progress (R12): its opening edge and its inactive edge, change instants in microseconds. -/
structure Period where
  start : Nat
  fall : Option Nat
  deriving DecidableEq, Repr

/-- The running values of a RAIN channel: acceptance of the last accepted tip in microseconds (R1, R10)
and the start of the 10 s stuck timing in part time (R11). -/
structure RainRun where
  lastTip : Option Nat
  stuckFrom : Option Nat
  deriving DecidableEq, Repr

/-- The running values of a LEVEL channel (R1) with its period, the sums of the second in progress
(R12, R13), the reference of its timers (R15) and the second last sampled. -/
structure LevelRun where
  duty : Option Nat
  level : Option Nat
  clamped : Option Bool
  lastValid : Option Nat
  reference : Nat
  period : Option Period
  sumActive : Nat
  sumPeriod : Nat
  sampledAt : Nat
  deriving DecidableEq, Repr

/-- The running values of a FLOW channel (R1, R16); the gate's start in part time. -/
structure FlowRun where
  pulses : Nat
  gateStart : Nat
  rate : Option Nat
  litres : Option Nat
  deriving DecidableEq, Repr

/-- A channel record (R1). since is the instant, in microseconds, from which the line has held the level
of the candidate change or of the settling in progress (R7, R8). -/
structure Channel where
  kind : Kind
  binder : Binder
  activeLow : Bool
  debounce : Nat
  lockout : Nat
  gate : Nat
  tenths : Nat
  status : ChannelStatus
  active : Bool
  settled : Bool
  since : Option Nat
  rain : RainRun
  level : LevelRun
  flow : FlowRun
  deriving DecidableEq, Repr

/-- One point of a shape table (R19). -/
structure Point where
  level : Nat
  volume : Nat
  deriving DecidableEq, Repr

/-- The Settings group of a tank record without its bindings (R19). -/
structure TankSettings where
  enabled : Bool
  cls : Nat
  preEmpt : Bool
  stormSuspend : Bool
  mLimit : Nat
  e : Nat
  fFull : Nat
  h : Nat
  tol : Nat
  dLo : Nat
  dHi : Nat
  span : Nat
  shape : List Point
  deriving DecidableEq, Repr

/-- The phase of a tank (R19). -/
inductive Phase where
  | unknown | dry | wet | full | offline
  deriving DecidableEq, Repr

/-- Level, volume and fill, absent together (R19). -/
structure Held where
  level : Nat
  volume : Nat
  fill : Nat
  deriving DecidableEq, Repr

/-- The metering mode of a capture cycle (2.6). -/
inductive CycleMode where
  | metered | unmetered
  deriving DecidableEq, Repr

/-- The end reason of a capture cycle (R38). -/
inductive EndReason where
  | drained | released | disabled
  deriving DecidableEq, Repr

/-- A capture cycle (2.6). -/
structure Cycle where
  number : Word
  start : Nat
  lateStart : Bool
  peakFill : Nat
  peakTime : Nat
  toFull : Option Nat
  spillRef : Option Nat
  mode : Option CycleMode
  litres : Nat
  admission : Option Nat
  returned : Option Nat
  endTime : Option Nat
  endReason : Option EndReason
  deriving DecidableEq, Repr

/-- The drain status of a tank (R79). -/
inductive DrainStatus where
  | out | queued | draining
  deriving DecidableEq, Repr

/-- The reasons of R79, in the order R79 lists them. -/
inductive DrainReason where
  | new | levelFault | overdue | stormSuspend | belowMin | shareZero | allowanceZero
  | stopped | drained | disabled
  deriving DecidableEq, Repr

/-- m, n and the admission stamp of a listed tank (R79). -/
structure Request where
  m : Nat
  n : Nat
  stamp : Nat
  deriving DecidableEq, Repr

/-- The drain fields of a tank (R79). -/
structure Drain where
  status : DrainStatus
  reason : Option DrainReason
  request : Option Request
  deriving DecidableEq, Repr

/-- A confirmation deadline, with the part time at which it was set (R101, R108). -/
structure Deadline where
  setAt : Nat
  due : Nat
  deriving DecidableEq, Repr

/-- The grant fields of a tank (R101); overdueSince is absent while the overdue flag is clear (R108). granted is the tank's
grant as every order sees it: a leave zeroes it at once (R83, R84, R96). published is the last published grant, which the
end of a reallocation compares with granted (R97). -/
structure Grant where
  granted : Nat
  published : Nat
  confirmed : Nat
  serial : Word
  acked : Word
  unsettled : Bool
  deadline : Option Deadline
  overdueSince : Option Nat
  overdraw : Bool
  overCount : Nat
  deriving DecidableEq, Repr

/-- A tank record (R19). -/
structure Tank where
  owner : Owner
  set : TankSettings
  phase : Phase
  held : Option Held
  clamped : Bool
  rawBand : Nat
  band : Nat
  weight : Nat
  spilling : Bool
  counter : Word
  openCycle : Option Cycle
  lastCycle : Option Cycle
  drain : Drain
  grant : Grant
  deriving DecidableEq, Repr

/-- The alert levels (R41). -/
inductive AlertLevel where
  | clear | watch | warn | storm
  deriving DecidableEq, Repr

/-- The availability of a gauge (R41). -/
inductive Availability where
  | available | fault | unbound
  deriving DecidableEq, Repr

/-- A gauge record (R41); each ring holds its current bin first. -/
structure Gauge where
  avail : Availability
  tipDepth : Nat
  five : List Nat
  hourly : List Nat
  rejected : Nat
  totalTips : Long
  level : AlertLevel
  deriving DecidableEq, Repr

/-- The entry and exit values of one level (R46). -/
structure Threshold where
  entryI : Nat
  entryD : Nat
  exitI : Nat
  exitD : Nat
  deriving DecidableEq, Repr

/-- The rain watch (3.1, R46, R47, R51); boundary counts the five-minute boundaries taken (R44). -/
structure Rain where
  gauges : Vector Gauge 4
  catchment : AlertLevel
  timer : Option Nat
  watch : Threshold
  warn : Threshold
  storm : Threshold
  tClear : Nat
  boundary : Nat
  deriving DecidableEq, Repr

/-- The status of a schedule entry (R59). -/
inductive EntryStatus where
  | fresh | done | overrun | cut | abandoned | recalled
  deriving DecidableEq, Repr

/-- A schedule entry (R59); byPart tells that PART holds it. -/
structure Entry where
  rate : Nat
  duration : Nat
  link : Option (Fin 8)
  byPart : Bool
  status : EntryStatus
  remaining : Option Nat
  deriving DecidableEq, Repr

/-- The schedule state (4.2). -/
inductive Schedule where
  | idle | running | stalled | lapsed
  deriving DecidableEq, Repr

/-- The causes of an ALLOWANCE record, in the order of R77. -/
inductive AllowanceCause where
  | kickStart | advance | stall | resume | lapse | stop | holdStart | holdReload
  | holdEndRelease | holdEndExpiry | limit
  deriving DecidableEq, Repr

/-- The allowance unit (R59, R64, R70, R73, R75). The active entry's remaining is the value it had at
runSince; lease holds the lease's start, hold the hold timer's expiry. -/
structure Allow where
  entries : Vector Entry 8
  sched : Schedule
  active : Option (Fin 8)
  runSince : Nat
  lease : Option Nat
  hold : Option Nat
  aEff : Nat
  deriving DecidableEq, Repr

/-- The leg check (R101, R115). -/
structure Leg where
  excess : Bool
  count : Nat
  deriving DecidableEq, Repr

/-- The numeric settings of the WORKS section (R76). -/
structure WorksSettings where
  cLeg : Nat
  fallback : Nat
  tLease : Nat
  tConfirm : Nat
  legTol : Nat
  deriving DecidableEq, Repr

/-- The causes of an OVERDUE record (R108). -/
inductive OverdueCause where
  | deadline | lateAck | stopped | released
  deriving DecidableEq, Repr

/-- The spill phase with the time it holds (R118). -/
inductive SpillPhase where
  | quiet
  | pending (start : Nat)
  | spilling (stretch : Nat)
  | trailing (start : Nat)
  deriving DecidableEq, Repr

/-- An open spill event (7.3), with the start and the length in hours of the current interval (R138). -/
structure SpillEvent where
  opening : Nat
  start : Nat
  interval : Nat
  intervalEnd : Nat
  counted : Bool
  count : Nat
  seconds : Nat
  early : Bool
  dry : Bool
  unknownRain : Bool
  phase : Phase
  fill : Option Nat
  alert : AlertLevel
  gauge : Option (Fin 4)
  tips : Option Long
  d24 : Option Nat
  blockStart : Nat
  blockHours : Nat
  deriving DecidableEq, Repr

/-- An outfall record (R118). -/
structure Outfall where
  switch : Bool
  phase : SpillPhase
  event : Option SpillEvent
  count : Nat
  seconds : Nat
  deriving DecidableEq, Repr

/-- The spill settings (R137). -/
structure SpillSettings where
  w1 : Nat
  w2 : Nat
  tOn : Nat
  tOff : Nat
  p : Nat
  dDry : Nat
  dryGauge : Option (Fin 4)
  deriving DecidableEq, Repr

/-- The spill counter (R118). -/
structure Spill where
  outfalls : Vector Outfall 8
  periodNumber : Nat
  set : SpillSettings
  deriving DecidableEq, Repr

/-- The states of the record store (8). -/
inductive StoreState where
  | scanning | formatting | ready | full | relocating | worn
  deriving DecidableEq, Repr

/-- The status of an array block (R145). -/
inductive BlockStatus where
  | erased | current | filled | retired
  deriving DecidableEq, Repr

/-- The spare area of a page that has been written: the page mark, the first sequence number, the record count, the
data check code and the spare check code (R145; widths in log entry 43). -/
structure Spare where
  mark : Byte
  first : Long
  count : Byte
  dataCode : Word
  spareCode : Word
  deriving DecidableEq, Repr

/-- A page of the array as the cells hold it (R145, R162): erased, written with its record slots and its spare area, or
holding what no operation of the part completed, where no check passes (log entry 23). -/
inductive Page where
  | erased
  | unreadable
  | programmed (records : List (List Byte)) (spare : Spare)
  deriving DecidableEq, Repr

/-- A block of the array: its factory bad mark and its sixteen pages (R145, R162). -/
structure Block where
  factoryBad : Bool
  pages : Vector Page 16
  deriving DecidableEq, Repr

/-- The page table's entry of one page (R145). -/
structure PageEntry where
  first : Nat
  count : Nat
  valid : Bool
  deriving DecidableEq, Repr

/-- A page of the array by its block and its place in the block. -/
structure PageRef where
  block : Fin 64
  page : Fin 16
  deriving DecidableEq, Repr

/-- An operation of the array in progress (R147). A demand read chooses its buffer when it completes; a
prefetch loads the buffer it was queued into (R160). -/
inductive ArrayOp where
  | program (at_ : PageRef) (relocating : Bool)
  | copy (page : Fin 16) (source : Fin 64) (target : Fin 64)
  | erase (block : Fin 64)
  | read (at_ : PageRef) (prefetchInto : Option (Fin 2))
  deriving DecidableEq, Repr

/-- A loaded read buffer (R160): the page, its records, and the result of its data check. -/
structure ReadBuffer where
  ref : PageRef
  records : List (List Byte)
  sound : Bool
  deriving DecidableEq, Repr

/-- A prefetch waiting at the arbiter and the buffer it will load (R160). -/
structure WaitingPrefetch where
  ref : PageRef
  buffer : Fin 2
  deriving DecidableEq, Repr

/-- An outfall's newest programmed counting record (R146). -/
structure Note where
  sequence : Nat
  block : Fin 64
  deriving DecidableEq, Repr

/-- A relocation in progress or waiting (R154, R155): the failing page and the next page to copy. -/
structure Relocation where
  page : Fin 16
  next : Nat
  deriving DecidableEq, Repr

/-- The record store (8). Records are their 32 bytes (11.4). -/
structure Store where
  nextSeq : Nat
  queue : List (List Byte)
  assembly : List (List Byte)
  due : Bool
  flushAt : Option Nat
  program : Option (List (List Byte))
  lost : Nat
  state : StoreState
  status : Vector BlockStatus 64
  table : Vector (Vector (Option PageEntry) 16) 64
  current : Option (Fin 64)
  writePage : Nat
  prep : Option (List (Fin 8))
  owed : List (Fin 8)
  reloc : Option Relocation
  op : Option ArrayOp
  demand : Option PageRef
  prefetch : Option WaitingPrefetch
  buffers : Vector (Option ReadBuffer) 2
  newer : Fin 2
  served : Option PageRef
  notes : Vector (Option Note) 8
  archiveMark : Nat
  cursor : Nat
  deriving DecidableEq, Repr

/-- The STORE section of the settings (R184). -/
structure Retired where
  blocks : List (Fin 64)
  worn : Bool
  deriving DecidableEq, Repr

/-- The three steps of a page of a save (R187); the internal write holds its start in microseconds. -/
inductive SaveStep where
  | sending
  | writing (since : Nat)
  | reading
  deriving DecidableEq, Repr

/-- A save in flight (R186): the page being written, its step, the snapshot's 1,024 bytes and the
current requesters, one bit per port. -/
structure SaveRun where
  page : Fin 32
  step : SaveStep
  snapshot : List Byte
  requesters : BitVec 4
  deriving DecidableEq, Repr

/-- The causes of a failed save (R187). -/
inductive SaveCause where
  | noAck | timeout | mismatch
  deriving DecidableEq, Repr

/-- The last result of a save (R186). -/
inductive SaveResult where
  | none
  | saved
  | failed (page : Fin 32) (cause : SaveCause)
  deriving DecidableEq, Repr

/-- Where the working settings came from at the last start-up (R190). -/
inductive Source where
  | image | defaults
  deriving DecidableEq, Repr

/-- The save state (R186) and the store request held during start-up (R188). -/
structure Save where
  run : Option SaveRun
  followOn : Option (BitVec 4)
  last : SaveResult
  changed : Bool
  source : Source
  heldRequest : Bool
  deriving DecidableEq, Repr

/-- The parameters of a binding (R1): each kind uses its own. -/
structure ChannelParams where
  activeLow : Bool
  debounce : Nat
  lockout : Nat
  gate : Nat
  tenths : Nat
  deriving DecidableEq, Repr

/-- A binding: the channel a binder holds and its parameters (R2). -/
structure Binding where
  channel : Fin 16
  params : ChannelParams
  deriving DecidableEq, Repr

/-- A tank's part of the SITE section (R184). -/
structure TankSection where
  owner : Owner
  set : TankSettings
  level : Option Binding
  draw : Option Binding
  spill : Option Binding
  deriving DecidableEq, Repr

/-- The values of GAUGE_SET (R47). -/
structure GaugeSettings where
  tips : Vector Nat 4
  watch : Threshold
  warn : Threshold
  storm : Threshold
  tClear : Nat
  deriving DecidableEq, Repr

/-- The working settings, all four sections (R184). -/
structure Settings where
  works : WorksSettings
  legMeter : Option Binding
  tanks : Vector TankSection 8
  spill : SpillSettings
  gauges : GaugeSettings
  rain : Vector (Option Binding) 4
  retired : Retired
  deriving DecidableEq, Repr

end Sys2Proof.Machine
end

