-- ==== Sys2Proof/Machine/Codes.lean ====
section
/-! DEFINITION. The codes of the enumerations in responses, records and the image: the order in which
their chapters list them, from 0 (11.4). -/

namespace Sys2Proof.Machine

/-- The index of a port: its bit among the requesters and its code as a role (11.2.1). -/
def portIndex : Port → Fin 4
  | .works => 0 | .siteA => 1 | .siteB => 2 | .record => 3

/-- The bit of a notice kind (11.3). -/
def noticeBit : Notice → Nat
  | .grantChanged => 0 | .drainEnded => 1 | .overdue => 2 | .overdraw => 3
  | .settled => 4 | .schedule => 5 | .lease => 6 | .hold => 7
  | .alert => 8 | .spill => 9 | .event => 10 | .earlySpill => 11
  | .channel => 12 | .store => 13 | .settings => 14 | .legExcess => 15

/-- The word that holds one notice kind (11.3). -/
def noticeWord (k : Notice) : Word := BitVec.ofNat 16 (2 ^ noticeBit k)

def ownerCode : Owner → Nat
  | .nobody => 0 | .siteA => 1 | .siteB => 2

def kindCode : Kind → Nat
  | .none => 0 | .rain => 1 | .level => 2 | .flow => 3 | .spill => 4

def statusCode : ChannelStatus → Nat
  | .ok => 0 | .stale => 1 | .fault => 2 | .saturated => 3

def causeCode : FaultCause → Nat
  | .stuck => 0 | .noSample => 1 | .released => 2 | .sample => 3 | .unbound => 4

def roleCode : Role → Nat
  | .level => 0 | .draw => 1 | .spill => 2

/-- The binder byte of the CHANNEL record: type in bits 7 to 4, index in bits 3 to 0 (11.4). -/
def binderCode : Binder → Nat
  | .none => 0
  | .tank t r => (roleCode r + 1) * 16 + t.val
  | .gauge g => 64 + g.val
  | .legMeter => 80

def phaseCode : Phase → Nat
  | .unknown => 0 | .dry => 1 | .wet => 2 | .full => 3 | .offline => 4

def modeCode : Option CycleMode → Nat
  | none => 0 | some .metered => 1 | some .unmetered => 2

def endCode : EndReason → Nat
  | .drained => 0 | .released => 1 | .disabled => 2

def drainCode : DrainStatus → Nat
  | .out => 0 | .queued => 1 | .draining => 2

/-- The reason byte of TANK_READ: NEW 0 to DISABLED 9, or 0xFF absent (11.2.1). -/
def reasonCode : Option DrainReason → Nat
  | some .new => 0 | some .levelFault => 1 | some .overdue => 2 | some .stormSuspend => 3
  | some .belowMin => 4 | some .shareZero => 5 | some .allowanceZero => 6
  | some .stopped => 7 | some .drained => 8 | some .disabled => 9 | none => 255

def alertCode : AlertLevel → Nat
  | .clear => 0 | .watch => 1 | .warn => 2 | .storm => 3

def availCode : Availability → Nat
  | .available => 0 | .fault => 1 | .unbound => 2

def entryStatusCode : EntryStatus → Nat
  | .fresh => 0 | .done => 1 | .overrun => 2 | .cut => 3 | .abandoned => 4 | .recalled => 5

def scheduleCode : Schedule → Nat
  | .idle => 0 | .running => 1 | .stalled => 2 | .lapsed => 3

def allowanceCauseCode : AllowanceCause → Nat
  | .kickStart => 0 | .advance => 1 | .stall => 2 | .resume => 3 | .lapse => 4 | .stop => 5
  | .holdStart => 6 | .holdReload => 7 | .holdEndRelease => 8 | .holdEndExpiry => 9 | .limit => 10

def overdueCauseCode : OverdueCause → Nat
  | .deadline => 0 | .lateAck => 1 | .stopped => 2 | .released => 3

def spillPhaseCode : SpillPhase → Nat
  | .quiet => 0 | .pending _ => 1 | .spilling _ => 2 | .trailing _ => 3

def storeStateCode : StoreState → Nat
  | .scanning => 0 | .formatting => 1 | .ready => 2 | .full => 3 | .relocating => 4 | .worn => 5

def blockStatusCode : BlockStatus → Nat
  | .erased => 0 | .current => 1 | .filled => 2 | .retired => 3

def saveCauseCode : SaveCause → Nat
  | .noAck => 0 | .timeout => 1 | .mismatch => 2

def sourceCode : Source → Nat
  | .image => 0 | .defaults => 1

/-- The bit of a flag. -/
def bit (b : Bool) : Nat := if b then 1 else 0

/-- The index byte of something that may be absent: 0xFF when it is (11.2.1). -/
def indexCode {n : Nat} : Option (Fin n) → Nat
  | some i => i.val | none => 255

end Sys2Proof.Machine
end

