-- ==== Sys2Proof/Machine/Defaults.lean ====
section
/-! DEFINITION. The default settings and the state after start-up of each record. -/

namespace Sys2Proof.Machine

/-- The default settings of a tank (R19). -/
def defaultTankSettings : TankSettings :=
  { enabled := false, cls := 1, preEmpt := false, stormSuspend := false, mLimit := 0, e := 20, fFull := 950,
    h := 20, tol := 20, dLo := 100, dHi := 900, span := 5000, shape := [⟨0, 0⟩, ⟨20000, 0⟩] }

/-- Running values cleared (R1, R7). -/
def noRain : RainRun := { lastTip := none, stuckFrom := none }

def noLevel : LevelRun :=
  { duty := none, level := none, clamped := none, lastValid := none, reference := 0, period := none,
    sumActive := 0, sumPeriod := 0, sampledAt := 0 }

def noFlow : FlowRun := { pulses := 0, gateStart := 0, rate := none, litres := none }

/-- An unbound channel with the default parameters (R1). -/
def unboundChannel : Channel :=
  { kind := .none, binder := .none, activeLow := false, debounce := 10, lockout := 250, gate := 10, tenths := 50,
    status := .ok, active := false, settled := true, since := none,
    rain := noRain, level := noLevel, flow := noFlow }

/-- Drain fields of a tank out of the list since start-up (R79). -/
def noDrain : Drain := { status := .out, reason := none, request := none }

/-- Grant fields after start-up (R101). -/
def noGrant : Grant :=
  { granted := 0, published := 0, confirmed := 0, serial := 0#16, acked := 0#16, unsettled := false, deadline := none,
    overdueSince := none, overdraw := false, overCount := 0 }

/-- An unclaimed tank after start-up (R20). -/
def unclaimedTank : Tank :=
  { owner := .nobody, set := defaultTankSettings, phase := .offline, held := none, clamped := false,
    rawBand := 1, band := 1, weight := 1, spilling := false, counter := 0#16, openCycle := none,
    lastCycle := none, drain := noDrain, grant := noGrant }

/-- A gauge after start-up with the default tip depth (R41). -/
def idleGauge : Gauge :=
  { avail := .unbound, tipDepth := 2, five := List.replicate 12 0, hourly := List.replicate 24 0, rejected := 0,
    totalTips := 0#32, level := .clear }

/-- The rain watch after start-up with the default settings (R41, R46, R47, R51). -/
def idleRain : Rain :=
  { gauges := Vector.replicate 4 idleGauge, catchment := .clear, timer := none,
    watch := { entryI := 40, entryD := 50, exitI := 20, exitD := 30 },
    warn := { entryI := 100, entryD := 150, exitI := 60, exitD := 100 },
    storm := { entryI := 250, entryD := 300, exitI := 150, exitD := 200 },
    tClear := 30, boundary := 0 }

/-- A schedule entry after start-up (R59). -/
def freshEntry : Entry :=
  { rate := 0, duration := 0, link := none, byPart := false, status := .fresh, remaining := none }

/-- The allowance unit after start-up (R59, R64, R74), A_eff at the fallback given (R75). -/
def idleAllow (fallback : Nat) : Allow :=
  { entries := Vector.replicate 8 freshEntry, sched := .idle, active := none, runSince := 0, lease := none,
    hold := none, aEff := fallback }

/-- The default WORKS settings (R76, R104, R115). -/
def defaultWorks : WorksSettings := { cLeg := 2000, fallback := 0, tLease := 10, tConfirm := 60, legTol := 50 }

/-- The default spill settings (R137). -/
def defaultSpill : SpillSettings := { w1 := 8, w2 := 16, tOn := 120, tOff := 600, p := 900, dDry := 25, dryGauge := none }

/-- An outfall with no totals (R118). -/
def quietOutfall : Outfall := { switch := false, phase := .quiet, event := none, count := 0, seconds := 0 }

/-- The spill counter after start-up with the default settings (R118, R137). -/
def idleSpill : Spill := { outfalls := Vector.replicate 8 quietOutfall, periodNumber := 1, set := defaultSpill }

/-- The record store before its scan or format (R142 to R160; log entry 10). -/
def emptyStore : Store :=
  { nextSeq := 1, queue := [], assembly := [], due := false, flushAt := none, program := none, lost := 0,
    state := .scanning, status := Vector.replicate 64 .erased, table := Vector.replicate 64 (Vector.replicate 16 none),
    current := none, writePage := 0, prep := none, owed := [], reloc := none, op := none, demand := none, prefetch := none,
    buffers := Vector.replicate 2 none, newer := 0, served := none, notes := Vector.replicate 8 none,
    archiveMark := 0, cursor := 1 }

/-- The save state after start-up, before LOADING has judged the image (R186). -/
def idleSave : Save :=
  { run := none, followOn := none, last := .none, changed := true, source := .defaults, heldRequest := false }

/-- A block never used (log entry 8). -/
def blankBlock : Block := { factoryBad := false, pages := Vector.replicate 16 .erased }

/-- The kinds routed to a port, which its default mask holds (R177). -/
def routed : Port → List Notice
  | .works => [.overdue, .overdraw, .settled, .schedule, .lease, .hold, .alert, .settings, .legExcess]
  | .siteA => [.grantChanged, .drainEnded, .overdue, .overdraw, .lease, .hold, .alert, .spill, .earlySpill,
      .channel, .settings]
  | .siteB => [.grantChanged, .drainEnded, .overdue, .overdraw, .lease, .hold, .alert, .spill, .earlySpill,
      .channel, .settings]
  | .record => [.alert, .spill, .event, .earlySpill, .channel, .store, .settings]

/-- The default mask of a port (R177). -/
def defaultMask (p : Port) : Word := (routed p).foldl (fun m k => m ||| noticeWord k) 0#16

/-- A port after start-up (R166). -/
def idlePort (p : Port) : PortState :=
  { transfer := .idle, received := [], excess := 0, response := none, sendPos := 0, notices := 0#16,
    mask := defaultMask p, dataOut := [] }

/-- The four ports after start-up, in the order of their codes. -/
def idlePorts : Vector PortState 4 := #v[idlePort .works, idlePort .siteA, idlePort .siteB, idlePort .record]

end Sys2Proof.Machine
end

