-- ==== Sys2Proof/Machine/Memory.lean ====
section
/-! DEFINITION. The EEPROM, the one byte-addressed memory: a list of cells in one canonical form
(R184). The part addresses the bytes 0 to 1,023 and no other. -/

namespace Sys2Proof.Machine

/-- What a byte of the EEPROM that no cell lists reads as: an erased cell (log entry 7). -/
def Memory.unlisted : Byte := 255#8

/-- The cells rise strictly from an address on, and none holds what an unlisted address reads as. -/
def Memory.rises : Nat → List Host.Cell → Bool
  | _, [] => true
  | low, (a, b) :: rest => decide (low ≤ a) && decide (b ≠ Memory.unlisted) && Memory.rises (a + 1) rest

/-- The canonical form: every address lies in the 4,096 bytes, addresses rise, no cell is redundant. -/
def Memory.wf (m : List Host.Cell) : Bool :=
  Memory.rises 0 m && m.all (fun c => decide (c.1 < 4096))

/-- The byte at an address. -/
def Memory.read : List Host.Cell → Nat → Byte
  | [], _ => Memory.unlisted
  | (x, y) :: rest, a => if a = x then y else Memory.read rest a

/-- Store one byte, keeping the canonical form. -/
def Memory.write : List Host.Cell → Nat → Byte → List Host.Cell
  | [], a, b => if b = Memory.unlisted then [] else [(a, b)]
  | (x, y) :: rest, a, b =>
    if a < x then (if b = Memory.unlisted then (x, y) :: rest else (a, b) :: (x, y) :: rest)
    else if a = x then (if b = Memory.unlisted then rest else (a, b) :: rest)
    else (x, y) :: Memory.write rest a b

/-- Store bytes at rising addresses. -/
def Memory.writeAll (m : List Host.Cell) (a : Nat) : List Byte → List Host.Cell
  | [] => m
  | b :: bs => Memory.writeAll (Memory.write m a b) (a + 1) bs

/-- The n bytes from an address on. -/
def Memory.readAll (m : List Host.Cell) (a n : Nat) : List Byte :=
  (List.range n).map (fun i => Memory.read m (a + i))

end Sys2Proof.Machine
end

