-- ==== Sys2Proof/Machine/State.lean ====
section
/-! DEFINITION. The state of the part, its reset value, and the reasons a step can stop. -/

namespace Sys2Proof.Machine

/-- Everything the spec gives the part, and the queue of commands waiting. -/
structure State where
  stage : Stage
  clock : Nat
  civil : Option Int
  freeIndex : Nat
  lines : Vector Bool 16
  ports : Vector PortState 4
  bundle : Option Bundle
  trigger : Bool
  channels : Vector Channel 16
  tanks : Vector Tank 8
  rain : Rain
  allow : Allow
  drainList : List (Fin 8)
  globalSerial : Word
  leg : Leg
  works : WorksSettings
  spill : Spill
  store : Store
  retired : Retired
  save : Save
  eeprom : List Host.Cell
  array : Vector Block 64
  pending : List Instr
  deriving DecidableEq, Repr

/-- No command of this part stops it: the spec names no such condition (INVENTORY, Faults). -/
inductive Fault where
  deriving DecidableEq, Repr

/-- Why a command has no meaning. -/
inductive Refusal where
  /-- Raised by exec for a command that the model has not reached yet. Safe: the run stops. -/
  | notModelled (mnemonic : String)
  deriving DecidableEq, Repr

/-- The part right after the release of RESET (R189): in LOADING, every block at its state after start-up,
the EEPROM and the array as log entries 7 and 8 say, the lines low (log entry 9), no command waiting. -/
def State.reset : State :=
  { stage := .loading, clock := 0, civil := none, freeIndex := 0, lines := Vector.replicate 16 false,
    ports := idlePorts, bundle := none, trigger := false, channels := Vector.replicate 16 unboundChannel,
    tanks := Vector.replicate 8 unclaimedTank, rain := idleRain, allow := idleAllow 0, drainList := [],
    globalSerial := 0#16, leg := { excess := false, count := 0 }, works := defaultWorks, spill := idleSpill,
    store := emptyStore, retired := { blocks := [], worn := false }, save := idleSave, eeprom := [],
    array := Vector.replicate 64 blankBlock, pending := [] }

end Sys2Proof.Machine
end

