-- ==== Sys2Proof/Machine/Ops.lean ====
section
/-! DEFINITION. The operations every block shares: updates of one record, time, notices, bindings, free
choices, and the two forms of a step (an event and an order's answer). -/

namespace Sys2Proof.Machine

/-- What exec answers. -/
abbrev Result := Host.Outcome State Fault Refusal

/-- A vector with one entry replaced. -/
def put {α : Type} {n : Nat} (v : Vector α n) (i : Fin n) (x : α) : Vector α n := v.set i.1 x i.2

/-- A sum that stops at a limit (R43, R133, R143). -/
def satAdd (limit a b : Nat) : Nat := min (a + b) limit

namespace State

/-- Part time in whole seconds, which stops at its 32-bit limit (R192). -/
def partTime (s : State) : Nat := min (s.clock / 1000000) 4294967295

/-- Civil time, absent while unset (R193). -/
def civilTime (s : State) : Option Nat := s.civil.map (fun o => (o + (s.partTime : Int)).toNat)

def port (s : State) (p : Port) : PortState := s.ports.get (portIndex p)

def modPort (s : State) (p : Port) (f : PortState → PortState) : State :=
  { s with ports := put s.ports (portIndex p) (f (s.port p)) }

def channel (s : State) (c : Fin 16) : Channel := s.channels.get c

def modChannel (s : State) (c : Fin 16) (f : Channel → Channel) : State :=
  { s with channels := put s.channels c (f (s.channel c)) }

def tank (s : State) (t : Fin 8) : Tank := s.tanks.get t

def modTank (s : State) (t : Fin 8) (f : Tank → Tank) : State :=
  { s with tanks := put s.tanks t (f (s.tank t)) }

def modGrant (s : State) (t : Fin 8) (f : Grant → Grant) : State :=
  s.modTank t (fun k => { k with grant := f k.grant })

def modDrain (s : State) (t : Fin 8) (f : Drain → Drain) : State :=
  s.modTank t (fun k => { k with drain := f k.drain })

def modCycle (s : State) (t : Fin 8) (f : Cycle → Cycle) : State :=
  s.modTank t (fun k => { k with openCycle := k.openCycle.map f })

def gauge (s : State) (g : Fin 4) : Gauge := s.rain.gauges.get g

def modGauge (s : State) (g : Fin 4) (f : Gauge → Gauge) : State :=
  { s with rain := { s.rain with gauges := put s.rain.gauges g (f (s.gauge g)) } }

def entry (s : State) (e : Fin 8) : Entry := s.allow.entries.get e

def modAllow (s : State) (f : Allow → Allow) : State := { s with allow := f s.allow }

def modEntry (s : State) (e : Fin 8) (f : Entry → Entry) : State :=
  s.modAllow (fun a => { a with entries := put a.entries e (f (a.entries.get e)) })

def outfall (s : State) (o : Fin 8) : Outfall := s.spill.outfalls.get o

def modOutfall (s : State) (o : Fin 8) (f : Outfall → Outfall) : State :=
  { s with spill := { s.spill with outfalls := put s.spill.outfalls o (f (s.outfall o)) } }

def modEvent (s : State) (o : Fin 8) (f : SpillEvent → SpillEvent) : State :=
  s.modOutfall o (fun w => { w with event := w.event.map f })

def modStore (s : State) (f : Store → Store) : State := { s with store := f s.store }

def modSave (s : State) (f : Save → Save) : State := { s with save := f s.save }

/-- A block sets a notice kind on a port (R177). -/
def notify (s : State) (k : Notice) (p : Port) : State :=
  s.modPort p (fun q => { q with notices := q.notices ||| noticeWord k })

/-- A notice kind set on several ports. -/
def notifyAll (s : State) (k : Notice) (ps : List Port) : State := ps.foldl (fun s p => s.notify k p) s

/-- A reallocation trigger is noted (R95, R96). -/
def noteTrigger (s : State) : State := { s with trigger := true }

/-- A number below n that the spec leaves open (log entry 2). -/
def freeChoice (s : State) (n : Nat) : Nat := Config.choice s.freeIndex % n

/-- The next free values come from the next index. -/
def drawFree (s : State) : State := { s with freeIndex := s.freeIndex + 1 }

/-- The channel a binder holds (R2). -/
def channelOf (s : State) (b : Binder) : Option (Fin 16) :=
  (List.finRange 16).find? (fun c => (s.channel c).binder = b)

/-- A tank is in the drain list (R79). -/
def listed (s : State) (t : Fin 8) : Bool := s.drainList.contains t

/-- The phase of an outfall is SPILLING. -/
def isSpilling (s : State) (o : Fin 8) : Bool :=
  match (s.outfall o).phase with
  | .spilling _ => true
  | _ => false

end State

/-- The port of a site (R177); an unclaimed tank has none. -/
def ownerPort : Owner → List Port
  | .nobody => []
  | .siteA => [.siteA]
  | .siteB => [.siteB]

/-- The owner a site port makes (R21). -/
def portOwner : Port → Owner
  | .siteA => .siteA
  | .siteB => .siteB
  | _ => .nobody

/-- A notice routed to the owner site of a tank (R177). -/
def State.notifyOwner (s : State) (k : Notice) (t : Fin 8) : State :=
  s.notifyAll k (ownerPort (s.tank t).owner)

/-- The port of a binder (1.2). -/
def State.binderPorts (s : State) : Binder → List Port
  | .none => []
  | .tank t _ => ownerPort (s.tank t).owner
  | .gauge _ => [.record]
  | .legMeter => [.works]

end Sys2Proof.Machine
end

