-- ==== Sys2Proof/Machine/Operands.lean ====
section
/-! DEFINITION. The operand fields of the orders (11.2): indices, ranges, reserved bits, and the bytes in
which the settings travel in frames and in the image. -/

namespace Sys2Proof.Machine

/-- An operand index below n, or none (R194). -/
def index (n : Nat) (b : Byte) : Option (Fin n) := if h : b.toNat < n then some ⟨b.toNat, h⟩ else none

/-- An operand index below n that admits 0xFF; the outer none is out of range (R194). -/
def indexOrFF (n : Nat) (b : Byte) : Option (Option (Fin n)) :=
  if b = 255#8 then some none else (index n b).map some

/-- A number brought to the nearest bound (R185). -/
def clamp (low high v : Nat) : Nat := max low (min high v)

/-- A polarity byte has a reserved bit set (11.2). -/
def polarityReserved (b : Byte) : Bool := decide (1 < b.toNat)

/-- A TANK_SET flags byte has a reserved bit set (11.2). -/
def flagsReserved (b : Byte) : Bool := decide (7 < b.toNat)

/-- Bit 0 of a polarity byte: ACTIVE_LOW. -/
def activeLowOf (b : Byte) : Bool := b.toNat % 2 = 1

/-- The two-byte field at an offset. -/
def wordAt (bs : List Byte) (i : Nat) : Word := BitVec.ofNat 16 (fieldAt bs i 2)

/-- The byte field at an offset. -/
def fieldByte (bs : List Byte) (i : Nat) : Byte := bs.getD i 0#8

/-- A two-byte field as it travels (R194). -/
def wordBytes (w : Word) : List Byte := beBytes 2 w.toNat

/-- A four-byte field as it travels (R194). -/
def longBytes (w : Long) : List Byte := beBytes 4 w.toNat

/-- The operands of WORKS_SET as they travel (11.2). -/
def worksBytes (v : WorksOperands) : List Byte :=
  wordBytes v.cLeg ++ wordBytes v.fallback ++ [v.tLease] ++ wordBytes v.tConfirm ++ wordBytes v.legTol
    ++ [v.channel, v.polarity, v.debounce, v.gate] ++ wordBytes v.tenths

def readWorks (bs : List Byte) (i : Nat) : WorksOperands :=
  { cLeg := wordAt bs i, fallback := wordAt bs (i + 2), tLease := fieldByte bs (i + 4), tConfirm := wordAt bs (i + 5),
    legTol := wordAt bs (i + 7), channel := fieldByte bs (i + 9), polarity := fieldByte bs (i + 10),
    debounce := fieldByte bs (i + 11), gate := fieldByte bs (i + 12), tenths := wordAt bs (i + 13) }

/-- Bytes 1 to 15 of the operands of TANK_SET (11.2). -/
def tankBytes (v : TankOperands) : List Byte :=
  [v.flags, v.cls] ++ wordBytes v.mLimit ++ [v.e] ++ wordBytes v.fFull ++ [v.h, v.tol] ++ wordBytes v.dLo
    ++ wordBytes v.dHi ++ wordBytes v.span

def readTank (bs : List Byte) (i : Nat) : TankOperands :=
  { flags := fieldByte bs i, cls := fieldByte bs (i + 1), mLimit := wordAt bs (i + 2), e := fieldByte bs (i + 4),
    fFull := wordAt bs (i + 5), h := fieldByte bs (i + 7), tol := fieldByte bs (i + 8), dLo := wordAt bs (i + 9),
    dHi := wordAt bs (i + 11), span := wordAt bs (i + 13) }

/-- Bytes 1 to 33 of the operands of SHAPE_SET (11.2). -/
def shapeBytes (v : ShapeOperands) : List Byte :=
  [v.count] ++ v.points.toList.flatMap (fun q => wordBytes q.level ++ wordBytes q.volume)

def readShape (bs : List Byte) (i : Nat) : ShapeOperands :=
  { count := fieldByte bs i,
    points := Vector.ofFn (fun k : Fin 8 => { level := wordAt bs (i + 1 + 4 * k.val), volume := wordAt bs (i + 3 + 4 * k.val) }) }

/-- Bytes 2 to 7 of the operands of CHANNEL_BIND (11.2). -/
def bindBytes (v : BindOperands) : List Byte :=
  [v.channel, v.polarity, v.debounce, v.gate] ++ wordBytes v.tenths

def readBind (bs : List Byte) (i : Nat) : BindOperands :=
  { channel := fieldByte bs i, polarity := fieldByte bs (i + 1), debounce := fieldByte bs (i + 2),
    gate := fieldByte bs (i + 3), tenths := wordAt bs (i + 4) }

/-- The operands of SPILL_SET (11.2). -/
def spillBytes (v : SpillOperands) : List Byte :=
  [v.w1, v.w2] ++ wordBytes v.tOn ++ wordBytes v.tOff ++ wordBytes v.p ++ [v.dDry, v.dryGauge]

def readSpill (bs : List Byte) (i : Nat) : SpillOperands :=
  { w1 := fieldByte bs i, w2 := fieldByte bs (i + 1), tOn := wordAt bs (i + 2), tOff := wordAt bs (i + 4),
    p := wordAt bs (i + 6), dDry := fieldByte bs (i + 8), dryGauge := fieldByte bs (i + 9) }

def thresholdBytes (v : ThresholdOperand) : List Byte :=
  wordBytes v.entryI ++ wordBytes v.entryD ++ wordBytes v.exitI ++ wordBytes v.exitD

def readThreshold (bs : List Byte) (i : Nat) : ThresholdOperand :=
  { entryI := wordAt bs i, entryD := wordAt bs (i + 2), exitI := wordAt bs (i + 4), exitD := wordAt bs (i + 6) }

/-- The operands of GAUGE_SET (11.2). -/
def gaugeBytes (v : GaugeOperands) : List Byte :=
  v.tips.toList ++ thresholdBytes v.watch ++ thresholdBytes v.warn ++ thresholdBytes v.storm ++ [v.tClear]

def readGauge (bs : List Byte) (i : Nat) : GaugeOperands :=
  { tips := Vector.ofFn (fun g : Fin 4 => fieldByte bs (i + g.val)), watch := readThreshold bs (i + 4),
    warn := readThreshold bs (i + 12), storm := readThreshold bs (i + 20), tClear := fieldByte bs (i + 28) }

/-- Bytes 1 to 5 of the operands of GAUGE_BIND (11.2). -/
def gaugeBindBytes (v : GaugeBindOperands) : List Byte :=
  [v.channel, v.polarity, v.debounce] ++ wordBytes v.lockout

def readGaugeBind (bs : List Byte) (i : Nat) : GaugeBindOperands :=
  { channel := fieldByte bs i, polarity := fieldByte bs (i + 1), debounce := fieldByte bs (i + 2),
    lockout := wordAt bs (i + 3) }

/-- The values a WORKS_SET carries, before any is brought within range. -/
def worksSent (v : WorksOperands) : WorksSettings :=
  { cLeg := v.cLeg.toNat, fallback := v.fallback.toNat, tLease := v.tLease.toNat, tConfirm := v.tConfirm.toNat,
    legTol := v.legTol.toNat }

/-- The ranges of the WORKS settings; F is brought within the new C_leg (R76). -/
def clampWorks (v : WorksSettings) : WorksSettings :=
  let cLeg := clamp 0 4000 v.cLeg
  { cLeg := cLeg, fallback := clamp 0 cLeg v.fallback, tLease := clamp 1 60 v.tLease,
    tConfirm := clamp 10 600 v.tConfirm, legTol := clamp 0 500 v.legTol }

/-- The values a TANK_SET carries, with the shape table held. -/
def tankSent (v : TankOperands) (shape : List Point) : TankSettings :=
  { enabled := v.flags.toNat % 2 = 1, cls := v.cls.toNat, preEmpt := v.flags.toNat / 2 % 2 = 1,
    stormSuspend := v.flags.toNat / 4 % 2 = 1, mLimit := v.mLimit.toNat, e := v.e.toNat, fFull := v.fFull.toNat,
    h := v.h.toNat, tol := v.tol.toNat, dLo := v.dLo.toNat, dHi := v.dHi.toNat, span := v.span.toNat, shape := shape }

/-- The ranges of the tank settings (R19). -/
def clampTank (v : TankSettings) : TankSettings :=
  { v with cls := clamp 1 4 v.cls, mLimit := clamp 0 1000 v.mLimit, e := clamp 0 200 v.e, fFull := clamp 700 1000 v.fFull,
           h := clamp 5 100 v.h, tol := clamp 0 200 v.tol, dLo := clamp 50 450 v.dLo, dHi := clamp 550 950 v.dHi,
           span := clamp 500 20000 v.span }

/-- The points a SHAPE_SET gives: the slots beyond the count are not examined (R194). -/
def shapeSent (v : ShapeOperands) : List Point :=
  (v.points.toList.take v.count.toNat).map (fun q => { level := q.level.toNat, volume := q.volume.toNat })

/-- Levels strictly increase and volumes never decrease from each point to the next (R25). -/
def pointsOrdered : List Point → Bool
  | a :: b :: rest => decide (a.level < b.level) && decide (a.volume ≤ b.volume) && pointsOrdered (b :: rest)
  | _ => true

/-- The structural check of SHAPE_SET (R25, step 3). -/
def shapeOk (v : ShapeOperands) : Bool :=
  decide (2 ≤ v.count.toNat) && decide (v.count.toNat ≤ 8) && (shapeSent v).all (fun q => decide (q.level ≤ 20000))
    && pointsOrdered (shapeSent v)

/-- The values a SPILL_SET carries, with the dry gauge already judged. -/
def spillSent (v : SpillOperands) (dry : Option (Fin 4)) : SpillSettings :=
  { w1 := v.w1.toNat, w2 := v.w2.toNat, tOn := v.tOn.toNat, tOff := v.tOff.toNat, p := v.p.toNat, dDry := v.dDry.toNat,
    dryGauge := dry }

/-- The ranges of the spill settings (R137). -/
def clampSpill (v : SpillSettings) : SpillSettings :=
  { v with w1 := clamp 1 48 v.w1, w2 := clamp 1 48 v.w2, tOn := clamp 0 600 v.tOn, tOff := clamp 0 3600 v.tOff,
           p := clamp 500 1000 v.p, dDry := clamp 0 250 v.dDry }

def thresholdSent (v : ThresholdOperand) : Threshold :=
  { entryI := v.entryI.toNat, entryD := v.entryD.toNat, exitI := v.exitI.toNat, exitD := v.exitD.toNat }

/-- The values a GAUGE_SET carries. -/
def gaugeSent (v : GaugeOperands) : GaugeSettings :=
  { tips := v.tips.map (fun b => b.toNat), watch := thresholdSent v.watch, warn := thresholdSent v.warn,
    storm := thresholdSent v.storm, tClear := v.tClear.toNat }

def clampThreshold (v : Threshold) : Threshold :=
  { entryI := clamp 0 10000 v.entryI, entryD := clamp 0 10000 v.entryD, exitI := clamp 0 10000 v.exitI,
    exitD := clamp 0 10000 v.exitD }

/-- The ranges of the gauge settings (R47, step 1). -/
def clampGauges (v : GaugeSettings) : GaugeSettings :=
  { tips := v.tips.map (clamp 1 10), watch := clampThreshold v.watch, warn := clampThreshold v.warn,
    storm := clampThreshold v.storm, tClear := clamp 5 120 v.tClear }

/-- Every exit value lies below the entry value of its level and figure (R47, step 2). -/
def exitsBelow (v : Threshold) : Bool := decide (v.exitI < v.entryI) && decide (v.exitD < v.entryD)

/-- The thresholds are in order (R47, step 2). -/
def thresholdsOrdered (v : GaugeSettings) : Bool :=
  exitsBelow v.watch && exitsBelow v.warn && exitsBelow v.storm
    && decide (v.watch.entryI ≤ v.warn.entryI) && decide (v.warn.entryI ≤ v.storm.entryI)
    && decide (v.watch.entryD ≤ v.warn.entryD) && decide (v.warn.entryD ≤ v.storm.entryD)

/-- The kind a binder gives its channel (R2, step 4). -/
def binderKind : Binder → Kind
  | .none => .none
  | .tank _ .level => .level
  | .tank _ .draw => .flow
  | .tank _ .spill => .spill
  | .gauge _ => .rain
  | .legMeter => .flow

/-- The parameters a kind takes from those carried, each brought within its range (R1, R2); the others
stay as the channel holds them. -/
def takeParams (k : Kind) (held sent : ChannelParams) : ChannelParams :=
  { activeLow := sent.activeLow
    debounce := clamp 1 50 sent.debounce
    lockout := if k = .rain then clamp 0 2000 sent.lockout else held.lockout
    gate := if k = .flow then clamp 1 60 sent.gate else held.gate
    tenths := if k = .flow then clamp 1 10000 sent.tenths else held.tenths }

/-- A parameter the kind uses lies outside its range (R2). -/
def paramsClamped (k : Kind) (sent : ChannelParams) : Bool := decide (takeParams k sent sent ≠ sent)

/-- The parameters a channel holds. -/
def heldParams (c : Channel) : ChannelParams :=
  { activeLow := c.activeLow, debounce := c.debounce, lockout := c.lockout, gate := c.gate, tenths := c.tenths }

def Channel.withParams (c : Channel) (p : ChannelParams) : Channel :=
  { c with activeLow := p.activeLow, debounce := p.debounce, lockout := p.lockout, gate := p.gate, tenths := p.tenths }

end Sys2Proof.Machine
end

