-- ==== Sys2Proof/Decode.lean ====
section
/-! DEFINITION. The split of a request frame into its orders, and the bytes of an order (R169, R194, 11.1,
11.2). The table gives no row any bits, so decodeTableWord spells no command. -/

namespace Sys2Proof

open Sys2Proof.Machine

/-- The rows of the table give no bits: no word spells a command. -/
def decodeTableWord (_nbits _w : Nat) : Option Instr := none

/-- The operand length of each code (11.2); a code that no order is assigned to carries none (9.3). -/
def operandLength (code : Nat) : Nat :=
  match code with
  | 0x02 => 1 | 0x04 => 2 | 0x07 => 2 | 0x08 => 1
  | 0x10 => 6 | 0x11 => 1 | 0x12 => 1 | 0x13 => 1 | 0x14 => 1 | 0x17 => 1 | 0x19 => 15
  | 0x20 => 1 | 0x21 => 1 | 0x22 => 16 | 0x23 => 34 | 0x24 => 8 | 0x25 => 5 | 0x26 => 1 | 0x27 => 5 | 0x28 => 1
  | 0x30 => 4 | 0x31 => 4 | 0x33 => 4 | 0x35 => 1 | 0x36 => 10 | 0x37 => 29 | 0x38 => 6 | 0x39 => 1
  | _ => 0

/-- The code is assigned to an order (11.2). -/
def codeAssigned (code : Nat) : Bool :=
  decide (code ≤ 0x08) || (decide (0x10 ≤ code) && decide (code ≤ 0x1A)) || (decide (0x20 ≤ code) && decide (code ≤ 0x28))
    || (decide (0x30 ≤ code) && decide (code ≤ 0x39))

/-- The four-byte field at an offset. -/
def longAt (bs : List Byte) (i : Nat) : Long := BitVec.ofNat 32 (fieldAt bs i 4)

/-- The order that a code and its operand bytes spell (11.2). -/
def orderOf (h : Head) (code : Byte) (b : List Byte) : Instr :=
  match code.toNat with
  | 0x00 => .nop h
  | 0x01 => .identify h
  | 0x02 => .statusRead h (fieldByte b 0)
  | 0x03 => .noticesRead h
  | 0x04 => .noticeMask h (wordAt b 0)
  | 0x05 => .portReset h
  | 0x06 => .saveSettings h
  | 0x07 => .tankRead h (fieldByte b 0) (fieldByte b 1)
  | 0x08 => .alertRead h (fieldByte b 0)
  | 0x10 => .entryWrite h (fieldByte b 0) (wordAt b 1) (wordAt b 3) (fieldByte b 5)
  | 0x11 => .entryPost h (fieldByte b 0)
  | 0x12 => .entryRecall h (fieldByte b 0)
  | 0x13 => .entryRead h (fieldByte b 0)
  | 0x14 => .scheduleKick h (fieldByte b 0)
  | 0x15 => .scheduleStop h
  | 0x16 => .leaseRenew h
  | 0x17 => .hold h (fieldByte b 0)
  | 0x18 => .release h
  | 0x19 => .worksSet h (readWorks b 0)
  | 0x1A => .drawRead h
  | 0x20 => .tankClaim h (fieldByte b 0)
  | 0x21 => .tankRelease h (fieldByte b 0)
  | 0x22 => .tankSet h (fieldByte b 0) (readTank b 1)
  | 0x23 => .shapeSet h (fieldByte b 0) (readShape b 1)
  | 0x24 => .channelBind h (fieldByte b 0) (fieldByte b 1) (readBind b 2)
  | 0x25 => .drainRequest h (fieldByte b 0) (wordAt b 1) (wordAt b 3)
  | 0x26 => .drainStop h (fieldByte b 0)
  | 0x27 => .grantAck h (fieldByte b 0) (wordAt b 1) (wordAt b 3)
  | 0x28 => .cycleRead h (fieldByte b 0)
  | 0x30 => .clockSet h (longAt b 0)
  | 0x31 => .readFrom h (longAt b 0)
  | 0x32 => .readNext h
  | 0x33 => .archiveUpto h (longAt b 0)
  | 0x34 => .closePeriod h
  | 0x35 => .countRead h (fieldByte b 0)
  | 0x36 => .spillSet h (readSpill b 0)
  | 0x37 => .gaugeSet h (readGauge b 0)
  | 0x38 => .gaugeBind h (fieldByte b 0) (readGaugeBind b 1)
  | 0x39 => .storeRead h (fieldByte b 0)
  | _ => .unassignedCode h code

/-- The head, the code and the operand bytes of an order; none for a command that is no order. -/
def orderParts : Instr → Option (Head × Nat × List Byte)
  | .nop h => some (h, 0x00, [])
  | .unassignedCode h code => some (h, code.toNat, [])
  | .identify h => some (h, 0x01, [])
  | .statusRead h g => some (h, 0x02, [g])
  | .noticesRead h => some (h, 0x03, [])
  | .noticeMask h m => some (h, 0x04, wordBytes m)
  | .portReset h => some (h, 0x05, [])
  | .saveSettings h => some (h, 0x06, [])
  | .tankRead h t p => some (h, 0x07, [t, p])
  | .alertRead h g => some (h, 0x08, [g])
  | .entryWrite h e r d l => some (h, 0x10, [e] ++ wordBytes r ++ wordBytes d ++ [l])
  | .entryPost h e => some (h, 0x11, [e])
  | .entryRecall h e => some (h, 0x12, [e])
  | .entryRead h e => some (h, 0x13, [e])
  | .scheduleKick h e => some (h, 0x14, [e])
  | .scheduleStop h => some (h, 0x15, [])
  | .leaseRenew h => some (h, 0x16, [])
  | .hold h m => some (h, 0x17, [m])
  | .release h => some (h, 0x18, [])
  | .worksSet h v => some (h, 0x19, worksBytes v)
  | .drawRead h => some (h, 0x1A, [])
  | .tankClaim h t => some (h, 0x20, [t])
  | .tankRelease h t => some (h, 0x21, [t])
  | .tankSet h t v => some (h, 0x22, [t] ++ tankBytes v)
  | .shapeSet h t v => some (h, 0x23, [t] ++ shapeBytes v)
  | .channelBind h t r v => some (h, 0x24, [t, r] ++ bindBytes v)
  | .drainRequest h t m n => some (h, 0x25, [t] ++ wordBytes m ++ wordBytes n)
  | .drainStop h t => some (h, 0x26, [t])
  | .grantAck h t s r => some (h, 0x27, [t] ++ wordBytes s ++ wordBytes r)
  | .cycleRead h t => some (h, 0x28, [t])
  | .clockSet h v => some (h, 0x30, longBytes v)
  | .readFrom h v => some (h, 0x31, longBytes v)
  | .readNext h => some (h, 0x32, [])
  | .archiveUpto h v => some (h, 0x33, longBytes v)
  | .closePeriod h => some (h, 0x34, [])
  | .countRead h o => some (h, 0x35, [o])
  | .spillSet h v => some (h, 0x36, spillBytes v)
  | .gaugeSet h v => some (h, 0x37, gaugeBytes v)
  | .gaugeBind h g v => some (h, 0x38, [g] ++ gaugeBindBytes v)
  | .storeRead h p => some (h, 0x39, [p])
  | _ => none

/-- The head of an order. -/
def orderHead (i : Instr) : Option Head := (orderParts i).map (fun q => q.1)

/-- The bytes of an order in a frame: code, guard, operands (11.1); none for a command that is no order. -/
def encodeOrder (i : Instr) : List Byte :=
  match orderParts i with
  | some (h, code, operands) => [BitVec.ofNat 8 code, h.guard] ++ operands
  | none => []

/-- The first order of some bytes, at a place in a bundle, with the bytes that follow it; none where the
code, the guard or an operand is truncated (R169). -/
def decodeOrder (p : Port) (index count : Nat) (bs : List Byte) : Option (Instr × List Byte) :=
  match bs with
  | code :: guard :: rest =>
    if operandLength code.toNat ≤ rest.length then
      some (orderOf { port := p, guard := guard, index := index, count := count } code (rest.take (operandLength code.toNat)),
        rest.drop (operandLength code.toNat))
    else none
  | _ => none

/-- The orders of a frame from a place on; none where one is truncated or bytes remain (R169). -/
def decodeOrders (p : Port) (count : Nat) : Nat → Nat → List Byte → Option (List Instr)
  | 0, _, bs => if bs = [] then some [] else none
  | k + 1, index, bs =>
    match decodeOrder p index count bs with
    | none => none
    | some (i, rest) => (decodeOrders p count k (index + 1) rest).map (fun l => i :: l)

/-- The orders of a received request; none where the frame is malformed (R169). -/
def decodeFrame (p : Port) (received : List Byte) (excess : Nat) : Option (List Instr) :=
  match received with
  | length :: bundle :: rest =>
    if 2 ≤ length.toNat ∧ length.toNat ≤ 64 ∧ length.toNat = received.length + excess
        ∧ 1 ≤ bundle.toNat ∧ bundle.toNat ≤ 4 then
      decodeOrders p bundle.toNat bundle.toNat 0 rest
    else none
  | _ => none

end Sys2Proof
end

