-- ==== Sys2Proof/Machine/Flags.lean ====
section
/-! DEFINITION. The guard of an order (R174, R175) and the attention line of a port (R178). -/

namespace Sys2Proof.Machine

/-- Bits 7 to 5 of the guard byte (11.1). -/
def guardCondition (g : Byte) : Nat := g.toNat / 32

/-- Bit 4 of the guard byte. -/
def guardInvert (g : Byte) : Bool := g.toNat / 16 % 2 = 1

/-- Bits 3 to 0 of the guard byte. -/
def guardOperand (g : Byte) : Nat := g.toNat % 16

/-- A guard is valid by its condition and operand (R174). -/
def guardValid (g : Byte) : Bool :=
  match guardCondition g with
  | 0 => guardOperand g = 0
  | 1 => decide (guardOperand g ≤ 3)
  | 2 => decide (guardOperand g ≤ 7)
  | 3 => decide (guardOperand g ≤ 7)
  | 4 => decide (guardOperand g ≤ 7)
  | 5 => guardOperand g = 0
  | 6 => guardOperand g = 0
  | _ => false

/-- The tank or outfall a guard's operand names. -/
def guardTank (g : Byte) : Fin 8 := Fin.ofNat 8 (guardOperand g)

/-- The condition of a guard on the state as it stands (R174, R175). -/
def conditionHolds (s : State) (g : Byte) : Bool :=
  match guardCondition g with
  | 0 => true
  | 1 => decide (guardOperand g ≤ alertCode s.rain.catchment)
  | 2 => (s.tank (guardTank g)).phase = .full
  | 3 => s.isSpilling (guardTank g)
  | 4 => (s.tank (guardTank g)).drain.status = .draining
  | 5 => s.allow.hold.isSome
  | 6 => s.allow.sched = .lapsed
  | _ => false

/-- The value of a guard: the condition's, inverted when the invert bit is set (R174). -/
def guardValue (s : State) (g : Byte) : Bool := conditionHolds s g ^^ guardInvert g

/-- The attention line of a port is asserted (R178). -/
def attention (s : State) (p : Port) : Bool :=
  s.stage = .running && decide ((s.port p).notices &&& (s.port p).mask ≠ 0#16)

end Sys2Proof.Machine
end

