-- ==== Sys2Proof/Machine/Image.lean ====
section
/-! DEFINITION. The working settings (R184), the image formed from them (11.5), and the judging and
loading of an image (R190). -/

namespace Sys2Proof.Machine

/-- The parameters of a channel that its kind uses, the others 0. -/
def usedParams (k : Kind) (p : ChannelParams) : ChannelParams :=
  { activeLow := p.activeLow, debounce := p.debounce
    lockout := if k = .rain then p.lockout else 0
    gate := if k = .flow then p.gate else 0
    tenths := if k = .flow then p.tenths else 0 }

/-- The binding of a binder as the settings hold it (R184). -/
def State.bindingOf (s : State) (b : Binder) : Option Binding :=
  (s.channelOf b).map (fun c => { channel := c, params := usedParams (binderKind b) (heldParams (s.channel c)) })

/-- The values of GAUGE_SET that are held (R47). -/
def State.gaugeSettings (s : State) : GaugeSettings :=
  { tips := s.rain.gauges.map (fun g => g.tipDepth), watch := s.rain.watch, warn := s.rain.warn, storm := s.rain.storm,
    tClear := s.rain.tClear }

/-- The working settings, all four sections (R184). -/
def State.workingSettings (s : State) : Settings :=
  { works := s.works, legMeter := s.bindingOf .legMeter
    tanks := Vector.ofFn (fun t : Fin 8 =>
      { owner := (s.tank t).owner, set := (s.tank t).set, level := s.bindingOf (.tank t .level),
        draw := s.bindingOf (.tank t .draw), spill := s.bindingOf (.tank t .spill) })
    spill := s.spill.set, gauges := s.gaugeSettings
    rain := Vector.ofFn (fun g : Fin 4 => s.bindingOf (.gauge g)), retired := s.retired }

/-- Image bytes whose content no rule gives (log entry 20). -/
def imageFill (offset n : Nat) : List Byte := (List.range n).map (fun i => Config.imageFill (offset + i))

def byteOf (v : Nat) : Byte := BitVec.ofNat 8 v

def wordOf (v : Nat) : Word := BitVec.ofNat 16 v

/-- The settings of a tank as the operands of TANK_SET would carry them. -/
def tankOperandsOf (v : TankSettings) : TankOperands :=
  { flags := byteOf (bit v.enabled + 2 * bit v.preEmpt + 4 * bit v.stormSuspend), cls := byteOf v.cls,
    mLimit := wordOf v.mLimit, e := byteOf v.e, fFull := wordOf v.fFull, h := byteOf v.h, tol := byteOf v.tol,
    dLo := wordOf v.dLo, dHi := wordOf v.dHi, span := wordOf v.span }

/-- A shape table as the operands of SHAPE_SET would carry it, slots beyond the count 0 (log entry 21). -/
def shapeOperandsOf (ps : List Point) : ShapeOperands :=
  { count := byteOf ps.length,
    points := Vector.ofFn (fun k : Fin 8 =>
      match ps[k.val]? with
      | some q => { level := wordOf q.level, volume := wordOf q.volume }
      | none => { level := 0#16, volume := 0#16 }) }

/-- The spill settings as the operands of SPILL_SET would carry them. -/
def spillOperandsOf (v : SpillSettings) : SpillOperands :=
  { w1 := byteOf v.w1, w2 := byteOf v.w2, tOn := wordOf v.tOn, tOff := wordOf v.tOff, p := wordOf v.p,
    dDry := byteOf v.dDry, dryGauge := byteOf (indexCode v.dryGauge) }

def thresholdOperandOf (v : Threshold) : ThresholdOperand :=
  { entryI := wordOf v.entryI, entryD := wordOf v.entryD, exitI := wordOf v.exitI, exitD := wordOf v.exitD }

/-- The gauge settings as the operands of GAUGE_SET would carry them. -/
def gaugeOperandsOf (v : GaugeSettings) : GaugeOperands :=
  { tips := v.tips.map byteOf, watch := thresholdOperandOf v.watch, warn := thresholdOperandOf v.warn,
    storm := thresholdOperandOf v.storm, tClear := byteOf v.tClear }

/-- The numeric part of the WORKS section: bytes 0 to 8 of the operands of WORKS_SET. -/
def worksNumberBytes (v : WorksSettings) : List Byte :=
  beBytes 2 v.cLeg ++ beBytes 2 v.fallback ++ beBytes 1 v.tLease ++ beBytes 2 v.tConfirm ++ beBytes 2 v.legTol

/-- Channel, polarity, debounce, gate and tenths of a binding, at an offset of the image (11.5). -/
def bindingBytes (k : Kind) (offset : Nat) : Option Binding → List Byte
  | none => [255#8] ++ imageFill (offset + 1) 5
  | some b =>
    [byteOf b.channel.val, byteOf (bit b.params.activeLow), byteOf b.params.debounce]
      ++ (if k = .flow then [byteOf b.params.gate] ++ beBytes 2 b.params.tenths else imageFill (offset + 3) 3)

/-- The GAUGE_BIND operands of a gauge from byte 1 on (11.5). -/
def gaugeBindingBytes (offset : Nat) : Option Binding → List Byte
  | none => [255#8] ++ imageFill (offset + 1) 4
  | some b =>
    [byteOf b.channel.val, byteOf (bit b.params.activeLow), byteOf b.params.debounce] ++ beBytes 2 b.params.lockout

/-- The offset of a tank's slot (11.5). -/
def tankOffset (t : Fin 8) : Nat := 32 + 80 * t.val

/-- A tank's slot of 80 bytes (11.5). -/
def tankSlot (t : Fin 8) (v : TankSection) : List Byte :=
  padTo 80 ([byteOf (ownerCode v.owner)] ++ tankBytes (tankOperandsOf v.set) ++ shapeBytes (shapeOperandsOf v.set.shape)
    ++ bindingBytes .level (tankOffset t + 49) v.level ++ bindingBytes .flow (tankOffset t + 55) v.draw
    ++ bindingBytes .spill (tankOffset t + 61) v.spill)

/-- The STORE section: count, worn flag, list (11.5). -/
def retiredBytes (r : Retired) : List Byte :=
  [byteOf r.blocks.length, byteOf (bit r.worn)]
    ++ ((r.blocks.map (fun b => byteOf b.val)) ++ List.replicate 16 255#8).take 16

/-- Bytes 0 to 1,021 of the image (11.5). -/
def imageBody (w : Settings) : List Byte :=
  padTo 8 [0x4A#8, 0x3E#8, 1#8, 0#8, 4#8, 0#8]
    ++ padTo 24 (worksNumberBytes w.works ++ bindingBytes .flow 17 w.legMeter)
    ++ (List.finRange 8).flatMap (fun t => tankSlot t (w.tanks.get t))
    ++ padTo 96 (spillBytes (spillOperandsOf w.spill) ++ gaugeBytes (gaugeOperandsOf w.gauges)
        ++ (List.finRange 4).flatMap (fun g => gaugeBindingBytes (711 + 5 * g.val) (w.rain.get g)))
    ++ padTo 254 (retiredBytes w.retired)

/-- The 1,024 bytes of the image, with a fresh CRC (R186, 11.5). -/
def formImage (w : Settings) : List Byte := imageBody w ++ wordBytes (crc16 (imageBody w))

/-- The parameters an unbound channel holds before any binding (R1). -/
def defaultParams : ChannelParams := heldParams unboundChannel

/-- A binding read from the image; the outer none is a bad channel index (R190). -/
def readBinding (k : Kind) (channel polarity debounce : Byte) (lockout gate tenths : Nat) : Option (Option Binding) :=
  (indexOrFF 16 channel).map (fun o => o.map (fun c =>
    { channel := c
      params := usedParams k (takeParams k defaultParams
        { activeLow := activeLowOf polarity, debounce := debounce.toNat, lockout := lockout, gate := gate, tenths := tenths }) }))

/-- The binding of a tank role or of the leg meter, of six bytes at an offset (11.5). -/
def readRoleBinding (k : Kind) (bs : List Byte) (i : Nat) : Option (Option Binding) :=
  let v := readBind bs i
  readBinding k v.channel v.polarity v.debounce 0 v.gate.toNat v.tenths.toNat

/-- The binding of a gauge, of five bytes at an offset (11.5). -/
def readGaugeBinding (bs : List Byte) (i : Nat) : Option (Option Binding) :=
  let v := readGaugeBind bs i
  readBinding .rain v.channel v.polarity v.debounce v.lockout.toNat 0 0

/-- The default section of an unclaimed tank (R190). -/
def unclaimedSection : TankSection :=
  { owner := .nobody, set := defaultTankSettings, level := none, draw := none, spill := none }

/-- A tank slot of the image (R190). -/
def readTankSlot (bs : List Byte) (t : Fin 8) : Option TankSection :=
  let i := tankOffset t
  match (fieldByte bs i).toNat with
  | 0 => some unclaimedSection
  | k + 1 =>
    let shape := readShape bs (i + 16)
    match readRoleBinding .level bs (i + 49), readRoleBinding .flow bs (i + 55), readRoleBinding .spill bs (i + 61) with
    | some l, some d, some p =>
      if k < 2 ∧ shapeOk shape then
        some { owner := if k = 0 then .siteA else .siteB, set := clampTank (tankSent (readTank bs (i + 1)) (shapeSent shape)),
               level := l, draw := d, spill := p }
      else none
    | _, _, _ => none

/-- The whole of a vector's entries, or none where one is none. -/
def allOf {α : Type} {n : Nat} (f : Fin n → Option α) (fallback : α) : Option (Vector α n) :=
  if (List.finRange n).all (fun i => (f i).isSome) then some (Vector.ofFn (fun i => (f i).getD fallback)) else none

/-- The STORE section of the image: 0 to 16 distinct block numbers and a worn flag of 0 or 1 (R190). -/
def readRetired (bs : List Byte) (i : Nat) : Option Retired :=
  let n := (fieldByte bs i).toNat
  let worn := (fieldByte bs (i + 1)).toNat
  let numbers := (List.range n).map (fun j => (fieldByte bs (i + 2 + j)).toNat)
  if n ≤ 16 ∧ worn ≤ 1 ∧ numbers.all (fun b => decide (b < 64)) ∧ numbers.Nodup then
    some { blocks := numbers.map (Fin.ofNat 64), worn := worn = 1 }
  else none

/-- The sections of an image (R190): the structural checks, each number at its nearest bound. -/
def readSections (bs : List Byte) : Option Settings :=
  let works := readWorks bs 8
  let spill := readSpill bs 672
  let gauges := clampGauges (gaugeSent (readGauge bs 682))
  match readRoleBinding .flow bs 17, allOf (readTankSlot bs) unclaimedSection, indexOrFF 4 spill.dryGauge,
      allOf (fun g : Fin 4 => readGaugeBinding bs (711 + 5 * g.val)) none, readRetired bs 768 with
  | some leg, some tanks, some dry, some rain, some retired =>
    if thresholdsOrdered gauges then
      some { works := clampWorks (worksSent works), legMeter := leg, tanks := tanks, spill := clampSpill (spillSent spill dry),
             gauges := gauges, rain := rain, retired := retired }
    else none
  | _, _, _, _, _ => none

/-- The judging of an image of 1,024 bytes (R190): header, CRC and sections; none is not valid. -/
def parseImage (bs : List Byte) : Option Settings :=
  if fieldAt bs 0 2 = 0x4A3E ∧ byteAt bs 2 = 1 ∧ fieldAt bs 4 2 = 1024 ∧ crc16 (bs.take 1022) = wordAt bs 1022 then
    readSections bs
  else none

/-- The default working settings (R190). -/
def defaultSettings : Settings := State.reset.workingSettings

/-- The claims of the binders on channels, in the order in which R7 names the binders. -/
def claims (w : Settings) : List (Binder × Binding) :=
  (w.legMeter.map (fun b => (Binder.legMeter, b))).toList
    ++ (List.finRange 8).flatMap (fun t =>
        ((w.tanks.get t).level.map (fun b => (Binder.tank t .level, b))).toList
          ++ ((w.tanks.get t).draw.map (fun b => (Binder.tank t .draw, b))).toList
          ++ ((w.tanks.get t).spill.map (fun b => (Binder.tank t .spill, b))).toList)
    ++ (List.finRange 4).flatMap (fun g => ((w.rain.get g).map (fun b => (Binder.gauge g, b))).toList)

/-- A channel as the settings bind it: the binder named first keeps it (R7). -/
def loadedChannel (w : Settings) (c : Fin 16) : Channel :=
  match (claims w).find? (fun q => q.2.channel = c) with
  | some (b, q) =>
    ({ unboundChannel with kind := binderKind b, binder := b } : Channel).withParams
      (takeParams (binderKind b) defaultParams q.params)
  | none => unboundChannel

/-- The blocks take the working settings (R190, R20, R41). -/
def State.loadSettings (s : State) (w : Settings) : State :=
  { s with
    works := w.works
    channels := Vector.ofFn (loadedChannel w)
    tanks := w.tanks.map (fun v => { unclaimedTank with owner := v.owner, set := v.set, weight := v.set.cls })
    rain := { s.rain with
      gauges := Vector.ofFn (fun g : Fin 4 => { idleGauge with tipDepth := w.gauges.tips.get g }),
      watch := w.gauges.watch, warn := w.gauges.warn, storm := w.gauges.storm, tClear := w.gauges.tClear }
    spill := { s.spill with set := w.spill }
    retired := w.retired }

end Sys2Proof.Machine
end

