-- ==== Sys2Proof/Machine/Save.lean ====
section
/-! DEFINITION. The saves of the settings image (R186 to R188). -/

namespace Sys2Proof.Machine

/-- The set of requesters that holds one port. -/
def requester (p : Port) : BitVec 4 := BitVec.ofNat 4 (2 ^ (portIndex p).val)

/-- The ports of a set of requesters. -/
def requesterPorts (r : BitVec 4) : List Port :=
  [Port.works, .siteA, .siteB, .record].filter (fun p => r &&& requester p ≠ 0#4)

namespace State

/-- A save begins: a snapshot, a clear changed flag, SAVING at page 0 (R186). -/
def saveStart (s : State) (r : BitVec 4) : State :=
  s.modSave (fun v =>
    { v with run := some { page := 0, step := .sending, snapshot := formImage s.workingSettings, requesters := r },
             changed := false })

/-- A request joins the follow-on (R188). -/
def joinFollowOn (s : State) (p : Port) : State :=
  s.modSave (fun v => { v with followOn := some ((v.followOn.getD 0#4) ||| requester p) })

/-- The record store asks for a save (R153, R188). -/
def storeRequest (s : State) : State :=
  if s.stage = .running then
    match s.save.run with
    | none => s.saveStart (requester .record)
    | some _ => s.joinFollowOn .record
  else s.modSave (fun v => { v with heldRequest := true })

/-- A pending follow-on begins as a new save (R188). -/
def beginFollowOn (s : State) : State :=
  match s.save.followOn with
  | none => s
  | some r => (s.modSave (fun v => { v with followOn := none })).saveStart r

/-- A save ends with a result: the requesters hear of it and a follow-on begins (R187, R188). -/
def saveEnd (s : State) (v : SaveRun) (result : SaveResult) (failed : Bool) : State :=
  ((s.modSave (fun q => { q with run := none, last := result, changed := q.changed || failed })).notifyAll .settings
    (requesterPorts v.requesters)).beginFollowOn

/-- A page fails: the save ends FAILED with the page and its cause (R187). -/
def saveFail (s : State) (v : SaveRun) (cause : SaveCause) : State := s.saveEnd v (.failed v.page cause) true

/-- The 32 bytes of the page being written (R187). -/
def savePage (v : SaveRun) : List Byte := (v.snapshot.drop (32 * v.page.val)).take 32

/-- The EEPROM's bytes of a page whose content no rule gives any more (log entry 7). -/
def scramblePage (s : State) (page : Fin 32) : State :=
  { s with eeprom := Memory.writeAll s.eeprom (32 * page.val) ((List.range 32).map (fun i => Config.eepromByte (s.freeIndex + i))),
           freeIndex := s.freeIndex + 32 }

/-- The read-back of a page shows what it holds, and is compared with the snapshot (R187). -/
def pageRead (s : State) (v : SaveRun) (data : List Byte) : State :=
  let s := { s with eeprom := Memory.writeAll s.eeprom (32 * v.page.val) data }
  if data = savePage v then
    if v.page = 31 then s.saveEnd v .saved false
    else s.modSave (fun q => { q with run := some { v with page := v.page + 1, step := .sending } })
  else s.saveFail v .mismatch

end State

end Sys2Proof.Machine
end

