-- ==== Sys2Proof/Machine/Records.lean ====
section
/-! DEFINITION. The hand-over of a record (R142 to R144) and the bytes of each kind (11.4, R195). -/

namespace Sys2Proof.Machine

/-- The kind of a record, bits 3 to 0 of byte 8 (11.4). -/
def recordKind (r : List Byte) : Nat := byteAt r 8 % 16

/-- The sequence number of a record (11.4). -/
def recordSequence (r : List Byte) : Nat := fieldAt r 0 4

/-- The record is one of the five counting kinds (R142). -/
def isCounting (r : List Byte) : Bool := decide (3 ≤ recordKind r) && decide (recordKind r ≤ 7)

/-- The outfall of a counting record (11.4). -/
def recordOutfall (r : List Byte) : Fin 8 := Fin.ofNat 8 (byteAt r 9 % 8)

namespace State

/-- The 32 bytes of a record: civil time with its flag if set, part time otherwise (R142, 11.4). -/
def recordBytes (s : State) (sequence kind subject : Nat) (body : List Byte) : List Byte :=
  beBytes 4 sequence ++ cappedBytes 4 ((s.civilTime).getD s.partTime)
    ++ [byteOf (kind + 128 * bit s.civil.isSome), byteOf subject] ++ padTo 22 body

/-- One record moves from the head of the queue into the assembly buffer (R144). -/
def assemble (s : State) (r : List Byte) (rest : List (List Byte)) : State :=
  s.modStore (fun v =>
    { v with queue := rest, assembly := v.assembly ++ [r]
             flushAt := if v.assembly = [] then some (s.partTime + 30) else v.flushAt
             due := v.due || isCounting r || decide (v.assembly.length = 15) })

/-- The assembly buffer takes records from the queue while it holds fewer than 16 (R144). -/
def fillAssembly : Nat → State → State
  | 0, s => s
  | n + 1, s =>
    match s.store.queue with
    | [] => s
    | r :: rest => if s.store.assembly.length < 16 then fillAssembly n (s.assemble r rest) else s

/-- A record is lost: the lost count rises and STORE is set (R143). -/
def loseRecord (s : State) : State :=
  (s.modStore (fun v => { v with lost := satAdd 4294967295 v.lost 1 })).notify .store .record

/-- The store becomes WORN, with the notice of an entry (R157). -/
def becomeWorn (s : State) : State :=
  if s.store.state = .worn then s else (s.modStore (fun v => { v with state := .worn })).notify .store .record

/-- A record is handed over: numbered, stamped and queued, or lost (R142, R143). The body may depend on the
number the record takes. -/
def handOver (s : State) (kind subject : Nat) (body : Nat → List Byte) : Nat × State :=
  if s.store.nextSeq < 4294967295 then
    let n := s.store.nextSeq
    let s := s.modStore (fun v => { v with nextSeq := n + 1 })
    if s.store.queue.length < 32 then
      (n, fillAssembly 16 (s.modStore (fun v => { v with queue := v.queue ++ [s.recordBytes n kind subject (body n)] })))
    else (n, s.loseRecord)
  else (0, s.loseRecord.becomeWorn)

/-- A record whose body does not depend on its number. -/
def writeRecord (s : State) (kind subject : Nat) (body : List Byte) : State :=
  (s.handOver kind subject (fun _ => body)).2

/-- The records still held, lowest first (R143). -/
def heldRecords (s : State) : List (List Byte) := s.store.program.getD [] ++ s.store.assembly ++ s.store.queue

/-- A counting record of the outfall is held (R149). -/
def holdsCounting (s : State) (o : Fin 8) : Bool := s.heldRecords.any (fun r => isCounting r && decide (recordOutfall r = o))

end State

/-- Seconds before the record's time, in three bytes that reserve 0xFFFFFF (R195). -/
def offsetBack (v : Nat) : List Byte := beBytes 3 (min v 16777214)

/-- The opening offset: own number less the event's opening number; 0xFFFFFF with no event or beyond the
field (11.4, R195). -/
def openingOffset (sequence : Nat) : Option SpillEvent → List Byte
  | none => beBytes 3 16777215
  | some v => beBytes 3 (min (sequence - v.opening) 16777215)

/-- Bytes 10 to 16 of a counting record: the totals after (11.4). -/
def totalsBytes (period count seconds : Nat) : List Byte := cappedBytes 2 period ++ cappedBytes 2 count ++ cappedBytes 3 seconds

/-- Bytes 17 to 26 of a counting record other than SPILL_OPEN: the event figures (11.4). -/
def eventBytes (sequence : Nat) (v : Option SpillEvent) : List Byte :=
  openingOffset sequence v ++ cappedBytes 2 ((v.map (fun e => e.count)).getD 0)
    ++ cappedBytes 3 ((v.map (fun e => e.seconds)).getD 0) ++ cappedBytes 2 ((v.map (fun e => e.interval)).getD 0)

/-- The flags of an event as bits from a place of the subject byte on. -/
def eventFlagBits (low : Nat) (v : SpillEvent) : Nat := low * (bit v.early + 2 * bit v.dry + 4 * bit v.unknownRain)

namespace State

/-- The body of a counting record of an outfall with an event and bytes 27 on (R138, 11.4). -/
def countingBody (s : State) (o : Fin 8) (v : Option SpillEvent) (tail : List Byte) (sequence : Nat) : List Byte :=
  totalsBytes s.spill.periodNumber (s.outfall o).count (s.outfall o).seconds ++ eventBytes sequence v ++ tail

/-- A TOTALS record with cause RECLAIM (R138, R149). -/
def reclaimTotals (s : State) (o : Fin 8) : State :=
  (s.handOver 6 (o.val + 8) (s.countingBody o (s.outfall o).event [])).2

/-- A TOTALS record with cause STRETCH_END (R122, R138). -/
def stretchTotals (s : State) (o : Fin 8) (seconds : Nat) : State :=
  (s.handOver 6 o.val (s.countingBody o (s.outfall o).event (cappedBytes 3 seconds))).2

/-- An outfall is enabled (R119). -/
def outfallEnabled (s : State) (o : Fin 8) : Bool :=
  (s.channelOf (.tank o .spill)).isSome || (s.outfall o).event.isSome || decide (0 < (s.outfall o).count)
    || decide (0 < (s.outfall o).seconds)

/-- Outfalls that are no longer enabled are no longer owed (R149). -/
def dropOwed (s : State) : State := s.modStore (fun v => { v with owed := v.owed.filter s.outfallEnabled })

/-- A CHANNEL record (R18, 11.4). -/
def channelRecord (s : State) (c : Fin 16) (entered : Bool) (cause : FaultCause) : State :=
  let k := s.channel c
  s.writeRecord 9 c.val [byteOf (kindCode k.kind), byteOf (binderCode k.binder), byteOf (bit (!entered)), byteOf (causeCode cause)]

/-- A CYCLE record of a closed cycle, ended now (R38, 11.4). -/
def cycleRecord (s : State) (t : Fin 8) (v : Cycle) (reason : EndReason) : State :=
  s.writeRecord 8 (t.val + 8 * bit v.lateStart + 16 * modeCode v.mode + 64 * endCode reason)
    (beBytes 2 v.number.toNat ++ cappedBytes 4 (s.partTime - v.start) ++ cappedBytes 2 v.peakFill
      ++ cappedBytes 4 (v.peakTime - v.start) ++ (match v.toFull with | some x => beBytes 4 (min x 4294967294) | none => beBytes 4 4294967295)
      ++ cappedBytes 4 (v.spillRef.getD 0) ++ cappedBytes 2 (v.returned.getD 0))

/-- An ALERT record (R55, 11.4): a rise names its leading gauge and figures, a step down its T_clear. -/
def alertRecord (s : State) (before after : AlertLevel) (lead : Option (Fin 4)) (i15 d60 available : Nat) : State :=
  s.writeRecord 2 (indexCode lead)
    ([byteOf (alertCode before), byteOf (alertCode after), byteOf (if lead.isSome then 0 else 1)]
      ++ cappedBytes 2 i15 ++ cappedBytes 2 d60 ++ [byteOf (if lead.isSome then 0 else s.rain.tClear), byteOf available])

/-- An OVERDUE record (R108, 11.4). -/
def overdueRecord (s : State) (t : Fin 8) (cause : OverdueCause) (time : Nat) : State :=
  let k := s.tank t
  s.writeRecord 11 t.val
    ([byteOf (overdueCauseCode cause), byteOf (ownerCode k.owner)] ++ wordBytes k.grant.serial ++ cappedBytes 2 k.grant.granted
      ++ cappedBytes 2 k.grant.confirmed ++ wordBytes k.grant.acked ++ cappedBytes 4 time)

/-- Seconds left on the hold timer; 0 with no hold (R77). -/
def holdLeft (s : State) : Nat := (s.allow.hold.map (fun x => x - s.partTime)).getD 0

/-- An ALLOWANCE record (R77, 11.4). -/
def allowanceRecord (s : State) (cause : AllowanceCause) (returned : Option (Fin 8)) (before : Nat) : State :=
  s.writeRecord 10 (indexCode s.allow.active)
    ([byteOf (allowanceCauseCode cause), byteOf (scheduleCode s.allow.sched)]
      ++ cappedBytes 2 ((s.allow.active.map (fun e => (s.entry e).rate)).getD 0)
      ++ [byteOf ((s.allow.active.map (fun e => entryStatusCode (s.entry e).status)).getD 0), byteOf (indexCode returned)]
      ++ cappedBytes 2 before ++ cappedBytes 2 s.allow.aEff ++ [byteOf (bit s.allow.hold.isSome)] ++ cappedBytes 2 s.holdLeft)

/-- An ARCHIVE record (R152, 11.4). -/
def archiveRecord (s : State) (old new : Nat) : State := s.writeRecord 12 255 (beBytes 4 old ++ beBytes 4 new)

/-- A CLOCK record (R193, 11.4). -/
def clockRecord (s : State) (before : Option Nat) : State :=
  s.writeRecord 1 255 (cappedBytes 4 (before.getD 0) ++ cappedBytes 4 (s.civilTime.getD 0) ++ beBytes 4 s.partTime)

end State

end Sys2Proof.Machine
end

