-- ==== Sys2Proof/Machine/RecordStore.lean ====
section
/-! DEFINITION. The record store: pages, ring, reclaim, retirement, relocation, reading (R145 to R161). -/

namespace Sys2Proof.Machine

/-- An entry inserted by rising first sequence number; equal numbers keep the order of the blocks (log entry 24). -/
def insertByFirst {α : Type} (key : α → Nat) (x : α) : List α → List α
  | [] => [x]
  | y :: rest => if key x < key y then x :: y :: rest else y :: insertByFirst key x rest

/-- A list sorted by rising key, equal keys in the order given. -/
def sortByFirst {α : Type} (key : α → Nat) (l : List α) : List α := l.foldl (fun acc x => insertByFirst key x acc) []

/-- The 512 data bytes of a page: slots beyond the record count stay erased (R145), as bytes 0xFF (log entry 43). -/
def pageData (records : List (List Byte)) : List Byte :=
  (records.flatten ++ List.replicate 512 255#8).take 512

/-- The bytes the spare check code covers: the mark, the first sequence number, the record count and the data check code
(R145; widths and order in log entry 43). -/
def spareBytes (v : Spare) : List Byte := [v.mark] ++ longBytes v.first ++ [v.count] ++ wordBytes v.dataCode

/-- A spare area with a fresh spare check code (R145). -/
def Spare.coded (v : Spare) : Spare := { v with spareCode := crc16 (spareBytes v) }

/-- The spare area of a page of records with a data check code (R145, R146); the mark's value is free (log entry 43). -/
def spareOf (records : List (List Byte)) (dataCode : Word) : Spare :=
  Spare.coded { mark := Config.pageMark, first := BitVec.ofNat 32 ((records.head?.map recordSequence).getD 0),
                count := BitVec.ofNat 8 records.length, dataCode := dataCode, spareCode := 0#16 }

/-- A page programmed whole, its check codes fresh (R145, R146). -/
def programmedPage (records : List (List Byte)) : Page := .programmed records (spareOf records (crc16 (pageData records)))

/-- The spare check of a page passes (R162). -/
def sparePasses : Page → Bool
  | .programmed _ spare => decide (crc16 (spareBytes spare) = spare.spareCode)
  | _ => false

/-- The data check of a page passes: its code stands in a spare area whose own check passes (R162; log entry 23). -/
def pageSound : Page → Bool
  | .programmed records spare => sparePasses (.programmed records spare) && decide (crc16 (pageData records) = spare.dataCode)
  | _ => false

/-- The records a page holds: the slots of its record count (R145). -/
def pageRecords : Page → List (List Byte)
  | .programmed records spare => records.take spare.count.toNat
  | _ => []

/-- A page left half-written: its data check fails or its spare check fails (R163; log entry 23). -/
def tornPage (unreadable : Bool) (records : List (List Byte)) : Page :=
  if unreadable then .unreadable else .programmed records (spareOf records (crc16 (pageData records) ^^^ 1#16))

/-- The first sequence number of a block's first page whose spare check passes (R163). -/
def firstSpare (b : Block) : Option Nat :=
  b.pages.toList.findSome? (fun p =>
    match p with
    | .programmed _ spare => if sparePasses p then some spare.first.toNat else none
    | _ => none)

namespace State

/-- The cells of a page. -/
def arrayPage (s : State) (r : PageRef) : Page := (s.array.get r.block).pages.get r.page

def setArrayPage (s : State) (r : PageRef) (p : Page) : State :=
  let b := s.array.get r.block
  { s with array := put s.array r.block { b with pages := put b.pages r.page p } }

/-- The cells of every page of a block become p. -/
def setArrayBlock (s : State) (b : Fin 64) (p : Page) : State :=
  { s with array := put s.array b { (s.array.get b) with pages := Vector.replicate 16 p } }

/-- A page is left half-written: unreadable or damaged, a free choice (log entry 23). -/
def tearPage (s : State) (r : PageRef) (records : List (List Byte)) : State :=
  (s.setArrayPage r (tornPage (Config.tornUnreadable s.freeIndex) records)).drawFree

def blockStatus (s : State) (b : Fin 64) : BlockStatus := s.store.status.get b

def setStatus (s : State) (b : Fin 64) (x : BlockStatus) : State :=
  s.modStore (fun v => { v with status := put v.status b x })

def isRetired (s : State) (b : Fin 64) : Bool := s.blockStatus b = .retired

/-- 64 less the blocks retired (R153). -/
def goodCount (s : State) : Nat := ((List.finRange 64).filter (fun b => !s.isRetired b)).length

/-- The ahead block: the next good block in ring order after the CURRENT block (R145). -/
def ahead (s : State) : Option (Fin 64) :=
  s.store.current.bind (fun c =>
    ((List.range 63).map (fun i => Fin.ofNat 64 (c.val + 1 + i))).find? (fun b => !s.isRetired b))

/-- The ahead block is ERASED. -/
def aheadErased (s : State) : Option (Fin 64) := s.ahead.filter (fun b => s.blockStatus b = .erased)

/-- The page table's entry of a page. -/
def tableEntry (s : State) (r : PageRef) : Option PageEntry := (s.store.table.get r.block).get r.page

def setTableEntry (s : State) (r : PageRef) (e : PageEntry) : State :=
  s.modStore (fun v => { v with table := put v.table r.block (put (v.table.get r.block) r.page (some e)) })

/-- The pages of a block leave the page table. -/
def clearTable (s : State) (b : Fin 64) : State :=
  s.modStore (fun v => { v with table := put v.table b (Vector.replicate 16 none) })

/-- The programmed pages of a block in page order. -/
def blockPages (s : State) (b : Fin 64) : List (PageRef × PageEntry) :=
  (List.finRange 16).filterMap (fun p => (s.tableEntry ⟨b, p⟩).map (fun e => (⟨b, p⟩, e)))

/-- The good blocks given, ordered by the first sequence number of their first page whose spare check passes (R163). -/
def inRingOrder (s : State) (bs : List (Fin 64)) : List (Fin 64) :=
  sortByFirst (fun b => (firstSpare (s.array.get b)).getD 0) bs

/-- Every programmed page in write order: the blocks in their order, the pages of a block in theirs (R163). -/
def writeOrder (s : State) : List (PageRef × PageEntry) :=
  (s.inRingOrder ((List.finRange 64).filter (fun b => !(s.blockPages b).isEmpty))).flatMap s.blockPages

/-- The number at which the range of the newest page ends, plus one (R145). -/
def tailSequence (s : State) : Nat := (s.heldRecords.head?.map recordSequence).getD s.store.nextSeq

/-- The oldest sequence number (R158). -/
def oldest (s : State) : Nat := (s.writeOrder.head?.map (fun q => q.2.first)).getD s.tailSequence

/-- Each programmed page with one above the end of its range (R145). -/
def ranges (s : State) : List (PageRef × PageEntry × Nat) :=
  let l := s.writeOrder
  (l.zip ((l.drop 1).map (fun q => q.2.first) ++ [s.tailSequence])).map (fun q => (q.1.1, q.1.2, q.2))

/-- The page in whose range a sequence number lies, with one above the end of the range; where ranges overlap, the first such
page in write order (R145, R159; log entry 56). -/
def pageAt (s : State) (n : Nat) : Option (PageRef × PageEntry × Nat) :=
  s.ranges.find? (fun q => decide (q.2.1.first ≤ n) && decide (n < q.2.2))

/-- A block's pages cover only numbers at or below the archive mark, or it holds none (R148). -/
def reclaimable (s : State) (b : Fin 64) : Bool :=
  (s.ranges.filter (fun q => q.1.block = b)).all (fun q => decide (q.2.2 ≤ s.store.archiveMark + 1))

/-- The outfalls whose newest programmed counting record lies in a block and that are enabled (R149). -/
def pendingOutfalls (s : State) (b : Fin 64) : List (Fin 8) :=
  (List.finRange 8).filter (fun o => s.outfallEnabled o && (s.store.notes.get o).any (fun n => n.block = b))

/-- TOTALS with cause RECLAIM asked for outfalls (R149). -/
def askTotals (s : State) (os : List (Fin 8)) : State := os.foldl (fun s o => s.reclaimTotals o) s

/-- The preparation of a reclaimable block for its erase begins (R149). -/
def prepare (s : State) (b : Fin 64) : State :=
  let os := s.pendingOutfalls b
  (s.modStore (fun v => { v with prep := some os })).askTotals os

/-- An erase is in progress. -/
def erasing (s : State) : Bool :=
  match s.store.op with
  | some (.erase _) => true
  | _ => false

/-- The reclaim check of the ahead block (R148); a block already being prepared needs nothing more (log
entry 27), and in WORN no erase is begun (R157). -/
def reclaimCheck (s : State) : State :=
  match s.ahead with
  | none => s
  | some b =>
    if s.store.state = .worn || s.blockStatus b = .erased || s.store.prep.isSome || s.erasing then s
    else if s.reclaimable b then s.prepare b
    else s

/-- The store enters FULL, with the notice (R151). -/
def enterFull (s : State) : State := (s.modStore (fun v => { v with state := .full })).notify .store .record

/-- The write point enters a block at page 0 and the reclaim check runs (R146, R150). -/
def enterBlock (s : State) (b : Fin 64) : State :=
  let s := match s.store.current with
    | some c => s.setStatus c .filled
    | none => s
  ((s.setStatus b .current).modStore (fun v => { v with current := some b, writePage := 0 })).reclaimCheck

/-- The write point has left page 15: it enters the ERASED ahead block, or the store becomes FULL (R146, step 4). -/
def leaveBlock (s : State) : State :=
  match s.aheadErased with
  | some b => s.enterBlock b
  | none => if s.store.state = .worn then s else s.enterFull

/-- Read buffers and waiting reads of a block's pages are emptied and dropped (R150, R153, R161). -/
def dropReads (s : State) (b : Fin 64) : State :=
  s.modStore (fun v =>
    { v with buffers := v.buffers.map (fun q => q.filter (fun x => x.ref.block ≠ b))
             demand := v.demand.filter (fun x => x.block ≠ b)
             prefetch := v.prefetch.filter (fun x => x.ref.block ≠ b) })

/-- Newest-counting-record notes that point into a block are cleared (R150). -/
def clearNotes (s : State) (b : Fin 64) : State :=
  s.modStore (fun v => { v with notes := v.notes.map (fun q => q.filter (fun n => n.block ≠ b)) })

/-- The STORE section becomes another; a change sets the changed flag (R185). -/
def setRetired (s : State) (r : Retired) : State :=
  if s.retired = r then s else ({ s with retired := r } : State).modSave (fun v => { v with changed := true })

/-- The block joins the retired list, or, with the list full, the worn flag is set (R153, step 2). -/
def listRetired (s : State) (b : Fin 64) : State :=
  if s.retired.blocks.length < 16 then s.setRetired { s.retired with blocks := s.retired.blocks ++ [b] }
  else s.setRetired { s.retired with worn := true }

/-- Steps 1 to 5 of a retirement (R153): the failing page, or none for an erase. -/
def retireBlock (s : State) (b : Fin 64) (page : Option (Fin 16)) : State :=
  let s := (((s.setStatus b .retired).clearTable b).dropReads b).listRetired b
  ((s.writeRecord 13 b.val [byteOf (if page.isSome then 0 else 1), byteOf (indexCode page), byteOf s.goodCount]).notify
    .store .record).storeRequest

/-- Step 6 of a retirement (R153): WORN below 48 good blocks, which ends a relocation (R155). -/
def afterRetirement (s : State) : State :=
  if s.goodCount < 48 then (s.modStore (fun v => { v with reloc := none })).becomeWorn else s.reclaimCheck

/-- The newest-counting-record notes take a programmed page's counting records, and its outfalls stop being
owed, and pending where the page lies in another block than the one being prepared (R146, R149). -/
def noteRecords (s : State) (b : Fin 64) (records : List (List Byte)) : State :=
  let cs := records.filter isCounting
  let os := cs.map recordOutfall
  s.modStore (fun v =>
    { v with notes := cs.foldl (fun n r => put n (recordOutfall r) (some { sequence := recordSequence r, block := b })) v.notes
             owed := v.owed.filter (fun o => !os.contains o)
             prep := v.prep.map (fun l => l.filter (fun o => !os.contains o)) })

/-- At each page programmed, TOTALS are asked again for the pending and the owed outfalls with no counting
record held, the pending first (R149; log entry 49). -/
def askAgain (s : State) : State :=
  let s := s.dropOwed
  let os := (s.store.prep.getD []) ++ s.store.owed.filter (fun o => !(s.store.prep.getD []).contains o)
  s.askTotals (os.filter (fun o => !s.holdsCounting o))

/-- The program buffer's page has been programmed at a place: steps 1 to 3 of R146. -/
def pageProgrammed (s : State) (r : PageRef) (records : List (List Byte)) : State :=
  let s := (s.setArrayPage r (programmedPage records)).setTableEntry r
    { first := (records.head?.map recordSequence).getD 0, count := records.length, valid := true }
  ((s.modStore (fun v => { v with program := none })).noteRecords r.block records).askAgain

/-- A program fails, or an operation of a relocation does: the store looks for an ERASED block ahead (R154, R155). -/
def seekRelocation (s : State) : State :=
  if s.store.state = .worn then s
  else if s.aheadErased.isSome then s.modStore (fun v => { v with state := .relocating })
  else s.enterFull

/-- A program of the CURRENT block fails and a relocation begins (R154). -/
def programFailed (s : State) (r : PageRef) : State :=
  let s := s.tearPage r (s.store.program.getD [])
  if s.store.state = .worn then s
  else (s.modStore (fun v => { v with reloc := some { page := r.page, next := 0 } })).seekRelocation

/-- A copy or the program of a relocation fails: the ahead block is retired and the relocation starts again (R155). -/
def relocationFailed (s : State) (r : PageRef) (records : List (List Byte)) : State :=
  let s := ((s.tearPage r records).retireBlock r.block (some r.page)).afterRetirement
  (s.modStore (fun v => { v with reloc := v.reloc.map (fun q => { q with next := 0 }) })).seekRelocation

/-- The pages of a block below a page move in the page table and the notes to another block (R154, step 3). The page from
which the cursor was last served keeps its old reference (log entry 53). -/
def movePages (s : State) (source target : Fin 64) (below : Nat) : State :=
  s.modStore (fun v =>
    { v with
      table := put (put v.table target (Vector.ofFn (fun p : Fin 16 =>
          if p.val < below then (v.table.get source).get p else (v.table.get target).get p)))
        source (Vector.replicate 16 none)
      notes := v.notes.map (fun q => q.map (fun n => if n.block = source then { n with block := target } else n)) })

/-- The relocation completes: steps 3 and 4 of R154. -/
def relocated (s : State) (r : PageRef) (records : List (List Byte)) : State :=
  match s.store.current with
  | none => s
  | some c =>
    let s := s.movePages c r.block r.page.val
    let s := (s.setStatus r.block .current).modStore (fun v =>
      { v with current := some r.block, writePage := r.page.val + 1, reloc := none })
    let s := (s.pageProgrammed r records).retireBlock c (some r.page)
    let s := s.modStore (fun v => { v with state := if v.state = .worn then .worn else .ready })
    let s := s.afterRetirement
    if r.page = 15 then s.leaveBlock else s

/-- The ahead block has been erased (R150). -/
def erased (s : State) (b : Fin 64) : State :=
  let s := ((((s.setArrayBlock b .erased).setStatus b .erased).clearTable b).dropReads b).clearNotes b
  if s.store.state = .full then
    if s.store.reloc.isSome then
      s.modStore (fun v => { v with state := .relocating, reloc := v.reloc.map (fun q => { q with next := 0 }) })
    else (s.modStore (fun v => { v with state := .ready })).enterBlock b
  else s

/-- The erase of the ahead block has failed (R156; log entries 23 and 28). -/
def eraseFailed (s : State) (b : Fin 64) : State :=
  (((s.setArrayBlock b .unreadable).clearNotes b).retireBlock b none).afterRetirement

/-- A program or a relocation copy waits at the arbiter (R146, R154). -/
def programWaiting (s : State) : Option ArrayOp :=
  match s.store.state, s.store.current, s.store.program with
  | .ready, some c, some _ =>
    if h : s.store.writePage < 16 then some (.program ⟨c, ⟨s.store.writePage, h⟩⟩ false) else none
  | .relocating, some c, _ =>
    match s.store.reloc, s.aheadErased with
    | some q, some b =>
      if h : q.next < q.page.val then some (.copy ⟨q.next, by omega⟩ c b) else some (.program ⟨b, q.page⟩ true)
    | _, _ => none
  | _, _, _ => none

/-- The erase of the ahead block waits at the arbiter: no outfall is pending, or no page can be programmed
before it (R149). -/
def eraseWaiting (s : State) : Option ArrayOp :=
  match s.ahead, s.store.prep with
  | some b, some os =>
    if s.store.state ≠ .worn && (os.isEmpty || s.store.state = .full) then some (.erase b) else none
  | _, _ => none

/-- The operation the arbiter takes when the array is free (R147): a demand read, a program or copy, an
erase, a prefetch. -/
def arbiterChoice (s : State) : Option ArrayOp :=
  match s.store.demand with
  | some r => some (.read r none)
  | none =>
    match s.programWaiting with
    | some o => some o
    | none =>
      match s.eraseWaiting with
      | some o => some o
      | none => s.store.prefetch.map (fun q => .read q.ref (some q.buffer))

/-- An operation begins; the outfalls still pending at an erase become owed (R149). -/
def beginOperation (s : State) (o : ArrayOp) : State :=
  s.modStore (fun v =>
    match o with
    | .read _ none => { v with op := some o, demand := none }
    | .read _ (some _) => { v with op := some o, prefetch := none }
    | .erase _ =>
      { v with op := some o, prep := none
               owed := v.owed ++ (v.prep.getD []).filter (fun x => !v.owed.contains x) }
    | _ => { v with op := some o })

/-- The array is free again. -/
def operationEnds (s : State) : State := s.modStore (fun v => { v with op := none })

/-- A page is in a read buffer. -/
def buffered (s : State) (r : PageRef) : Option ReadBuffer := (s.store.buffers.toList.filterMap id).find? (fun q => q.ref = r)

/-- The buffer holds the page. -/
def bufferHolds (s : State) (i : Fin 2) (r : Option PageRef) : Bool :=
  match s.store.buffers.get i, r with
  | some q, some x => q.ref = x
  | _, _ => false

/-- The buffer a demand read loads (R160). -/
def demandBuffer (s : State) : Fin 2 :=
  if (s.store.buffers.get 0).isNone then 0
  else if (s.store.buffers.get 1).isNone then 1
  else if s.bufferHolds 0 s.store.served then 1
  else if s.bufferHolds 1 s.store.served then 0
  else 1 - s.store.newer

/-- A page read completes into a buffer with the result of its data check (R160). -/
def loadBuffer (s : State) (r : PageRef) (i : Fin 2) (sound : Bool) : State :=
  s.modStore (fun v =>
    { v with buffers := put v.buffers i (some { ref := r, records := pageRecords (s.arrayPage r),
                                                sound := sound && pageSound (s.arrayPage r) }), newer := i })

/-- The next programmed page in write order after a page (R160). -/
def pageAfter (s : State) (r : PageRef) : Option PageRef :=
  (((s.writeOrder.map (fun q => q.1)).dropWhile (fun x => x ≠ r)).drop 1).head?

/-- After a demand read a prefetch of the next page is queued into the other buffer (R160). It takes the place of a prefetch
that still waits; where none is queued, one that waits stands with its buffer (log entry 50). -/
def queuePrefetch (s : State) (r : PageRef) (i : Fin 2) : State :=
  match s.pageAfter r with
  | none => s
  | some x =>
    if (s.buffered x).isSome then s
    else s.modStore (fun v => { v with prefetch := some { ref := x, buffer := 1 - i } })

/-- The operation in progress reads the page. -/
def loading (s : State) (r : PageRef) : Bool :=
  match s.store.op with
  | some (.read x _) => x = r
  | _ => false

/-- A demand read of a page is queued, in place of a waiting prefetch of it (R160). -/
def queueDemand (s : State) (r : PageRef) : State :=
  if s.loading r then s
  else s.modStore (fun v =>
    { v with demand := some r, prefetch := v.prefetch.filter (fun q => q.ref ≠ r) })

def setCursor (s : State) (n : Nat) : State := s.modStore (fun v => { v with cursor := n })

end State

/-- The answers of READ_NEXT (R159). -/
inductive ReadAnswer where
  | atEnd
  | gap (oldest : Nat)
  | record (bytes : List Byte)
  | damaged (first last : Nat)
  | busy
  deriving DecidableEq, Repr

namespace State

/-- The lowest record at or above the cursor stands in the newest page or before it (R159; log entry 25). -/
def programmedAbove (s : State) (n : Nat) : Bool :=
  match s.writeOrder.getLast? with
  | none => false
  | some (r, e) =>
    if e.valid then (pageRecords (s.arrayPage r)).any (fun x => decide (n ≤ recordSequence x)) else
      decide (n < s.tailSequence)

/-- The lowest of some records at or above a number. -/
def firstFrom (n : Nat) (rs : List (List Byte)) : Option (List Byte) := rs.find? (fun x => decide (n ≤ recordSequence x))

/-- The cases of READ_NEXT (R159), tried again after a step over lost numbers; the count bounds the tries. A page answered
DAMAGED does not count as served (log entry 48). -/
def readNext : Nat → State → ReadAnswer × State
  | 0, s => (.atEnd, s)
  | k + 1, s =>
    let n := s.store.cursor
    if n = s.store.nextSeq then (.atEnd, s)
    else if n < s.oldest then (.gap s.oldest, s.setCursor s.oldest)
    else
      match (if s.programmedAbove n then none else firstFrom n s.heldRecords) with
      | some r => (.record r, s.setCursor (recordSequence r + 1))
      | none =>
        match s.pageAt n with
        | none => readNext k (s.setCursor s.store.nextSeq)
        | some (r, e, stop) =>
          match s.buffered r with
          | none => (.busy, s.queueDemand r)
          | some q =>
            if q.sound then
              match firstFrom n q.records with
              | some x =>
                (.record x, (s.setCursor (recordSequence x + 1)).modStore (fun v => { v with served := some r }))
              | none => readNext k (s.setCursor stop)
            else (.damaged e.first (stop - 1), s.setCursor stop)

end State

end Sys2Proof.Machine
end

