-- ==== Sys2Proof/Machine/Grants.lean ====
section
/-! DEFINITION. The grant tracker: publication, acknowledgment, overdue, zeroings, draw checks (R101 to R117). -/

namespace Sys2Proof.Machine

/-- A tank is unsettled and not overdue: it stands in the set of R110. -/
def Grant.waiting (g : Grant) : Bool := g.unsettled && g.overdueSince.isNone

namespace State

/-- The set of R110 holds at least one tank. -/
def anyWaiting (s : State) : Bool := (List.finRange 8).any (fun t => (s.tank t).grant.waiting)

/-- SETTLED is set on WORKS when an event has emptied the set of R110 (R111). -/
def watchSettled (before after : State) : State :=
  if before.anyWaiting && !after.anyWaiting then after.notify .settled .works else after

/-- A tank of a publication has its grant published, and is unsettled with a deadline if it was settled (R103). -/
def publishGrant (serial : Word) (now confirm : Nat) (g : Grant) : Grant :=
  let g := { g with published := g.granted, serial := serial }
  if g.unsettled then g else { g with unsettled := true, deadline := some { setAt := now, due := now + confirm } }

/-- The tanks whose grant differs from the last published one (R97). -/
def changedGrants (s : State) : List (Fin 8) :=
  (List.finRange 8).filter (fun t => (s.tank t).grant.granted ≠ (s.tank t).grant.published)

/-- The publication of a set of grant changes under one new serial (R103). -/
def publish (s : State) (ts : List (Fin 8)) : State :=
  if ts = [] then s
  else
    let serial := s.globalSerial + 1#16
    let s := { s with globalSerial := serial }
    let s := ts.foldl (fun s t => s.modGrant t (publishGrant serial s.partTime s.works.tConfirm)) s
    ts.foldl (fun s t => s.notifyOwner .grantChanged t) s

/-- The overdue flag clears with a record of its cause; a listed tank's exclusion ends (R107, R108). -/
def clearOverdue (s : State) (t : Fin 8) (cause : OverdueCause) : State :=
  match (s.tank t).grant.overdueSince with
  | none => s
  | some since =>
    let s := (s.modGrant t (fun g => { g with overdueSince := none })).overdueRecord t cause since
    if s.listed t then s.noteTrigger else s

/-- An acknowledgment is taken (R105, step 5). -/
def acknowledge (s : State) (t : Fin 8) (serial : Word) (rate : Nat) : State :=
  s.watchSettled ((s.modGrant t (fun g =>
    { g with confirmed := rate, acked := serial, unsettled := false, deadline := none })).clearOverdue t .lateAck)

/-- The zeroing by the site's own stop or release (R109). -/
def siteZero (s : State) (t : Fin 8) (cause : OverdueCause) : State :=
  s.watchSettled ((s.modGrant t (fun g =>
    { g with granted := 0, confirmed := 0, unsettled := false, deadline := none })).clearOverdue t cause)

/-- The zeroing of a stop counts as published: it is not handed on at the reallocation (R82, R97). At a release nothing does,
so that the zeroing of a leave under R83 or R84 in the same event is still published (log entry 14). -/
def stopZero (s : State) (t : Fin 8) : State := (s.modGrant t (fun g => { g with published := 0 })).siteZero t .stopped

/-- A tank becomes overdue at its deadline (R106). -/
def becomeOverdue (s : State) (t : Fin 8) (d : Deadline) : State :=
  let after := (s.modGrant t (fun g => { g with overdueSince := some s.partTime, deadline := none })).overdueRecord t
    .deadline d.setAt
  let after := (after.notifyOwner .overdue t).notify .overdue .works
  let after := s.watchSettled after
  if after.listed t then after.noteTrigger else after

/-- The draw check of one gate result (R113). -/
def overdrawCheck (s : State) (t : Fin 8) (rate : Nat) : State :=
  let k := s.tank t
  let above := decide (max k.grant.granted k.grant.confirmed + k.set.tol < rate)
  if above then
    if k.grant.overdraw then s
    else if k.grant.overCount < 2 then s.modGrant t (fun g => { g with overCount := g.overCount + 1 })
    else ((s.modGrant t (fun g => { g with overCount := 3, overdraw := true })).notifyOwner .overdraw t).notify .overdraw .works
  else s.modGrant t (fun g => { g with overCount := 0, overdraw := false })

/-- The draw check begins afresh at a release or a binding of the draw role (R114). -/
def resetDrawCheck (s : State) (t : Fin 8) : State := s.modGrant t (fun g => { g with overCount := 0, overdraw := false })

/-- The leg check of one gate result (R115). -/
def legCheck (s : State) (rate : Nat) : State :=
  if s.allow.aEff + s.works.legTol < rate then
    if s.leg.excess then s
    else if s.leg.count < 2 then { s with leg := { s.leg with count := s.leg.count + 1 } }
    else ({ s with leg := { excess := true, count := 3 } } : State).notify .legExcess .works
  else { s with leg := { excess := false, count := 0 } }

/-- The leg check begins afresh at a release or a binding of the leg meter (R116). -/
def resetLegCheck (s : State) : State := { s with leg := { excess := false, count := 0 } }

end State

end Sys2Proof.Machine
end

