-- ==== Sys2Proof/Machine/Allocator.lean ====
section
/-! DEFINITION. The drain allocator: the share-out, leaves, and the reallocation that ends an event
(R79 to R98). -/

namespace Sys2Proof.Machine

/-- What the computation reads of a listed tank (R90). -/
structure Claim where
  tank : Fin 8
  weight : Nat
  m : Nat
  n : Nat
  deriving DecidableEq, Repr

/-- The sum of the weights (R91, step 1). -/
def weightSum (l : List Claim) : Nat := (l.map (fun c => c.weight)).sum

/-- A tentative share (R91, step 2). -/
def share (rest total : Nat) (c : Claim) : Nat := rest * c.weight / total

/-- The leftover is handed out one at a time in list order (R92). -/
def handLeftover : Nat → List (Fin 8 × Nat) → List (Fin 8 × Nat)
  | 0, l => l
  | _, [] => []
  | k + 1, (t, g) :: l => (t, g + 1) :: handLeftover k l

/-- Every unsettled tank settles at its share, the leftover handed out (R92). -/
def settleShares (rest : Nat) (l : List Claim) : List (Fin 8 × Nat) :=
  let gs := l.map (fun c => (c.tank, share rest (weightSum l) c))
  handLeftover (rest - (gs.map (fun g => g.2)).sum) gs

/-- The rounds of a pass over the unsettled tanks (R91, R92); at most one round per tank. -/
def rounds : Nat → Nat → List Claim → List (Fin 8 × Nat)
  | 0, _, _ => []
  | k + 1, rest, l =>
    let full := l.filter (fun c => decide (c.m ≤ share rest (weightSum l) c))
    if l = [] then []
    else if full = [] then settleShares rest l
    else full.map (fun c => (c.tank, c.m))
      ++ rounds k (rest - (full.map (fun c => c.m)).sum) (l.filter (fun c => !decide (c.m ≤ share rest (weightSum l) c)))

/-- The grant of a tank among those computed. -/
def grantOf (gs : List (Fin 8 × Nat)) (t : Fin 8) : Nat := ((gs.find? (fun g => g.1 = t)).map (fun g => g.2)).getD 0

/-- Of the tanks below their minimum, the one of lowest weight, the latest in the list among equals (R93). -/
def lowestLatest : List Claim → Option Claim
  | [] => none
  | c :: l =>
    match lowestLatest l with
    | none => some c
    | some d => if c.weight < d.weight then some c else some d

/-- The passes of the computation (R90, R93): the tanks of the last pass with their grants. -/
def passes : Nat → Nat → List Claim → List (Fin 8 × Nat)
  | 0, _, _ => []
  | k + 1, aEff, l =>
    let gs := rounds (l.length + 1) aEff l
    match lowestLatest (l.filter (fun c => decide (grantOf gs c.tank < c.n))) with
    | none => gs
    | some d => passes k aEff (l.filter (fun c => c.tank ≠ d.tank))

/-- The whole computation (R90): the tanks of the last pass with their grants. -/
def shareOut (aEff : Nat) (l : List Claim) : List (Fin 8 × Nat) := passes (l.length + 1) aEff l

/-- A phase that excludes a listed tank under LEVEL_FAULT (R86). -/
def Phase.blind (p : Phase) : Bool := p = .offline || p = .unknown

namespace State

/-- The STORM_SUSPEND exclusion of a tank (R88). -/
def stormExcluded (s : State) (t : Fin 8) : Bool :=
  s.rain.catchment = .storm && (s.tank t).set.stormSuspend && !(s.tank t).spilling

/-- The exclusion that names a tank's reason, none for an eligible tank (R86 to R89). -/
def exclusion (s : State) (t : Fin 8) : Option DrainReason :=
  if (s.tank t).phase.blind then some .levelFault
  else if (s.tank t).grant.overdueSince.isSome then some .overdue
  else if s.stormExcluded t then some .stormSuspend
  else none

/-- The claim of a listed tank (R90). -/
def claim (s : State) (t : Fin 8) : Claim :=
  { tank := t, weight := (s.tank t).weight, m := ((s.tank t).drain.request.map (fun r => r.m)).getD 0,
    n := ((s.tank t).drain.request.map (fun r => r.n)).getD 0 }

/-- The claims of the eligible tanks in list order (R90). -/
def claims (s : State) : List Claim := (s.drainList.filter (fun t => (s.exclusion t).isNone)).map s.claim

/-- Status, reason and grant of a listed tank after the computation (R94). -/
def allocation (s : State) (gs : List (Fin 8 × Nat)) (t : Fin 8) : DrainStatus × Option DrainReason × Nat :=
  match s.exclusion t with
  | some r => (.queued, some r, 0)
  | none =>
    if 0 < grantOf gs t then (.draining, none, grantOf gs t)
    else if !(gs.any (fun g => g.1 = t)) then (.queued, some .belowMin, 0)
    else (.queued, some (if s.allow.aEff = 0 then .allowanceZero else .shareZero), 0)

/-- At the first entry to DRAINING in a cycle the metering mode is fixed (R37). -/
def fixMode (s : State) (t : Fin 8) : State :=
  s.modCycle t (fun c =>
    match c.mode with
    | some _ => c
    | none => { c with mode := some (if (s.channelOf (.tank t .draw)).isSome then .metered else .unmetered) })

/-- One listed tank takes its status, reason and grant; an entry to DRAINING is reported to the tank tracker (R97). -/
def allocateTank (gs : List (Fin 8 × Nat)) (s : State) (t : Fin 8) : State :=
  let was := (s.tank t).drain.status
  let a := s.allocation gs t
  let s := (s.modDrain t (fun d => { d with status := a.1, reason := a.2.1 })).modGrant t (fun g => { g with granted := a.2.2 })
  if was ≠ .draining && (s.tank t).drain.status = .draining then s.fixMode t else s

/-- A reallocation: the computation, the statuses, the publication (R90 to R97). -/
def reallocate (s : State) : State :=
  let gs := shareOut s.allow.aEff s.claims
  let s := s.drainList.foldl (allocateTank gs) s
  s.publish s.changedGrants

/-- The end of an event: one reallocation if a trigger was noted (R96). Outfalls stop being owed where they stop being
enabled (dropOwed in releaseChannel, closeEvent and closePeriod); one that became owed while not enabled stops here
(R149). -/
def finishEvent (s : State) : State :=
  let s := if s.trigger then ({ s with trigger := false } : State).reallocate else s
  s.dropOwed

/-- A tank leaves the drain list (R82 to R84): its grant is zeroed at once, so that later orders of the bundle see it so, and
a trigger is noted (R95, R96). What was published of it stands until the reallocation publishes the zeroing (R97). -/
def leaveList (s : State) (t : Fin 8) (reason : DrainReason) : State :=
  ((({ s with drainList := s.drainList.filter (fun x => x ≠ t) } : State).modDrain t (fun _ =>
    { status := .out, reason := some reason, request := none })).modGrant t (fun g => { g with granted := 0 })).noteTrigger

/-- A tank joins the end of the drain list, QUEUED with reason NEW (R80). -/
def joinList (s : State) (t : Fin 8) (m n : Nat) : State :=
  (({ s with drainList := s.drainList ++ [t] } : State).modDrain t (fun _ =>
    { status := .queued, reason := some .new, request := some { m := m, n := n, stamp := s.partTime } })).noteTrigger

/-- The m and n of a listed tank change (R81, R23). -/
def setRequest (s : State) (t : Fin 8) (m n : Nat) : State :=
  match (s.tank t).drain.request with
  | none => s
  | some r =>
    if r.m = m ∧ r.n = n then s
    else (s.modDrain t (fun d => { d with request := some { r with m := m, n := n } })).noteTrigger

end State

end Sys2Proof.Machine
end

