-- ==== Sys2Proof/Machine/Tanks.lean ====
section
/-! DEFINITION. The tank tracker: level to fill, phase, band, weight, capture cycles (R19 to R40). -/

namespace Sys2Proof.Machine

/-- The volume of a level by a shape table (R26). -/
def volumeOf : List Point → Nat → Nat
  | [], _ => 0
  | [a], _ => a.volume
  | a :: b :: rest, l =>
    if l ≤ a.level then a.volume
    else if l < b.level then a.volume + (l - a.level) * (b.volume - a.volume) / (b.level - a.level)
    else volumeOf (b :: rest) l

/-- The capacity: the last point's volume (R26). -/
def capacityOf (ps : List Point) : Nat := (ps.getLast?.map (fun q => q.volume)).getD 0

/-- The fill of a volume; a capacity of 0 gives 0 (R26). -/
def fillOf (volume capacity : Nat) : Nat := if capacity = 0 then 0 else min 1000 (1000 * volume / capacity)

/-- Level, volume and fill from a level (R26). -/
def heldOf (ps : List Point) (level : Nat) : Held :=
  { level := level, volume := volumeOf ps level, fill := fillOf (volumeOf ps level) (capacityOf ps) }

/-- The raw band of a fill set directly (R33). -/
def bandDirect (fill : Nat) : Nat := if fill < 400 then 1 else if fill < 750 then 2 else 3

/-- The raw band after one evaluation: it rises at 400 and 750 and falls below 375 and 725 (R33). -/
def rawBandNext (band fill : Nat) : Nat :=
  if 750 ≤ fill ∨ (3 ≤ band ∧ 725 ≤ fill) then 3
  else if 400 ≤ fill ∨ (2 ≤ band ∧ 375 ≤ fill) then 2
  else 1

/-- The band of a tank (R34). -/
def bandOf (alert : AlertLevel) (k : Tank) : Nat :=
  if k.spilling then 4
  else if k.set.preEmpt ∧ 2 ≤ alertCode alert then min 4 (k.rawBand + 1)
  else k.rawBand

/-- The phase a first valid sample sets (R28). -/
def phaseDirect (v : TankSettings) (fill : Nat) : Phase :=
  if fill ≤ v.e then .dry else if fill < v.fFull then .wet else .full

/-- The phase tells measured water (R31). -/
def Phase.measured (p : Phase) : Bool := p = .dry || p = .wet || p = .full

namespace State

/-- Band and weight are recomputed; a changed weight of a listed tank is a trigger (R34, R95). -/
def recomputeWeight (s : State) (t : Fin 8) : State :=
  let k := s.tank t
  let band := bandOf s.rain.catchment k
  let weight := k.set.cls * band
  let s := s.modTank t (fun k => { k with band := band, weight := weight })
  if weight ≠ k.weight && s.listed t then s.noteTrigger else s

/-- A change of phase is handed to the drain allocator (R32): to DRY ends a listed tank's drain-down (R83),
to or from OFFLINE and UNKNOWN moves its LEVEL_FAULT exclusion (R86). -/
def setPhase (s : State) (t : Fin 8) (p : Phase) : State :=
  let old := (s.tank t).phase
  let s := s.modTank t (fun k => { k with phase := p })
  if old = p || !s.listed t then s
  else if p = .dry then (s.leaveList t .drained).notifyOwner .drainEnded t
  else if old.blind ≠ p.blind then s.noteTrigger
  else s

/-- A capture cycle opens (R35). Where an order and no sample takes the tank out of DRY (R31), the moment of the order and
the fill held stand for the opening sample's (log entry 44). -/
def openCycle (s : State) (t : Fin 8) (late : Bool) : State :=
  let k := s.tank t
  match k.openCycle with
  | some _ => s
  | none =>
    let number := k.counter + 1#16
    s.modTank t (fun k =>
      { k with
        counter := number
        openCycle := some
          { number := number, start := s.partTime, lateStart := late,
            peakFill := (k.held.map (fun h => h.fill)).getD 0, peakTime := s.partTime, toFull := none, spillRef := none,
            mode := none, litres := 0, admission := none, returned := none, endTime := none, endReason := none } })

/-- The returned volume of a cycle at its close (R37). -/
def returnedVolume (c : Cycle) (volume : Nat) : Option Nat :=
  match c.mode with
  | none => none
  | some .metered => some (min 65535 (c.litres / 1000))
  | some .unmetered => some (c.admission.getD 0 - volume)

/-- An open cycle closes: its record is handed over and it becomes the last closed cycle (R38). -/
def closeCycle (s : State) (t : Fin 8) (reason : EndReason) : State :=
  match (s.tank t).openCycle with
  | none => s
  | some c =>
    let volume := ((s.tank t).held.map (fun h => h.volume)).getD 0
    let c := { c with returned := returnedVolume c volume, endTime := some s.partTime, endReason := some reason }
    (s.cycleRecord t c reason).modTank t (fun k => { k with openCycle := none, lastCycle := some c })

/-- A valid sample above the peak moves the peak (R36). -/
def cyclePeak (s : State) (t : Fin 8) (fill : Nat) : State :=
  s.modCycle t (fun c => if c.peakFill < fill then { c with peakFill := fill, peakTime := s.partTime } else c)

/-- The first transition to FULL in a cycle sets its seconds to FULL (R36). -/
def cycleFull (s : State) (t : Fin 8) : State :=
  s.modCycle t (fun c => if c.toFull.isNone then { c with toFull := some (s.partTime - c.start) } else c)

/-- DRY to WET (R29, R35). -/
def dryToWet (s : State) (t : Fin 8) : State := (s.openCycle t false).setPhase t .wet

/-- WET to FULL (R29, R36). -/
def wetToFull (s : State) (t : Fin 8) : State := (s.cycleFull t).setPhase t .full

/-- WET to DRY: the cycle closes before the allocator hears of it (R29, R38). -/
def wetToDry (s : State) (t : Fin 8) : State := (s.closeCycle t .drained).setPhase t .dry

/-- The phase transitions of one evaluation from the fill held (R29). -/
def evaluatePhase (s : State) (t : Fin 8) (fill : Nat) : State :=
  let v := (s.tank t).set
  match (s.tank t).phase with
  | .dry =>
    if v.e + v.h < fill then
      if v.fFull ≤ fill then (s.dryToWet t).wetToFull t else s.dryToWet t
    else s
  | .wet => if fill ≤ v.e then s.wetToDry t else if v.fFull ≤ fill then s.wetToFull t else s
  | .full =>
    if fill < v.fFull - v.h then
      if fill ≤ v.e then (s.setPhase t .wet).wetToDry t else s.setPhase t .wet
    else s
  | _ => s

/-- The first valid sample of a tank in UNKNOWN (R28, R35, R39). -/
def firstSample (s : State) (t : Fin 8) (fill : Nat) : State :=
  let s := s.modTank t (fun k => { k with rawBand := bandDirect fill })
  match phaseDirect (s.tank t).set fill with
  | .dry => (s.closeCycle t .drained).setPhase t .dry
  | .full => ((s.openCycle t true).cycleFull t).setPhase t .full
  | p => (s.openCycle t true).setPhase t p

/-- The raw band of one evaluation (R33). -/
def evaluateBand (s : State) (t : Fin 8) (fill : Nat) : State :=
  s.modTank t (fun k => { k with rawBand := rawBandNext k.rawBand fill })

/-- Phase and raw band from the fill held, by the tank's phase (R24, R28 to R33). -/
def evaluateFill (s : State) (t : Fin 8) (fill : Nat) : State :=
  match (s.tank t).phase with
  | .offline => s
  | .unknown => (s.firstSample t fill).recomputeWeight t
  | _ => ((s.evaluatePhase t fill).evaluateBand t fill).recomputeWeight t

/-- A valid level sample reaches the tank tracker (R26). -/
def tankSample (s : State) (t : Fin 8) (level : Nat) (clamped : Bool) : State :=
  let h := heldOf (s.tank t).set.shape level
  let s := s.modTank t (fun k => { k with held := some h, clamped := clamped })
  (s.cyclePeak t h.fill).evaluateFill t h.fill

/-- The level channel of a tank is STALE (R30). -/
def levelStale (s : State) (t : Fin 8) : Bool :=
  match s.channelOf (.tank t .level) with
  | some c => (s.channel c).status = .stale
  | none => false

/-- A threshold or shape change re-evaluates phase and raw band from the fill held (R31). -/
def reevaluate (s : State) (t : Fin 8) : State :=
  match (s.tank t).held with
  | none => s
  | some h => if (s.tank t).phase.measured && !s.levelStale t then s.evaluateFill t h.fill else s

/-- The level channel is bound to a channel that is not FAULT (R27). -/
def levelSound (s : State) (t : Fin 8) : Bool :=
  match s.channelOf (.tank t .level) with
  | some c => (s.channel c).status ≠ .fault
  | none => false

/-- The last cause of OFFLINE has ended: the phase becomes UNKNOWN (R24, R27). -/
def leaveOffline (s : State) (t : Fin 8) : State :=
  if (s.tank t).set.enabled && s.levelSound t && (s.tank t).phase = .offline then s.setPhase t .unknown else s

/-- A tank is disabled (R24, R84). -/
def disableTank (s : State) (t : Fin 8) : State :=
  let s := s.closeCycle t .disabled
  let s := if s.listed t then s.leaveList t .disabled else s
  s.setPhase t .offline

/-- A lowered m_limit lowers the m and n of a listed tank (R23). -/
def lowerRequest (s : State) (t : Fin 8) : State :=
  match (s.tank t).drain.request with
  | none => s
  | some r =>
    if (s.tank t).set.mLimit < r.m then s.setRequest t (s.tank t).set.mLimit (min r.n (s.tank t).set.mLimit) else s

/-- The settings of a tank are replaced, each changed value with its effect (R23). -/
def applyTankSet (s : State) (t : Fin 8) (v : TankSettings) : State :=
  let old := (s.tank t).set
  let s := s.modTank t (fun k => { k with set := v })
  let s := if old.enabled = v.enabled then s else if v.enabled then s.leaveOffline t else s.disableTank t
  let s := s.recomputeWeight t
  let s := if old.stormSuspend ≠ v.stormSuspend && s.listed t && s.rain.catchment = .storm && !(s.tank t).spilling then
      s.noteTrigger else s
  let s := s.lowerRequest t
  if old.e ≠ v.e ∨ old.fFull ≠ v.fFull ∨ old.h ≠ v.h then s.reevaluate t else s

/-- A shape table is replaced (R25). -/
def applyShape (s : State) (t : Fin 8) (ps : List Point) : State :=
  if (s.tank t).set.shape = ps then s
  else
    let s := s.modTank t (fun k => { k with set := { k.set with shape := ps } })
    match (s.tank t).held with
    | none => s
    | some h => (s.modTank t (fun k => { k with held := some (heldOf ps h.level) })).reevaluate t

/-- The spill counter reports an entry to or an exit from SPILLING (R134): the spilling field, band and
weight (R34), the STORM_SUSPEND exclusion (R88). -/
def reportSpilling (s : State) (t : Fin 8) (yes : Bool) : State :=
  let s := (s.modTank t (fun k => { k with spilling := yes })).recomputeWeight t
  if s.listed t && s.rain.catchment = .storm && (s.tank t).set.stormSuspend then s.noteTrigger else s

/-- An open cycle with no spill reference takes the opening sequence (R36). -/
def takeSpillRef (s : State) (t : Fin 8) (opening : Nat) : State :=
  s.modCycle t (fun c => if c.spillRef.isNone then { c with spillRef := some opening } else c)

/-- A change of the alert level reaches the tanks and the allocator (R56, R88). -/
def alertChanged (s : State) (before : AlertLevel) : State :=
  let s := (List.finRange 8).foldl (fun s t => s.recomputeWeight t) s
  let moved := decide (before = .storm) ≠ decide (s.rain.catchment = .storm)
  if moved && s.drainList.any (fun t => (s.tank t).set.stormSuspend && !(s.tank t).spilling) then s.noteTrigger else s

/-- A gate volume of the draw channel is added while the tank is DRAINING (R37). -/
def addLitres (s : State) (t : Fin 8) (litres : Nat) : State :=
  if (s.tank t).drain.status = .draining then
    s.modCycle t (fun c => if c.mode.isSome then { c with litres := satAdd 4294967295 c.litres litres } else c)
  else s

/-- The first admission in a cycle fills its admission volume (R37, R80). -/
def noteAdmission (s : State) (t : Fin 8) : State :=
  let volume := (s.tank t).held.map (fun h => h.volume)
  s.modCycle t (fun c => if c.admission.isNone then { c with admission := volume } else c)

end State

end Sys2Proof.Machine
end

