-- ==== Sys2Proof/Machine/RainWatch.lean ====
section
/-! DEFINITION. The rain watch: figures, gauge levels, the catchment level and the clear timer (R41 to R58). -/

namespace Sys2Proof.Machine

/-- D15 in tenths of a millimetre (R45). -/
def Gauge.d15 (g : Gauge) : Nat := (g.five.take 3).sum * g.tipDepth

/-- I15 in tenths of a millimetre per hour (R45). -/
def Gauge.i15 (g : Gauge) : Nat := 4 * g.d15

/-- D60 (R45). -/
def Gauge.d60 (g : Gauge) : Nat := g.five.sum * g.tipDepth

/-- D24 (R45). -/
def Gauge.d24 (g : Gauge) : Nat := g.hourly.sum * g.tipDepth

/-- A gauge meets a level's entry condition (R46). -/
def meetsEntry (v : Threshold) (g : Gauge) : Bool := decide (v.entryI ≤ g.i15) || decide (v.entryD ≤ g.d60)

/-- A gauge meets a level's exit condition (R46). -/
def meetsExit (v : Threshold) (g : Gauge) : Bool := decide (g.i15 < v.exitI) && decide (g.d60 < v.exitD)

/-- A gauge is AVAILABLE (R42). -/
def Gauge.counts (g : Gauge) : Bool := g.avail = .available

/-- The level of a gauge at an evaluation (R48). -/
def gaugeLevel (r : Rain) (g : Gauge) : AlertLevel :=
  if !g.counts then .clear
  else if meetsEntry r.storm g then .storm
  else if meetsEntry r.warn g then .warn
  else if meetsEntry r.watch g then .watch
  else .clear

/-- The higher of two levels. -/
def maxLevel (a b : AlertLevel) : AlertLevel := if alertCode a < alertCode b then b else a

/-- The next lower level (R52). -/
def lowerLevel : AlertLevel → AlertLevel
  | .storm => .warn
  | .warn => .watch
  | _ => .clear

/-- The quiet condition of a level (R51). -/
def quietAt (r : Rain) : Bool :=
  let v := match r.catchment with
    | .storm => some r.storm
    | .warn => some r.warn
    | .watch => some r.watch
    | .clear => none
  match v with
  | none => false
  | some v => r.gauges.toList.all (fun g => !g.counts || meetsExit v g)

/-- Ring with a new current bin (R44). -/
def roll (n : Nat) (l : List Nat) : List Nat := (0 :: l).take n

/-- Ring with one more tip in the current bin (R43). -/
def tipRing : List Nat → List Nat
  | [] => []
  | a :: l => satAdd 65535 a 1 :: l

namespace State

/-- The number of AVAILABLE gauges (R55). -/
def availableCount (s : State) : Nat := (s.rain.gauges.toList.filter (fun g => g.counts)).length

/-- A change of the catchment level: record, notices, hand-over (R55, R56). -/
def changeLevel (s : State) (level : AlertLevel) (lead : Option (Fin 4)) : State :=
  let before := s.rain.catchment
  let s : State := { s with rain := { s.rain with catchment := level } }
  let i15 := (lead.map (fun g => (s.gauge g).i15)).getD 0
  let d60 := (lead.map (fun g => (s.gauge g).d60)).getD 0
  ((s.alertRecord before level lead i15 d60 s.availableCount).notifyAll .alert [.works, .siteA, .siteB, .record]).alertChanged
    before

/-- Step 2 of an evaluation: a rise to the highest gauge level (R50). -/
def rise (s : State) : State :=
  let top := s.rain.gauges.toList.foldl (fun l g => if g.counts then maxLevel l g.level else l) .clear
  if alertCode s.rain.catchment < alertCode top then
    s.changeLevel top ((List.finRange 4).find? (fun g => (s.gauge g).counts && (s.gauge g).level = top))
  else s

/-- Step 3 of an evaluation: the clear timer is decided (R51). -/
def decideTimer (s : State) : State :=
  let timer := if quietAt s.rain then some (s.rain.timer.getD s.partTime) else none
  { s with rain := { s.rain with timer := timer } }

/-- An evaluation (R49). -/
def evaluate (s : State) : State :=
  let gauges := s.rain.gauges.map (fun g => { g with level := gaugeLevel s.rain g })
  ({ s with rain := { s.rain with gauges := gauges } } : State).rise.decideTimer

/-- An accepted tip (R43). -/
def tip (s : State) (g : Fin 4) : State :=
  (s.modGauge g (fun v =>
    { v with five := tipRing v.five, hourly := tipRing v.hourly, totalTips := v.totalTips + 1#32 })).evaluate

/-- A tip discarded under the lockout (R43). -/
def rejectTip (s : State) (g : Fin 4) : State := s.modGauge g (fun v => { v with rejected := satAdd 65535 v.rejected 1 })

/-- A change of availability; an unbound gauge has its rings cleared (R42). -/
def setAvailability (s : State) (g : Fin 4) (a : Availability) : State :=
  if (s.gauge g).avail = a then s
  else
    (s.modGauge g (fun v =>
      if a = .unbound then { v with avail := a, five := List.replicate 12 0, hourly := List.replicate 24 0 }
      else { v with avail := a })).evaluate

/-- A five-minute boundary, with the hourly boundary when it is one (R44). -/
def rollBins (s : State) : State :=
  let n := s.rain.boundary + 1
  let hour := decide (n % 12 = 0)
  let gauges := s.rain.gauges.map (fun g =>
    { g with five := roll 12 g.five, hourly := if hour then roll 24 g.hourly else g.hourly })
  ({ s with rain := { s.rain with boundary := n, gauges := gauges } } : State).evaluate

/-- The clear timer has reached its expiry (R51). -/
def clearDue (s : State) : Bool :=
  match s.rain.timer with
  | some t => decide (t + 60 * s.rain.tClear ≤ s.partTime)
  | none => false

/-- The clear timer expires: one level down, then an evaluation (R52). -/
def stepDown (s : State) : State :=
  (({ s with rain := { s.rain with timer := none } } : State).changeLevel (lowerLevel s.rain.catchment) none).evaluate

/-- The values of GAUGE_SET take effect (R47, R53). -/
def applyGaugeSet (s : State) (v : GaugeSettings) : State :=
  let old := s.gaugeSettings
  let gauges := Vector.ofFn (fun g : Fin 4 => { s.gauge g with tipDepth := v.tips.get g })
  let s : State :=
    { s with rain := { s.rain with gauges := gauges, watch := v.watch, warn := v.warn, storm := v.storm, tClear := v.tClear } }
  let s := if ({ old with tClear := v.tClear } : GaugeSettings) = v then s else s.evaluate
  if old.tClear ≠ v.tClear && s.clearDue then s.stepDown else s

end State

end Sys2Proof.Machine
end

