-- ==== Sys2Proof/Machine/SpillCounter.lean ====
section
/-! DEFINITION. The spill counter: phases, events, intervals, periods (R118 to R141). -/

namespace Sys2Proof.Machine

/-- The rain during an event: the tip difference times the tip depth at close (R131). -/
def eventRain (tips : Option Long) (g : Gauge) : Nat := (g.totalTips - tips.getD 0#32).toNat * g.tipDepth

namespace State

/-- SPILL is set on RECORD and the owner site (R141). -/
def announceSpill (s : State) (o : Fin 8) : State := (s.notify .spill .record).notifyOwner .spill o

/-- The EARLY flag (R127). -/
def earlySpill (s : State) (o : Fin 8) : Bool :=
  (s.tank o).phase.blind || decide ((((s.tank o).held.map (fun h => h.fill)).getD 0) < s.spill.set.p)

/-- UNKNOWN_RAIN: no dry gauge, or one that is not available (R128). -/
def unknownRain (s : State) : Bool :=
  match s.spill.set.dryGauge with
  | none => true
  | some g => !(s.gauge g).counts

/-- The DRY flag (R128). -/
def drySpill (s : State) : Bool :=
  match s.spill.set.dryGauge with
  | none => false
  | some g => (s.gauge g).counts && s.rain.catchment = .clear && decide ((s.gauge g).d24 < s.spill.set.dDry)

/-- The event an entry to SPILLING opens, before its record has a number (R126 to R128). -/
def newEvent (s : State) (o : Fin 8) (start : Nat) : SpillEvent :=
  { opening := 0, start := start, interval := 1, intervalEnd := start + 3600 * s.spill.set.w1, counted := true, count := 1,
    seconds := 0, early := s.earlySpill o, dry := s.drySpill, unknownRain := s.unknownRain, phase := (s.tank o).phase,
    fill := (s.tank o).held.map (fun h => h.fill), alert := s.rain.catchment, gauge := s.spill.set.dryGauge,
    tips := s.spill.set.dryGauge.map (fun g => (s.gauge g).totalTips), d24 := s.spill.set.dryGauge.map (fun g => (s.gauge g).d24),
    blockStart := start, blockHours := s.spill.set.w1 }

/-- Bytes 17 to 31 of a SPILL_OPEN record (11.4). -/
def openBytes (s : State) (v : SpillEvent) : List Byte :=
  cappedBytes 2 (s.partTime - v.start) ++ [byteOf v.blockHours, byteOf (phaseCode v.phase + 16 * alertCode v.alert)]
    ++ (match v.fill with | some f => cappedBytes 2 f | none => beBytes 2 65535) ++ [byteOf (indexCode v.gauge)]
    ++ cappedBytes 2 (v.d24.getD 0)

/-- One more window or block counted at an outfall (R126, R129, R133). -/
def countPeriod (s : State) (o : Fin 8) : State := s.modOutfall o (fun w => { w with count := satAdd 65535 w.count 1 })

/-- An event opens (R126). -/
def openEvent (s : State) (o : Fin 8) (start : Nat) : State :=
  let s := s.countPeriod o
  let v := s.newEvent o start
  let r := s.handOver 3 (o.val + eventFlagBits 8 v)
    (fun _ => totalsBytes s.spill.periodNumber (s.outfall o).count (s.outfall o).seconds ++ s.openBytes v)
  let s := (r.2.modOutfall o (fun w => { w with event := some { v with opening := r.1 } })).notify .event .record
  if v.early then (s.notify .earlySpill .record).notifyOwner .earlySpill o else s

/-- The current interval of an event is counted, at its start or at an entry (R129). -/
def countInterval (s : State) (o : Fin 8) (atStart : Bool) : State :=
  let s := (s.countPeriod o).modEvent o (fun v => { v with counted := true, count := satAdd 65535 v.count 1 })
  match (s.outfall o).event with
  | none => s
  | some v =>
    ((s.handOver 4 (o.val + 8 * bit atStart)
      (s.countingBody o (some v) (offsetBack (s.partTime - v.blockStart) ++ [byteOf v.blockHours]))).2).notify .event .record

/-- An entry to SPILLING with its stretch start (R121); announced as an entry from PENDING or not. -/
def enterSpilling (s : State) (o : Fin 8) (stretch : Nat) (announce : Bool) : State :=
  let s := s.modOutfall o (fun w => { w with phase := .spilling stretch })
  let s := match (s.outfall o).event with
    | none => s.openEvent o stretch
    | some v => if v.counted then s else s.countInterval o false
  let opening := ((s.outfall o).event.map (fun v => v.opening)).getD 0
  let s := (s.takeSpillRef o opening).reportSpilling o true
  if announce then s.announceSpill o else s

/-- The T_off timer expires: QUIET, with the notice (R123). -/
def becomeQuiet (s : State) (o : Fin 8) : State := (s.modOutfall o (fun w => { w with phase := .quiet })).announceSpill o

/-- A stretch of spilling ends at an inactive edge (R122, R123). -/
def endStretch (s : State) (o : Fin 8) (stretch : Nat) : State :=
  let seconds := s.partTime - stretch
  let s := s.modOutfall o (fun w =>
    { w with phase := .trailing s.partTime, seconds := satAdd 4294967295 w.seconds seconds
             event := w.event.map (fun v => { v with seconds := satAdd 4294967295 v.seconds seconds }) })
  let s := (s.stretchTotals o seconds).reportSpilling o false
  if s.spill.set.tOff = 0 then s.becomeQuiet o else s

/-- An edge of the switch reaches the spill counter (R120 to R123). -/
def spillEdge (s : State) (o : Fin 8) (active : Bool) : State :=
  if (s.outfall o).switch = active then s
  else
    let s := s.modOutfall o (fun w => { w with switch := active })
    match (s.outfall o).phase, active with
    | .quiet, true =>
      if s.spill.set.tOn = 0 then s.enterSpilling o s.partTime true
      else s.modOutfall o (fun w => { w with phase := .pending s.partTime })
    | .pending _, false => s.modOutfall o (fun w => { w with phase := .quiet })
    | .spilling stretch, false => s.endStretch o stretch
    | .trailing _, true => s.enterSpilling o s.partTime false
    | _, _ => s

/-- The next block of an event begins; it is counted at its start if the outfall is SPILLING (R130). -/
def nextBlock (s : State) (o : Fin 8) : State :=
  let s := s.modEvent o (fun v =>
    { v with interval := satAdd 4294967295 v.interval 1, blockStart := v.intervalEnd, blockHours := s.spill.set.w2,
             intervalEnd := v.intervalEnd + 3600 * s.spill.set.w2, counted := false })
  if s.isSpilling o then s.countInterval o true else s

/-- The rain bytes of a SPILL_CLOSE record (R131, R195). -/
def rainBytes (s : State) (v : SpillEvent) : List Byte :=
  match v.gauge with
  | none => beBytes 2 65535
  | some g => beBytes 2 (min 65534 (eventRain v.tips (s.gauge g)))

/-- RAIN_PARTIAL: the gauge noted is not available at close (R131). -/
def rainPartial (s : State) (v : SpillEvent) : Bool :=
  match v.gauge with
  | none => false
  | some g => !(s.gauge g).counts

/-- An event closes with reason QUIET_BLOCK (R131); an outfall that this leaves not enabled is no longer owed (R149). -/
def closeEvent (s : State) (o : Fin 8) (v : SpillEvent) : State :=
  let s := (s.handOver 5 (o.val + eventFlagBits 16 v + 128 * bit (s.rainPartial v))
    (s.countingBody o (some v) (offsetBack (s.partTime - v.start) ++ s.rainBytes v))).2
  ((s.notify .event .record).modOutfall o (fun w => { w with event := none })).dropOwed

/-- The end of the current interval of an event (R130). -/
def endInterval (s : State) (o : Fin 8) (v : SpillEvent) : State :=
  if v.interval = 1 ∨ v.counted then s.nextBlock o else s.closeEvent o v

/-- The start from which an outfall is PENDING. -/
def pendingSince (s : State) (o : Fin 8) : Option Nat :=
  match (s.outfall o).phase with
  | .pending t => some t
  | _ => none

/-- The start from which an outfall is TRAILING. -/
def trailingSince (s : State) (o : Fin 8) : Option Nat :=
  match (s.outfall o).phase with
  | .trailing t => some t
  | _ => none

/-- A PENDING outfall whose new T_on has been reached enters SPILLING (R137). -/
def reachOn (s : State) (o : Fin 8) : State :=
  match s.pendingSince o with
  | some t => if t + s.spill.set.tOn ≤ s.partTime then s.enterSpilling o t true else s
  | none => s

/-- A TRAILING outfall whose new T_off has been reached becomes QUIET (R137). -/
def reachOff (s : State) (o : Fin 8) : State :=
  match s.trailingSince o with
  | some t => if t + s.spill.set.tOff ≤ s.partTime then s.becomeQuiet o else s
  | none => s

/-- The spill settings take effect (R137). -/
def applySpillSet (s : State) (v : SpillSettings) : State :=
  let old := s.spill.set
  let s : State := { s with spill := { s.spill with set := v } }
  let s := if old.tOn = v.tOn then s else (List.finRange 8).foldl reachOn s
  if old.tOff = v.tOff then s else (List.finRange 8).foldl reachOff s

/-- The enabled outfalls in index order (R119). -/
def enabledOutfalls (s : State) : List (Fin 8) := (List.finRange 8).filter s.outfallEnabled

/-- The number of the period after this one (R135). -/
def nextPeriod (s : State) : Nat := if s.spill.periodNumber = 4294967295 then 1 else s.spill.periodNumber + 1

/-- The PERIOD record of an outfall (R135, R138). -/
def periodRecord (s : State) (o : Fin 8) : State :=
  let w := s.outfall o
  (s.handOver 7 o.val (fun n => totalsBytes s.nextPeriod 0 0 ++ eventBytes n w.event ++ cappedBytes 2 w.count
    ++ cappedBytes 3 w.seconds)).2

/-- Step 3 of CLOSE_PERIOD (R135); outfalls that this leaves not enabled are no longer owed (R149). -/
def closePeriod (s : State) : State :=
  let os := s.enabledOutfalls
  let s := os.foldl periodRecord s
  let s := os.foldl (fun s o => s.modOutfall o (fun w => { w with count := 0, seconds := 0 })) s
  ({ s with spill := { s.spill with periodNumber := s.nextPeriod } } : State).dropOwed

end State

end Sys2Proof.Machine
end

