-- ==== Sys2Proof/Machine/Channels.lean ====
section
/-! DEFINITION. The measurement front: starting, releasing and binding a channel, its edges and samples
(R1 to R18). -/

namespace Sys2Proof.Machine

/-- The debounced state a raw line level stands for (R8). -/
def Channel.levelActive (c : Channel) (high : Bool) : Bool := high != c.activeLow

/-- The line has held its level for the debounce time at a moment (R7, R8). -/
def Channel.heldLong (c : Channel) (now : Nat) : Bool :=
  match c.since with
  | some t => decide (t + 1000 * c.debounce ≤ now)
  | none => false

/-- The limit of an active time and of a period, in microseconds (R12). -/
def periodLimit : Nat := 65535

/-- A period saturates: discarded, and the status becomes SATURATED from OK (R12). -/
def Channel.saturate (c : Channel) : Channel :=
  { c with level := { c.level with period := none }, status := if c.status = .ok then .saturated else c.status }

/-- An accepted active edge of a LEVEL channel closes the period and begins the next one (R12). -/
def Channel.levelRise (c : Channel) (at_ : Nat) : Channel :=
  let closed := match c.level.period with
    | some { start := t, fall := some f } =>
      if at_ - t < periodLimit then
        { c with level := { c.level with sumActive := c.level.sumActive + (f - t), sumPeriod := c.level.sumPeriod + (at_ - t) } }
      else c.saturate
    | _ => c
  { closed with level := { closed.level with period := some { start := at_, fall := none } } }

/-- An accepted inactive edge of a LEVEL channel ends the active time (R12). -/
def Channel.levelFall (c : Channel) (at_ : Nat) : Channel :=
  match c.level.period with
  | some q =>
    if at_ - q.start < periodLimit then { c with level := { c.level with period := some { q with fall := some at_ } } }
    else c.saturate
  | none => c

/-- The duty sample of the periods completed in a second (R13). -/
def LevelRun.sample (l : LevelRun) : Option Nat :=
  if l.sumPeriod = 0 then none else some (1000 * l.sumActive / l.sumPeriod)

/-- The level of a duty sample by the tank's duty map, with the CLAMPED flag; none is out of range (R14). -/
def mapDuty (v : TankSettings) (duty : Nat) : Option (Nat × Bool) :=
  if v.dLo ≤ duty ∧ duty ≤ v.dHi then some ((duty - v.dLo) * v.span / (v.dHi - v.dLo), false)
  else if duty < v.dLo ∧ v.dLo - 50 ≤ duty then some (0, true)
  else if v.dHi < duty ∧ duty ≤ v.dHi + 50 then some (v.span, true)
  else none

/-- The rate of a gate (R16). -/
def gateRate (c : Channel) : Nat := c.flow.pulses * c.tenths / (10 * c.gate)

/-- The volume of a gate in litres (R16). -/
def gateLitres (c : Channel) : Nat := c.flow.pulses * c.tenths / 10

namespace State

/-- A channel starts (R7). -/
def startChannel (s : State) (c : Fin 16) : State :=
  s.modChannel c (fun k =>
    { k with status := .ok, active := false, settled := false, since := some s.clock, rain := noRain
             level := { noLevel with reference := s.partTime, sampledAt := s.partTime }
             flow := { noFlow with gateStart := s.partTime } })

/-- The CHANNEL notice is set on the binder's port and on RECORD (R18). -/
def notifyChannel (s : State) (b : Binder) : State := (s.notifyAll .channel (s.binderPorts b)).notify .channel .record

/-- A channel enters or leaves FAULT: status, record, notices (R18). -/
def faultChange (s : State) (c : Fin 16) (entered : Bool) (cause : FaultCause) : State :=
  ((s.modChannel c (fun k => { k with status := if entered then .fault else .ok })).channelRecord c entered cause).notifyChannel
    (s.channel c).binder

/-- The binder's block is told that the binder holds no channel any more (R5). -/
def tellReleased (s : State) : Binder → State
  | .tank t .level => s.setPhase t .offline
  | .tank t .draw => s.resetDrawCheck t
  | .tank _ .spill => s
  | .gauge g => s.setAvailability g .unbound
  | .legMeter => s.resetLegCheck
  | .none => s

/-- The binder's block is told of a new binding (R2, step 4). -/
def tellBound (s : State) : Binder → State
  | .tank t .level => s.leaveOffline t
  | .tank t .draw => s.resetDrawCheck t
  | .tank _ .spill => s
  | .gauge g => s.setAvailability g .available
  | .legMeter => s.resetLegCheck
  | .none => s

/-- A SPILL channel whose debounced state is ACTIVE delivers an inactive edge at its release (R5). -/
def closingEdge (s : State) (c : Fin 16) : State :=
  match (s.channel c).binder with
  | .tank t .spill => if (s.channel c).active then s.spillEdge t false else s
  | _ => s

/-- A channel is released, with its effects in the order of R5; an outfall that this leaves not enabled is no longer
owed (R149). -/
def releaseChannel (s : State) (c : Fin 16) : State :=
  let b := (s.channel c).binder
  let s := s.closingEdge c
  let s := if (s.channel c).status = .fault then s.faultChange c false .unbound else s
  let s := s.tellReleased b
  (s.modChannel c (fun k => unboundChannel.withParams (heldParams k))).dropOwed

/-- The parameters of a channel held change (R9). -/
def changeParams (s : State) (c : Fin 16) (p : ChannelParams) : State :=
  let old := heldParams (s.channel c)
  let s := s.modChannel c (fun k => k.withParams p)
  let s := if old.activeLow = p.activeLow then s
    else s.modChannel c (fun k => { k with settled := false, since := some s.clock, level := { k.level with period := none } })
  if (s.channel c).kind = .flow ∧ (old.gate ≠ p.gate ∨ old.tenths ≠ p.tenths) then
    s.modChannel c (fun k => { k with flow := { k.flow with pulses := 0, gateStart := s.partTime } })
  else s

/-- A binder takes a channel it does not hold (R2, step 4). -/
def takeChannel (s : State) (b : Binder) (c : Fin 16) (sent : ChannelParams) : State :=
  let s := match s.channelOf b with
    | some old => s.releaseChannel old
    | none => s
  let s := s.modChannel c (fun k =>
    ({ k with kind := binderKind b, binder := b } : Channel).withParams (takeParams (binderKind b) (heldParams k) sent))
  (s.startChannel c).tellBound b

/-- The named channel is held by a different binder (R2, step 2). -/
def claimedByOther (s : State) (b : Binder) : Option (Fin 16) → Bool
  | none => false
  | some c => (s.channel c).binder ≠ .none && (s.channel c).binder ≠ b

/-- A binding order that passes its checks is applied (R2, steps 3 to 5). -/
def applyBinding (s : State) (b : Binder) (target : Option (Fin 16)) (sent : ChannelParams) : State :=
  match target with
  | none =>
    match s.channelOf b with
    | some c => s.releaseChannel c
    | none => s
  | some c =>
    if (s.channel c).binder = b then s.changeParams c (takeParams (binderKind b) (heldParams (s.channel c)) sent)
    else s.takeChannel b c sent

/-- A raw line takes a level; a bound channel in RUNNING begins or drops a candidate (R8), and a settling
begins anew (R7). -/
def lineChange (s : State) (c : Fin 16) (high : Bool) : State :=
  if s.lines.get c = high then s
  else
    let s : State := { s with lines := put s.lines c high }
    if s.stage ≠ .running ∨ (s.channel c).binder = .none then s
    else s.modChannel c (fun k =>
      { k with since := if k.settled && (k.levelActive high) == k.active then none else some s.clock })

/-- A RAIN channel leaves FAULT with cause RELEASED, and the rain watch is told (R11, R42). -/
def rainReleased (s : State) (c : Fin 16) : State :=
  let b := (s.channel c).binder
  let s := s.faultChange c false .released
  match b with
  | .gauge g => s.setAvailability g .available
  | _ => s

/-- A candidate is discarded under the lockout (R10). -/
def locked (s : State) (c : Fin 16) : Bool :=
  match (s.channel c).rain.lastTip with
  | some t => decide (s.clock < t + 1000 * (s.channel c).lockout)
  | none => false

/-- An accepted active edge of a RAIN channel (R10, R11). -/
def rainRise (s : State) (c : Fin 16) (g : Fin 4) : State :=
  let stuck := if (s.channel c).status = .fault then none else some s.partTime
  let s := s.modChannel c (fun k => { k with rain := { k.rain with stuckFrom := stuck } })
  if s.locked c then s.rejectTip g
  else (s.modChannel c (fun k => { k with rain := { k.rain with lastTip := some s.clock } })).tip g

/-- The 10 s stuck timing stops (R11). -/
def stopStuck (s : State) (c : Fin 16) : State := s.modChannel c (fun k => { k with rain := { k.rain with stuckFrom := none } })

/-- An accepted inactive edge of a RAIN channel (R11). -/
def rainFall (s : State) (c : Fin 16) : State :=
  let s := s.stopStuck c
  if (s.channel c).status = .fault then s.rainReleased c else s

/-- An accepted edge is acted on by the channel's kind (R8); at_ is its change instant. -/
def actOnEdge (s : State) (c : Fin 16) (at_ : Nat) (active : Bool) : State :=
  match (s.channel c).binder with
  | .gauge g => if active then s.rainRise c g else s.rainFall c
  | .tank _ .level => s.modChannel c (fun k => if active then k.levelRise at_ else k.levelFall at_)
  | .tank t .spill => s.spillEdge t active
  | .none => s
  | _ =>
    if active then s.modChannel c (fun k => { k with flow := { k.flow with pulses := min 65535 (k.flow.pulses + 1) } })
    else s

/-- The candidate change is accepted (R8). -/
def acceptEdge (s : State) (c : Fin 16) : State :=
  let k := s.channel c
  (s.modChannel c (fun k => { k with active := !k.active, since := none })).actOnEdge c (k.since.getD s.clock) (!k.active)

/-- The settling ends: the debounced state is taken from the line (R7, R9, R11, R17). -/
def settleChannel (s : State) (c : Fin 16) : State :=
  let old := (s.channel c).active
  let new := (s.channel c).levelActive (s.lines.get c)
  let s := s.modChannel c (fun k => { k with active := new, settled := true, since := none })
  match (s.channel c).binder with
  | .gauge _ =>
    if (s.channel c).status = .fault then (if new then s else s.rainReleased c)
    else s.modChannel c (fun k => { k with rain := { k.rain with stuckFrom := if new then some s.partTime else none } })
  | .tank t .spill => if new = old then s else s.spillEdge t new
  | _ => s

/-- A RAIN channel enters FAULT with cause STUCK (R11). -/
def becomeStuck (s : State) (c : Fin 16) : State :=
  let b := (s.channel c).binder
  let s := (s.stopStuck c).faultChange c true .stuck
  match b with
  | .gauge g => s.setAvailability g .fault
  | _ => s

/-- A valid sample returns the channel to OK, with the record and notices of an exit from FAULT (R14, R15). -/
def levelReturns (s : State) (c : Fin 16) (t : Fin 8) : State :=
  if (s.channel c).status = .fault then (s.faultChange c false .sample).leaveOffline t
  else s.modChannel c (fun k => { k with status := .ok })

/-- A duty sample is mapped; a valid one is handed to the tank tracker (R14). -/
def levelSample (s : State) (c : Fin 16) (t : Fin 8) (duty : Nat) : State :=
  match mapDuty (s.tank t).set duty with
  | none => s
  | some (level, clamped) =>
    let s := s.levelReturns c t
    let s := s.modChannel c (fun k =>
      { k with level := { k.level with duty := some duty, level := some level, clamped := some clamped,
                                       lastValid := some s.partTime, reference := s.partTime } })
    s.tankSample t level clamped

/-- The boundary of a second at a LEVEL channel (R13). -/
def levelSecond (s : State) (c : Fin 16) (t : Fin 8) : State :=
  let sample := (s.channel c).level.sample
  let s := s.modChannel c (fun k =>
    { k with level := { k.level with sumActive := 0, sumPeriod := 0, sampledAt := s.partTime } })
  match sample with
  | none => s
  | some duty => s.levelSample c t duty

/-- A LEVEL channel enters FAULT with cause NO_SAMPLE and its tank goes OFFLINE (R15, R27). -/
def levelFault (s : State) (c : Fin 16) (t : Fin 8) : State := (s.faultChange c true .noSample).setPhase t .offline

/-- A gate's result reaches the binder's blocks (R16). -/
def handGate (s : State) (b : Binder) (rate litres : Nat) : State :=
  match b with
  | .tank t .draw => (s.overdrawCheck t rate).addLitres t litres
  | .legMeter => s.legCheck rate
  | _ => s

/-- The end of a gate (R16). -/
def endGate (s : State) (c : Fin 16) : State :=
  let k := s.channel c
  let s := s.handGate k.binder (gateRate k) (gateLitres k)
  s.modChannel c (fun q =>
    { q with status := if k.flow.pulses = 65535 then .saturated else .ok
             flow := { pulses := 0, gateStart := k.flow.gateStart + k.gate, rate := some (gateRate k), litres := some (gateLitres k) } })

end State

end Sys2Proof.Machine
end

