-- ==== Sys2Proof/Machine/Allowance.lean ====
section
/-! DEFINITION. The allowance unit: entries, schedule, lease, hold and the effective allowance (R59 to R78). -/

namespace Sys2Proof.Machine

/-- The sites and WORKS, to which LEASE and HOLD go (R78). -/
def leasePorts : List Port := [.works, .siteA, .siteB]

namespace State

/-- The value A_eff is formed to (R75). -/
def formedAllowance (s : State) : Nat :=
  let base :=
    if s.allow.hold.isSome then 0
    else match s.allow.sched with
      | .idle => s.works.fallback
      | .lapsed => s.works.fallback
      | _ => (s.allow.active.map (fun e => (s.entry e).rate)).getD 0
  min base s.works.cLeg

/-- A_eff is formed afresh; a new value is handed to the drain allocator (R75, R95). -/
def formAllowance (s : State) : State :=
  if s.formedAllowance = s.allow.aEff then s
  else (s.modAllow (fun a => { a with aEff := s.formedAllowance })).noteTrigger

/-- A_eff is formed afresh and an ALLOWANCE record tells the event (R75, R77). -/
def allowanceEvent (s : State) (cause : AllowanceCause) (returned : Option (Fin 8)) : State :=
  s.formAllowance.allowanceRecord cause returned s.allow.aEff

/-- The remaining of an entry as a read reports it: the active entry's counts down in RUNNING (R64). -/
def remainingNow (s : State) (e : Fin 8) : Option Nat :=
  if s.allow.sched = .running ∧ s.allow.active = some e then
    (s.entry e).remaining.map (fun r => r - (s.partTime - s.allow.runSince))
  else (s.entry e).remaining

/-- The active entry keeps the remaining it has now (R64). -/
def freezeActive (s : State) : State :=
  match s.allow.active with
  | none => s
  | some e => s.modEntry e (fun v => { v with remaining := s.remainingNow e })

/-- The lease is renewed in RUNNING and STALLED (R70). -/
def renewLease (s : State) : State :=
  if s.allow.sched = .running ∨ s.allow.sched = .stalled then s.modAllow (fun a => { a with lease := some s.partTime }) else s

/-- The linked entry of an entry, if PART holds it (R66, R67). -/
def successor (s : State) (e : Fin 8) : Option (Fin 8) := (s.entry e).link.filter (fun f => (s.entry f).byPart)

/-- The schedule advances from an entry, which returns DONE, to its successor (R66, R67). -/
def advance (s : State) (e f : Fin 8) : State :=
  let s := s.modEntry e (fun v => { v with byPart := false, status := .done })
  let s := s.modAllow (fun a => { a with active := some f, runSince := s.partTime, sched := .running })
  (s.notify .schedule .works).allowanceEvent .advance (some e)

/-- The active entry runs out (R66). -/
def expireEntry (s : State) (e : Fin 8) : State :=
  let s := s.modEntry e (fun v => { v with remaining := some 0 })
  match s.successor e with
  | some f => s.advance e f
  | none =>
    let s := s.modEntry e (fun v => { v with status := .overrun })
    ((s.modAllow (fun a => { a with sched := .stalled })).notify .schedule .works).allowanceEvent .stall none

/-- The active entry's remaining has reached 0 in RUNNING (R66). -/
def expiryDue (s : State) : Option (Fin 8) :=
  if s.allow.sched = .running then s.allow.active.filter (fun e => s.remainingNow e = some 0) else none

/-- A kick starts the schedule from IDLE (R65). -/
def startSchedule (s : State) (e : Fin 8) : State :=
  (s.modAllow (fun a => { a with active := some e, sched := .running, runSince := s.partTime, lease := some s.partTime })).allowanceEvent
    .kickStart none

/-- A kick in LAPSED resumes the schedule; an entry that had run out then expires at once (R68). -/
def resumeSchedule (s : State) : State :=
  let stalled := s.allow.active.any (fun e => (s.entry e).status = .overrun)
  let s := (s.modAllow (fun a =>
    { a with sched := if stalled then .stalled else .running, runSince := s.partTime, lease := some s.partTime })).allowanceEvent
    .resume none
  match s.expiryDue with
  | some e => s.expireEntry e
  | none => s

/-- SCHEDULE_STOP ends the schedule (R69). -/
def stopSchedule (s : State) : State :=
  let posted := (List.finRange 8).filter (fun e => (s.entry e).byPart)
  let active := s.allow.active
  let s := s.freezeActive
  let s := posted.foldl (fun s e =>
    s.modEntry e (fun v => { v with byPart := false, status := if active = some e then .cut else .abandoned })) s
  let s := s.modAllow (fun a => { a with active := none, sched := .idle, lease := none })
  if posted = [] then s.formAllowance else s.allowanceEvent .stop none

/-- The lease lapses (R71). -/
def lapseLease (s : State) : State :=
  let s := s.freezeActive
  let s := s.modAllow (fun a => { a with sched := .lapsed, lease := none })
  (s.allowanceEvent .lapse none).notifyAll .lease leasePorts

/-- The lease timer has reached its expiry (R70). -/
def leaseDue (s : State) : Bool :=
  match s.allow.lease with
  | some t => decide (t + 60 * s.works.tLease ≤ s.partTime)
  | none => false

/-- The lease timer expires in RUNNING or STALLED (R71). -/
def lapseDue (s : State) : Bool := (s.allow.sched = .running || s.allow.sched = .stalled) && s.leaseDue

/-- A hold starts or is reloaded (R73). -/
def startHold (s : State) (minutes : Nat) : State :=
  let held := s.allow.hold.isSome
  let s := s.modAllow (fun a => { a with hold := some (s.partTime + 60 * minutes) })
  if held then s.allowanceEvent .holdReload none
  else (s.allowanceEvent .holdStart none).notifyAll .hold leasePorts

/-- A hold ends (R74). -/
def endHold (s : State) (cause : AllowanceCause) : State :=
  ((s.modAllow (fun a => { a with hold := none })).allowanceEvent cause none).notifyAll .hold leasePorts

/-- The WORKS settings take effect (R76): A_eff and its LIMIT record first, then a lapse and its LAPSE record (log
entry 45). R76 gives effects of changed values, so a T_lease equal to the one held lapses nothing here, though the lease be
due; that lapse is its own event's, LEASE_LAPSE (log entry 52). -/
def applyWorksSet (s : State) (v : WorksSettings) : State :=
  let old := s.works
  let s : State := { s with works := v }
  let s := if s.formedAllowance = s.allow.aEff then s else s.allowanceEvent .limit none
  if old.tLease ≠ v.tLease && s.lapseDue then s.lapseLease else s

end State

end Sys2Proof.Machine
end

