-- ==== Sys2Proof/Machine/StartUp.lean ====
section
/-! DEFINITION. RESET and start-up: abandoning what is in progress, LOADING, the format and the scan of the
store, and the entry to RUNNING (R139, R162 to R164, R189 to R191). -/

namespace Sys2Proof.Machine

namespace State

/-- A program, copy or erase cut short leaves torn pages in the array (R163, R189; log entry 23). -/
def tearOperation (s : State) : State :=
  match s.store.op with
  | some (.program r _) => s.tearPage r (s.store.program.getD [])
  | some (.copy p source target) => s.tearPage ⟨target, p⟩ (pageRecords (s.arrayPage ⟨source, p⟩))
  | some (.erase b) => s.setArrayBlock b .unreadable
  | _ => s

/-- Every block takes its state after start-up; what survives is the array, the EEPROM, the lines and the
commands waiting (R166, R189). -/
def restart (s : State) (stage : Stage) : State :=
  let s := s.tearOperation
  { State.reset with stage := stage, freeIndex := s.freeIndex, lines := s.lines, eeprom := s.eeprom, array := s.array,
                     pending := s.pending }

/-- LOADING ends with the image judged valid, or not valid and CONFIG_DEFAULTED raised (R190). -/
def imageRead (s : State) (w : Option Settings) : State :=
  match w with
  | some v => (s.loadSettings v).modSave (fun q => { q with changed := false, source := .image })
  | none =>
    ((s.loadSettings defaultSettings).modSave (fun q => { q with changed := true, source := .defaults })).notifyAll .settings
      [.works, .siteA, .siteB, .record]

/-- The blocks of the retired list take no part in the ring (R145, R162). -/
def markRetired (s : State) : State := s.retired.blocks.foldl (fun s b => s.setStatus b .retired) s

/-- A page of any good block passes its spare check; otherwise the store is blank (R162). -/
def storeBlank (s : State) : Bool :=
  (List.finRange 64).all (fun b => s.retired.blocks.contains b || (s.array.get b).pages.toList.all (fun p => !sparePasses p))

/-- The store stage begins: the store reads every good block (R162). -/
def beginStore (s : State) : State :=
  let s : State := { s with stage := .store }
  (s.markRetired).modStore (fun v => { v with state := if s.storeBlank then .formatting else .scanning })

/-- A channel that the settings bind starts at RUNNING (R7). -/
def startBound (s : State) (c : Fin 16) : State :=
  if (s.channel c).binder = .none then s else s.startChannel c

/-- The phase of a tank on entry to RUNNING (R20). -/
def startTank (s : State) (t : Fin 8) : State :=
  s.modTank t (fun k => { k with phase := if k.set.enabled && s.levelSound t then .unknown else .offline })

/-- A gauge whose channel starts at RUNNING is AVAILABLE from that moment (R41, R42). -/
def startGauge (s : State) (g : Fin 4) : State :=
  if (s.channelOf (.gauge g)).isSome then s.setAvailability g .available else s

/-- The save that the store asked for during start-up begins (R188). -/
def beginHeldSave (s : State) : State :=
  if s.save.heldRequest then (s.modSave (fun v => { v with heldRequest := false })).saveStart (requester .record) else s

/-- A port on entry to RUNNING: IDLE, with no response pending; its notices and its mask stand (R166, R191). -/
def clearTransfer (q : PortState) : PortState :=
  { q with transfer := .idle, received := [], excess := 0, response := none, sendPos := 0 }

/-- The part enters RUNNING (R191). -/
def enterRunning (s : State) : State :=
  let s : State := { s with stage := .running, ports := s.ports.map clearTransfer }
  let s := (List.finRange 16).foldl startBound s
  let s := (List.finRange 8).foldl startTank s
  let s : State := { s with rain := { s.rain with boundary := s.partTime / 300 }, allow := idleAllow (min s.works.fallback s.works.cLeg) }
  ((List.finRange 4).foldl startGauge s).beginHeldSave

/-- The state the store takes at the end of its stage: WORN by its flag or by its count (R157, R162, R164). -/
def settleStore (s : State) : State :=
  if s.retired.worn || decide (s.goodCount < 48) then s.becomeWorn else s

/-- One factory bad block joins the retired list and is RETIRED in this run (R162, step 1). -/
def markFactoryBad (s : State) (b : Fin 64) : State :=
  if (s.array.get b).factoryBad then
    let s := if s.retired.blocks.contains b then s else s.listRetired b
    s.setStatus b .retired
  else s

/-- One good block is erased, or retired when its erase fails (R162, step 2; R156). -/
def formatBlock (fails : List (Fin 64)) (s : State) (b : Fin 64) : State :=
  if s.isRetired b then s
  else if fails.contains b then (s.setArrayBlock b .unreadable).retireBlock b none
  else (s.setArrayBlock b .erased).setStatus b .erased

/-- A START record (R162, R164, 11.4). -/
def startRecord (s : State) (scanned : Bool) (bad closes : Nat) : State :=
  s.writeRecord 0 255 ([byteOf (bit scanned), byteOf s.goodCount] ++ cappedBytes 2 bad ++ [byteOf closes])

/-- The lowest-numbered good block becomes CURRENT with the write point at page 0 (R162, step 3). -/
def beginRing (s : State) : State :=
  match (List.finRange 64).find? (fun b => !s.isRetired b) with
  | none => s
  | some b => (s.setStatus b .current).modStore (fun v => { v with current := some b, writePage := 0 })

/-- READY, unless the store is WORN already. -/
def readyStore (s : State) : State := s.modStore (fun v => { v with state := if v.state = .worn then .worn else .ready })

/-- The formatting of a blank store (R162). -/
def format (s : State) (fails : List (Fin 64)) : State :=
  let s := s.modStore (fun v => { v with nextSeq := 1, archiveMark := 0 })
  let s := (List.finRange 64).foldl markFactoryBad s
  let s := (List.finRange 64).foldl (formatBlock fails) s
  let s := (s.beginRing.startRecord false 0 0).readyStore.settleStore
  s.setCursor s.oldest

end State

/-- The last number of a page found by the scan: a VALID page's last record, otherwise its first plus 15 (R163, R164). -/
def pageEnd (p : Page) (e : PageEntry) : Nat :=
  if e.valid then (((pageRecords p).getLast?).map recordSequence).getD e.first else e.first + 15

/-- The page table's entry of a page at the scan, from the end of the page before it (R162, R163). -/
def scanPage (before : Option Nat) (p : Page) : Option PageEntry :=
  match p with
  | .erased => none
  | .unreadable => before.map (fun n => { first := n + 1, count := 16, valid := false })
  | .programmed _ spare =>
    if sparePasses p then some { first := spare.first.toNat, count := spare.count.toNat, valid := pageSound p }
    else before.map (fun n => { first := n + 1, count := 16, valid := false })

namespace State

/-- One page of the scan: its table entry, and the end of the last page so far. -/
def scanOne (a : State × Option Nat) (r : PageRef) : State × Option Nat :=
  match scanPage a.2 (a.1.arrayPage r) with
  | none => a
  | some e => (a.1.setTableEntry r e, some (pageEnd (a.1.arrayPage r) e))

/-- The good blocks with a page whose spare check passes, in their order (R163). -/
def blockOrder (s : State) : List (Fin 64) :=
  s.inRingOrder ((List.finRange 64).filter (fun b => !s.isRetired b && (firstSpare (s.array.get b)).isSome))

/-- The page table rebuilt (R163). -/
def scanTable (s : State) : State :=
  ((s.blockOrder.flatMap (fun b => (List.finRange 16).map (fun p => (⟨b, p⟩ : PageRef)))).foldl scanOne (s, none)).1

/-- The status of a good block at the scan (R163). -/
def scanStatus (current : Option (Fin 64)) (s : State) (b : Fin 64) : State :=
  if s.isRetired b then s
  else if current = some b then s.setStatus b .current
  else if (s.array.get b).pages.toList.all (fun p => p = .erased) then s.setStatus b .erased
  else s.setStatus b .filled

/-- The page after the last page of a block that is not ERASED (R163). -/
def scanWritePage (b : Block) : Nat :=
  (List.finRange 16).foldl (fun n p => if b.pages.get p = .erased then n else p.val + 1) 0

/-- The number above the highest that a VALID or DAMAGED page yields (R164, step 1); an UNREADABLE page yields none (log
entry 55). -/
def scanNext (s : State) : Nat :=
  let ends := s.writeOrder.filterMap (fun q =>
    if sparePasses (s.arrayPage q.1) then some (pageEnd (s.arrayPage q.1) q.2) else none)
  min 4294967295 ((ends.foldl max 0) + 1)

/-- The records of the VALID pages, newest first (R164, step 3). -/
def backwardRecords (s : State) : List (List Byte × Fin 64) :=
  (s.writeOrder.flatMap (fun q =>
    if q.2.valid then (pageRecords (s.arrayPage q.1)).map (fun r => (r, q.1.block)) else [])).reverse

/-- The newest counting record of an outfall among those read (R164, step 3). -/
def newestCounting (l : List (List Byte × Fin 64)) (o : Fin 8) : Option (List Byte × Fin 64) :=
  l.find? (fun q => isCounting q.1 && decide (recordOutfall q.1 = o))

/-- The archive mark restored: the new mark of the newest ARCHIVE record, or the oldest less 1 (R164, step 3). -/
def scanMark (s : State) (l : List (List Byte × Fin 64)) : Nat :=
  match l.find? (fun q => decide (recordKind q.1 = 12)) with
  | some q => fieldAt q.1 14 4
  | none => s.oldest - 1

/-- The period number restored: the highest carried by the newest counting records, else 1 (R139). -/
def scanPeriod (l : List (List Byte × Fin 64)) : Nat :=
  let ns := (List.finRange 8).filterMap (fun o => (newestCounting l o).map (fun q => fieldAt q.1 10 2))
  if ns = [] then 1 else ns.foldl max 0

/-- The period totals restored at an outfall (R139). -/
def restoreTotals (l : List (List Byte × Fin 64)) (period : Nat) (s : State) (o : Fin 8) : State :=
  match newestCounting l o with
  | some q =>
    if fieldAt q.1 10 2 = period then
      s.modOutfall o (fun w => { w with count := fieldAt q.1 12 2, seconds := fieldAt q.1 14 3 })
    else s
  | none => s

/-- A counting record carries an open event and is not a SPILL_CLOSE (R164, step 4): SPILL_OPEN implies one,
and every other open event has a count of at least 1. R139 asks for the newest SPILL_OPEN or SPILL_BLOCK without a later
SPILL_CLOSE instead (log entry 46). -/
def carriesEvent (r : List Byte) : Bool := recordKind r = 3 || (decide (recordKind r ≠ 5) && decide (0 < fieldAt r 20 2))

/-- The opening offset a counting record carries: 0 for SPILL_OPEN; none where it reads 0xFFFFFF (R195). -/
def carriedOffset (r : List Byte) : Option Nat :=
  if recordKind r = 3 then some 0 else if fieldAt r 17 3 = 16777215 then none else some (fieldAt r 17 3)

/-- Event count, event seconds and interval a counting record carries; SPILL_OPEN implies 1, 0 and 1 (11.4). -/
def carriedFigures (r : List Byte) : List Byte :=
  if recordKind r = 3 then beBytes 2 1 ++ beBytes 3 0 ++ beBytes 2 1 else ((r.drop 20).take 7)

/-- The SPILL_OPEN of the event a counting record belongs to, by its opening sequence, if it is still stored (R164, step 4).
R139 takes the outfall's newest SPILL_OPEN (log entry 46). -/
def openingRecord (l : List (List Byte × Fin 64)) (o : Fin 8) (r : List Byte) : Option (List Byte) :=
  (carriedOffset r).bind (fun d =>
    (l.find? (fun q => decide (recordKind q.1 = 3) && decide (recordOutfall q.1 = o)
      && decide (recordSequence q.1 + d = recordSequence r))).map (fun q => q.1))

/-- The start offset of an INTERRUPTED close: its own time less the start its SPILL_OPEN carries, that record's time less its
start offset, counted below 0 where the offset is the larger; where the start lies after the close no rule gives the field
(log entry 29). -/
def interruptedOffset (s : State) (opened : List Byte) : Nat :=
  let now := (s.civilTime).getD s.partTime
  let time := fieldAt opened 4 4
  let back := fieldAt opened 17 2
  if time ≤ now + back then now + back - time else Config.startOffset s.freeIndex

/-- The SPILL_CLOSE with reason INTERRUPTED of an outfall (R139, R164, R195). -/
def interruptedClose (l : List (List Byte × Fin 64)) (s : State) (o : Fin 8) (r : List Byte) : State :=
  let opened := openingRecord l o r
  let offset := match opened with
    | some x => offsetBack (s.interruptedOffset x)
    | none => beBytes 3 16777215
  let flags := match opened with
    | some x => byteAt x 9 / 8 % 8
    | none => 0
  let s := match opened with
    | some _ => s.drawFree
    | none => s
  (s.handOver 5 (o.val + 8 + 16 * flags) (fun n =>
    ((r.drop 10).take 7)
      ++ (match carriedOffset r with
          | some d => beBytes 3 (min (n - (recordSequence r - d)) 16777215)
          | none => beBytes 3 16777215)
      ++ carriedFigures r ++ offset ++ beBytes 2 65535)).2

/-- The outfalls whose event was cut short, with their newest counting records (R164, step 4). -/
def interrupted (l : List (List Byte × Fin 64)) : List (Fin 8 × List Byte) :=
  (List.finRange 8).filterMap (fun o => (newestCounting l o).bind (fun q => if carriesEvent q.1 then some (o, q.1) else none))

/-- The pages found DAMAGED or UNREADABLE (R164, step 5). -/
def badPages (s : State) : Nat :=
  ((List.finRange 64).map (fun b =>
    if s.isRetired b then 0
    else ((s.array.get b).pages.toList.filter (fun p => p ≠ .erased && !pageSound p)).length)).sum

/-- The CURRENT block and the write point at the scan; past page 15 the write point enters an ERASED ahead
block, or the store is FULL (R163). -/
def scanRing (s : State) : State :=
  let c := s.blockOrder.getLast?
  let s := (List.finRange 64).foldl (scanStatus c) s
  let page := (c.map (fun b => scanWritePage (s.array.get b))).getD 0
  let s := s.modStore (fun v => { v with current := c, writePage := page, state := .ready })
  if page < 16 then s
  else match s.aheadErased with
    | none => s.enterFull
    | some b =>
      let s := match c with
        | some x => s.setStatus x .filled
        | none => s
      (s.setStatus b .current).modStore (fun v => { v with current := some b, writePage := 0 })

/-- The scan of a store that is not blank (R163, R164). -/
def scan (s : State) : State :=
  let s := s.scanTable.scanRing
  let s := s.modStore (fun v => { v with nextSeq := s.scanNext })
  let l := s.backwardRecords
  let mark := s.scanMark l
  let s := s.modStore (fun v =>
    { v with archiveMark := mark
             notes := Vector.ofFn (fun o : Fin 8 =>
               (newestCounting l o).map (fun q => { sequence := recordSequence q.1, block := q.2 })) })
  let s : State := { s with spill := { s.spill with periodNumber := scanPeriod l } }
  let s := (List.finRange 8).foldl (restoreTotals l (scanPeriod l)) s
  let cut := interrupted l
  let s := cut.foldl (fun s q => s.interruptedClose l q.1 q.2) s
  let s := (s.startRecord true s.badPages cut.length).settleStore
  (s.setCursor s.oldest).reclaimCheck

end State

end Sys2Proof.Machine
end

