-- ==== Sys2Proof/Machine/Ports.lean ====
section
/-! DEFINITION. Transfers, bundles, the checks of an order and its place in the response (R166 to R176), and
the form of an event outside a bundle (R96). -/

namespace Sys2Proof.Machine

/-- The result codes (9.6). -/
inductive Code where
  | done | doneClamped | skipped | ignored | noRoom
  | refusedCode | refusedRole | refusedGuard | refusedOwner | refusedState | refusedRange | refusedClaimed
  | busy | notPosted | notHeld | lapsed | stale | late | atEnd | gap | damaged | queued
  deriving DecidableEq, Repr

/-- The byte of a result code (11.1). -/
def codeByte : Code → Byte
  | .done => 0x00#8 | .doneClamped => 0x01#8 | .skipped => 0x02#8 | .ignored => 0x03#8 | .noRoom => 0x04#8
  | .refusedCode => 0x10#8 | .refusedRole => 0x11#8 | .refusedGuard => 0x12#8 | .refusedOwner => 0x13#8
  | .refusedState => 0x14#8 | .refusedRange => 0x15#8 | .refusedClaimed => 0x16#8
  | .busy => 0x20#8 | .notPosted => 0x21#8 | .notHeld => 0x22#8 | .lapsed => 0x23#8 | .stale => 0x24#8
  | .late => 0x25#8 | .atEnd => 0x26#8 | .gap => 0x27#8 | .damaged => 0x28#8 | .queued => 0x29#8

/-- What an order answers: its result code and data, and the state it leaves. -/
structure Answer where
  state : State
  code : Code
  data : List Byte

/-- An answer with no data. -/
def answer (s : State) (c : Code) : Answer := { state := s, code := c, data := [] }

/-- DONE, or DONE_CLAMPED where a value was brought to its bound (R185). -/
def doneOr (s : State) (clamped : Bool) : Answer := answer s (if clamped then .doneClamped else .done)

/-- An applied reading order: its data in the full length of its table row (R194). -/
def doneData (s : State) (n : Nat) (data : List Byte) : Answer := { state := s, code := .done, data := padTo n data }

/-- An order that changes the working settings sets the changed flag exactly when it changed a value (R185, R186). -/
def marking (f : State → Answer) (s : State) : Answer :=
  let a := f s
  if a.state.workingSettings = s.workingSettings then a
  else { a with state := a.state.modSave (fun v => { v with changed := true }) }

/-- All four ports (R176). -/
def everyPort : List Port := [.works, .siteA, .siteB, .record]

/-- The two site ports (R176). -/
def sitePorts : List Port := [.siteA, .siteB]

/-- What the table fixes of an order: the ports of its role, whether a reserved operand bit is set, and the
largest data it returns (R171, R173, R176). -/
structure OrderForm where
  ports : List Port
  reserved : Bool
  room : Nat

/-- Bytes placed in the response of the bundle in progress, its two header bytes included (R171). -/
def bytesPlaced (s : State) : Nat := 2 + ((s.bundle.map (fun b => b.placed.length)).getD 0)

/-- The space left for the data of an order (R171; log entry 18). -/
def spaceLeft (s : State) (h : Head) : Nat := 64 - bytesPlaced s - 1 - (h.count - h.index - 1)

/-- Steps 3 to 5 of the checks, then the order's own rule (R172). -/
def checkGuard (s : State) (h : Head) (room : Nat) (body : State → Answer) : Answer :=
  if !guardValid h.guard then answer s .refusedGuard
  else if !guardValue s h.guard then answer s .skipped
  else if spaceLeft s h < room then answer s .noRoom
  else body s

/-- The checks of an assigned order in their steps, then its own rule (R172). -/
def checkOrder (s : State) (h : Head) (f : OrderForm) (body : State → Answer) : Answer :=
  if f.reserved then answer s .refusedCode
  else if !f.ports.contains h.port then answer s .refusedRole
  else checkGuard s h f.room body

/-- The frame being received holds this command at its place; on an idle port the command stands for a frame
of its own (log entry 5). -/
def frameHolds (s : State) (i : Instr) (h : Head) : Bool :=
  match (s.port h.port).transfer with
  | .idle => true
  | .sending => false
  | .receiving =>
    match decodeFrame h.port (s.port h.port).received (s.port h.port).excess with
    | none => false
    | some l => decide (l.length = h.count) && decide (l[h.index]? = some i)

/-- The bundle in progress, if the order is its next one; a first order begins a bundle (R170; log entry 4). -/
def nextBundle (s : State) (h : Head) : Option Bundle :=
  match s.bundle with
  | none => if h.index = 0 ∧ 1 ≤ h.count ∧ h.count ≤ 4 then some { port := h.port, taken := 0, count := h.count, placed := [] } else none
  | some b => if b.port = h.port ∧ b.taken = h.index ∧ b.count = h.count then some b else none

/-- A response frame becomes pending and the port returns to IDLE (R170). -/
def respond (s : State) (p : Port) (bytes : List Byte) : State :=
  s.modPort p (fun q => { q with transfer := .idle, received := [], excess := 0, response := some bytes, sendPos := 0 })

/-- A response of two bytes with no order results (R169, R170). -/
def respondShort (s : State) (p : Port) (result : Byte) : State := respond s p [2#8, result]

/-- The order's result joins the response; after the last order the event ends and the response is formed (R170). -/
def placeAnswer (a : Answer) (b : Bundle) : State :=
  let placed := b.placed ++ [codeByte a.code] ++ a.data
  if b.taken + 1 < b.count then { a.state with bundle := some { b with taken := b.taken + 1, placed := placed } }
  else
    respond (({ a.state with bundle := none } : State).finishEvent) b.port
      ([BitVec.ofNat 8 (2 + placed.length), 0#8] ++ placed)

/-- The start-up stages, in which every request frame is answered NOT_READY (R170, R189). -/
def startingUp (s : State) : Bool := s.stage = .loading || s.stage = .store

/-- One order of a bundle is taken (R170): its checks and its rule, given as one function of the state. -/
def takeWith (i : Instr) (h : Head) (check : State → Answer) (s : State) : State :=
  if startingUp s then (if frameHolds s i h then respondShort s h.port 2#8 else s)
  else if s.stage = .held then s
  else
    match (if frameHolds s i h then nextBundle s h else none) with
    | none => s
    | some b => placeAnswer (check { s with bundle := some b }) b

/-- One assigned order is taken (R170, R172). -/
def takeOrder (i : Instr) (h : Head) (f : OrderForm) (body : State → Answer) (s : State) : State :=
  takeWith i h (fun s => checkOrder s h f body) s

/-- The outcome of an unassigned code by its class (R173). -/
def unassignedAnswer (h : Head) (code : Byte) (s : State) : Answer :=
  if 0xF0 ≤ code.toNat then answer s .ignored
  else if 0xE0 ≤ code.toNat then checkGuard s h 0 (fun s => answer s .refusedCode)
  else answer s .refusedCode

/-- An event outside a bundle (R96): taken whole in RUNNING, between bundles, when it is due; otherwise it
does not arise and nothing changes (log entry 3). -/
def takeEvent (due : Bool) (f : State → State) (s : State) : State :=
  if s.stage = .running ∧ s.bundle = none ∧ due then (f s).finishEvent else s

end Sys2Proof.Machine
end

