-- ==== Sys2Proof/Machine/Reads.lean ====
section
/-! DEFINITION. The data of the reading orders (11.2.1). -/

namespace Sys2Proof.Machine

/-- The role byte of IDENTIFY (11.2.1). -/
def roleByte (p : Port) : Byte := byteOf (portIndex p).val

/-- IDENTIFY (R182). -/
def identifyData (s : State) (p : Port) : List Byte :=
  [0x2B#8, 0x07#8, 0x06#8, 0x04#8, 1#8, roleByte p, 64#8, 4#8] ++ beBytes 4 s.partTime ++ responseBytes 4 (s.civilTime.getD 0)
    ++ [byteOf (bit s.civil.isSome), byteOf (sourceCode s.save.source)]

/-- Byte 24 of the summary: the page being written, or the failing page (11.2.1; log entry 30). -/
def savePageByte (v : Save) : Byte :=
  match v.run, v.last with
  | some r, _ => byteOf r.page.val
  | none, .failed page _ => byteOf page.val
  | none, _ => 255#8

/-- Byte 25 of the summary: the last result and its cause, which is absent, all ones in its two bits, unless the result is
FAILED (R186, 11.2.1). -/
def saveResultByte : SaveResult → Byte
  | .none => 12#8
  | .saved => 13#8
  | .failed _ cause => byteOf (2 + 4 * saveCauseCode cause)

/-- The kind and status of a channel in one byte (11.2.1). -/
def kindStatus (c : Channel) : Byte := byteOf (kindCode c.kind + 16 * statusCode c.status)

/-- STATUS_READ, SUMMARY (R183). -/
def summaryData (s : State) : List Byte :=
  beBytes 4 s.partTime
    ++ [byteOf (bit s.civil.isSome + 2 * bit s.allow.hold.isSome + 4 * alertCode s.rain.catchment + 16 * scheduleCode s.allow.sched)]
    ++ responseBytes 2 s.allow.aEff ++ wordBytes s.globalSerial
    ++ (s.drainList.map (fun t => byteOf t.val) ++ List.replicate 8 255#8).take 8
    ++ [byteOf (storeStateCode s.store.state)] ++ responseBytes 4 s.store.lost
    ++ [byteOf (bit s.save.run.isSome + 2 * bit s.save.changed + 4 * sourceCode s.save.source + 8 * bit s.save.followOn.isSome),
        byteOf (((s.save.run.map (fun r => r.requesters)).getD 0#4).toNat + 16 * (s.save.followOn.getD 0#4).toNat),
        savePageByte s.save, saveResultByte s.save.last]
    ++ s.channels.toList.map kindStatus

/-- Bytes +3 to +5 of a channel record: its kind parameters (11.2.1). -/
def kindParamBytes (c : Channel) : List Byte :=
  match c.kind with
  | .rain => responseBytes 2 c.lockout ++ [0#8]
  | .flow => responseBytes 1 c.gate ++ responseBytes 2 c.tenths
  | _ => [0#8, 0#8, 0#8]

/-- Bytes +6 to +14 of a channel record: its running value (11.2.1). -/
def runningBytes (s : State) (c : Channel) : List Byte :=
  match c.kind with
  | .rain => padTo 9 (absentBytes 4 (c.rain.lastTip.map (fun t => min (t / 1000000) 4294967295)))
  | .level =>
    absentBytes 2 c.level.duty ++ absentBytes 2 c.level.level ++ absentBytes 1 (c.level.clamped.map bit)
      ++ absentBytes 4 c.level.lastValid
  | .flow =>
    responseBytes 2 c.flow.pulses ++ responseBytes 1 (s.partTime - c.flow.gateStart) ++ absentBytes 2 c.flow.rate
      ++ absentBytes 4 c.flow.litres
  | _ => padTo 9 []

/-- One channel record of a group (R183). -/
def channelData (s : State) (c : Fin 16) : List Byte :=
  let k := s.channel c
  [byteOf (kindCode k.kind + 16 * statusCode k.status + 64 * bit k.activeLow + 128 * bit k.active), byteOf (binderCode k.binder)]
    ++ responseBytes 1 k.debounce ++ kindParamBytes k ++ runningBytes s k

/-- STATUS_READ, one channel group (R183). -/
def groupData (s : State) (g : Fin 4) : List Byte :=
  (List.range 4).flatMap (fun i => channelData s (Fin.ofNat 16 (4 * g.val + i)))

/-- NOTICES_READ (R179). -/
def noticesData (s : State) (p : Port) : List Byte := wordBytes (s.port p).notices ++ wordBytes (s.port p).mask

/-- The byte of a role's channel in TANK_READ STATE (11.2.1). -/
def roleState (s : State) (t : Fin 8) (r : Role) : Byte :=
  match s.channelOf (.tank t r) with
  | some c => kindStatus (s.channel c)
  | none => 255#8

/-- Level, volume and fill, absent together, shown by a level of 0xFFFF (11.2.1). -/
def heldBytes : Option Held → List Byte
  | some h => responseBytes 2 h.level ++ responseBytes 2 h.volume ++ responseBytes 2 h.fill
  | none => List.replicate 6 255#8

/-- The position of a tank in the drain list, 1 to 8, or 0xFF (R99). -/
def positionByte (s : State) (t : Fin 8) : Byte :=
  if s.listed t then byteOf (s.drainList.idxOf t + 1) else 255#8

/-- TANK_READ, STATE (R19, R99, R101). -/
def tankStateData (s : State) (t : Fin 8) : List Byte :=
  let k := s.tank t
  [byteOf t.val, byteOf (ownerCode k.owner), byteOf (phaseCode k.phase)] ++ heldBytes k.held
    ++ [byteOf k.rawBand, byteOf k.band, byteOf k.weight,
        byteOf (bit k.clamped + 2 * bit k.spilling + 4 * bit k.grant.unsettled + 8 * bit k.grant.overdueSince.isSome
          + 16 * bit k.grant.overdraw),
        byteOf (drainCode k.drain.status), byteOf (reasonCode k.drain.reason)]
    ++ absentBytes 2 (k.drain.request.map (fun r => r.m)) ++ absentBytes 2 (k.drain.request.map (fun r => r.n))
    ++ absentBytes 4 (k.drain.request.map (fun r => r.stamp)) ++ [positionByte s t]
    ++ responseBytes 2 k.grant.granted ++ responseBytes 2 k.grant.confirmed ++ wordBytes k.grant.serial ++ wordBytes k.grant.acked
    ++ absentBytes 2 (k.grant.deadline.map (fun d => d.due - s.partTime)) ++ [byteOf k.grant.overCount]
    ++ [roleState s t .level, roleState s t .draw, roleState s t .spill] ++ wordBytes k.counter

/-- TANK_READ, SETTINGS (R19). -/
def tankSettingsData (s : State) (t : Fin 8) : List Byte :=
  let k := s.tank t
  [byteOf t.val, byteOf (ownerCode k.owner)] ++ tankBytes (tankOperandsOf k.set) ++ shapeBytes (shapeOperandsOf k.set.shape)
    ++ [byteOf (indexCode (s.channelOf (.tank t .level))), byteOf (indexCode (s.channelOf (.tank t .draw))),
        byteOf (indexCode (s.channelOf (.tank t .spill)))]

/-- ALERT_READ of a gauge (R57). -/
def alertGaugeData (s : State) (g : Fin 4) : List Byte :=
  let k := s.gauge g
  [byteOf (alertCode s.rain.catchment), byteOf (bit s.rain.timer.isSome)]
    ++ absentBytes 2 (s.rain.timer.map (fun t => s.partTime - t))
    ++ [byteOf s.rain.tClear, byteOf (indexCode (s.channelOf (.gauge g))), byteOf (availCode k.avail), byteOf k.tipDepth,
        byteOf (alertCode k.level)]
    ++ responseBytes 4 k.d15 ++ responseBytes 4 k.i15 ++ responseBytes 4 k.d60 ++ responseBytes 4 k.d24
    ++ responseBytes 2 k.rejected ++ longBytes k.totalTips

/-- ALERT_READ of the thresholds (R57). -/
def thresholdsData (s : State) : List Byte :=
  let v := gaugeOperandsOf s.gaugeSettings
  [byteOf (alertCode s.rain.catchment)] ++ thresholdBytes v.watch ++ thresholdBytes v.warn ++ thresholdBytes v.storm
    ++ v.tips.toList ++ [v.tClear]

/-- Seconds left on the lease, absent while stopped (R63). -/
def leaseLeft (s : State) : Option Nat := s.allow.lease.map (fun t => t + 60 * s.works.tLease - s.partTime)

/-- ENTRY_READ (R63). -/
def entryData (s : State) (e : Fin 8) : List Byte :=
  let v := s.entry e
  [byteOf e.val] ++ responseBytes 2 v.rate ++ responseBytes 2 v.duration
    ++ [byteOf (indexCode v.link), byteOf (bit v.byPart), byteOf (entryStatusCode v.status)] ++ absentBytes 3 (s.remainingNow e)
    ++ [byteOf (scheduleCode s.allow.sched), byteOf (indexCode s.allow.active)] ++ absentBytes 2 (leaseLeft s)
    ++ [byteOf (bit s.allow.hold.isSome)] ++ absentBytes 2 (s.allow.hold.map (fun x => x - s.partTime))
    ++ responseBytes 2 s.works.fallback ++ responseBytes 2 s.works.cLeg ++ responseBytes 2 s.allow.aEff

/-- One row of DRAW_READ (R112). -/
def drawRow (k : Tank) : List Byte :=
  responseBytes 2 (k.grant.granted % 4096 + 4096 * (bit k.grant.unsettled + 2 * bit k.grant.overdueSince.isSome
    + 4 * bit k.grant.overdraw + 8 * bit (k.drain.status = .draining)))
    ++ responseBytes 2 k.grant.confirmed ++ wordBytes k.grant.serial

/-- The last gate rate of the leg meter, absent with none bound or no gate ended (R112). -/
def legRate (s : State) : Option Nat := (s.channelOf .legMeter).bind (fun c => (s.channel c).flow.rate)

/-- DRAW_READ (R112). -/
def drawData (s : State) : List Byte :=
  wordBytes s.globalSerial ++ responseBytes 2 s.allow.aEff ++ s.tanks.toList.flatMap drawRow ++ [byteOf (bit s.leg.excess)]
    ++ absentBytes 2 (legRate s)

/-- Bytes +0 to +26 of a cycle (11.2.1); the end reason of an open one reads 0 (log entry 51). -/
def cycleBytes (c : Cycle) : List Byte :=
  [byteOf (1 + 2 * bit c.lateStart + 4 * modeCode c.mode + 16 * ((c.endReason.map endCode).getD 0) + 64 * bit c.admission.isSome
      + 128 * bit c.returned.isSome)]
    ++ wordBytes c.number ++ responseBytes 4 c.start ++ responseBytes 2 c.peakFill ++ responseBytes 4 c.peakTime
    ++ absentBytes 4 c.toFull ++ responseBytes 4 (c.spillRef.getD 0) ++ responseBytes 4 c.litres
    ++ absentBytes 2 c.admission

/-- CYCLE_READ (R40). -/
def cycleData (s : State) (t : Fin 8) : List Byte :=
  padTo 27 ((s.tank t).openCycle.map cycleBytes |>.getD [])
    ++ padTo 33 (((s.tank t).lastCycle.map (fun c =>
        cycleBytes c ++ absentBytes 2 c.returned ++ responseBytes 4 (c.endTime.getD 0))).getD [])

/-- The start that the phase of an outfall holds, absent in QUIET (R118, 11.2.1). -/
def phaseStart : SpillPhase → Option Nat
  | .quiet => none
  | .pending t => some t
  | .spilling t => some t
  | .trailing t => some t

/-- The seconds of the stretch now running, 0 unless SPILLING (R140). -/
def stretchSeconds (s : State) (w : Outfall) : Nat :=
  match w.phase with
  | .spilling t => s.partTime - t
  | _ => 0

/-- Bytes 21 to 54 of COUNT_READ: the open event (11.2.1). -/
def eventData (v : SpillEvent) : List Byte :=
  responseBytes 4 v.opening ++ responseBytes 4 v.start ++ responseBytes 4 v.interval ++ responseBytes 4 v.intervalEnd
    ++ responseBytes 2 v.count ++ responseBytes 4 v.seconds ++ [byteOf (phaseCode v.phase + 16 * alertCode v.alert)]
    ++ absentBytes 2 v.fill ++ [byteOf (indexCode v.gauge)] ++ absentBytes 4 (v.tips.map (fun x => x.toNat))
    ++ absentBytes 4 v.d24

/-- Byte 20 of COUNT_READ: the event's flags (11.2.1). -/
def eventFlags : Option SpillEvent → Byte
  | none => 0#8
  | some v => byteOf (1 + 2 * bit v.counted + eventFlagBits 4 v)

/-- COUNT_READ of an outfall (R140). -/
def countData (s : State) (o : Fin 8) : List Byte :=
  let w := s.outfall o
  responseBytes 4 s.spill.periodNumber
    ++ [byteOf (bit (s.outfallEnabled o) + 2 * bit w.switch + 4 * spillPhaseCode w.phase),
        byteOf (indexCode (s.channelOf (.tank o .spill)))]
    ++ absentBytes 4 (phaseStart w.phase) ++ responseBytes 2 w.count ++ responseBytes 4 w.seconds
    ++ responseBytes 4 (stretchSeconds s w) ++ [eventFlags w.event] ++ ((w.event.map eventData).getD [])

/-- COUNT_READ of the settings (R140). -/
def countSettingsData (s : State) : List Byte := responseBytes 4 s.spill.periodNumber ++ spillBytes (spillOperandsOf s.spill.set)

/-- Byte 44 of STORE_READ: the write point's page, absent where no page of the CURRENT block is left to program, or no
block is CURRENT (R145, R146, 11.2.1). -/
def writePageByte (v : Store) : List Byte :=
  absentBytes 1 (if v.current.isSome ∧ v.writePage < 16 then some v.writePage else none)

/-- STORE_READ, STATE (R165). -/
def storeStateData (s : State) : List Byte :=
  let v := s.store
  [byteOf (storeStateCode v.state)] ++ responseBytes 4 v.nextSeq ++ responseBytes 4 s.oldest ++ responseBytes 4 v.archiveMark
    ++ responseBytes 4 v.cursor ++ responseBytes 4 v.lost
    ++ [byteOf v.queue.length, byteOf v.assembly.length, byteOf (v.program.getD []).length, byteOf s.goodCount,
        byteOf (bit s.retired.worn), byteOf s.retired.blocks.length]
    ++ (s.retired.blocks.map (fun b => byteOf b.val) ++ List.replicate 16 255#8).take 16
    ++ [byteOf (indexCode v.current)] ++ writePageByte v
    ++ [byteOf (indexCode s.ahead), byteOf ((s.ahead.map (fun b => blockStatusCode (s.blockStatus b))).getD 255)]

/-- A bit per outfall of a list. -/
def outfallBits (os : List (Fin 8)) : Byte := byteOf ((List.finRange 8).map (fun o => bit (os.contains o) * 2 ^ o.val)).sum

/-- STORE_READ, OUTFALLS (R165). -/
def storeOutfallsData (s : State) : List Byte :=
  s.store.notes.toList.flatMap (fun n => responseBytes 4 ((n.map (fun x => x.sequence)).getD 0))
    ++ [outfallBits (s.store.prep.getD []), outfallBits s.store.owed]

end Sys2Proof.Machine
end

