-- ==== Sys2Proof/Machine/Due.lean ====
section
/-! DEFINITION. When each of the part's own timed steps is due (R192), and the list of those due now. -/

namespace Sys2Proof.Machine

/-- A moment of part time is reached. -/
def State.reached (s : State) (t : Option Nat) : Bool := t.any (fun x => decide (x ≤ s.partTime))

/-- A candidate change has been held for the debounce time (R8). -/
def debounceDue (s : State) (c : Fin 16) : Bool :=
  (s.channel c).binder ≠ .none && (s.channel c).settled && (s.channel c).heldLong s.clock

/-- A settling has been held for the debounce time (R7). -/
def settleDue (s : State) (c : Fin 16) : Bool :=
  (s.channel c).binder ≠ .none && !(s.channel c).settled && (s.channel c).heldLong s.clock

/-- A RAIN channel has stayed ACTIVE for 10 s (R11). -/
def stuckDue (s : State) (c : Fin 16) : Bool :=
  (s.channel c).kind = .rain && (s.channel c).status ≠ .fault && s.reached ((s.channel c).rain.stuckFrom.map (fun t => t + 10))

/-- A change instant that would close the period in time is still a candidate (R8, R12; log entry 13). -/
def closingPending (k : Channel) (q : Period) : Bool :=
  q.fall.isSome && k.since.any (fun t => decide (t < q.start + periodLimit))

/-- An active time or a period has reached its limit (R12). -/
def saturateDue (s : State) (c : Fin 16) : Bool :=
  let k := s.channel c
  k.kind = .level && k.level.period.any (fun q => decide (q.start + periodLimit ≤ s.clock) && !closingPending k q)

/-- The tank of a LEVEL channel. -/
def levelTank (s : State) (c : Fin 16) : Option (Fin 8) :=
  match (s.channel c).binder with
  | .tank t .level => some t
  | _ => none

/-- A second has ended since the last sample of a LEVEL channel (R13). -/
def sampleDue (s : State) (c : Fin 16) : Bool := (levelTank s c).isSome && decide ((s.channel c).level.sampledAt < s.partTime)

/-- 5 s have passed without a valid sample (R15). -/
def staleDue (s : State) (c : Fin 16) : Bool :=
  (levelTank s c).isSome && ((s.channel c).status = .ok || (s.channel c).status = .saturated)
    && decide ((s.channel c).level.reference + 5 ≤ s.partTime)

/-- 60 s have passed without a valid sample (R15). -/
def levelFaultDue (s : State) (c : Fin 16) : Bool :=
  (levelTank s c).isSome && (s.channel c).status ≠ .fault && decide ((s.channel c).level.reference + 60 ≤ s.partTime)

/-- The gate in progress ends (R16). -/
def gateDue (s : State) (c : Fin 16) : Bool :=
  (s.channel c).kind = .flow && decide ((s.channel c).flow.gateStart + (s.channel c).gate ≤ s.partTime)

/-- The next five-minute boundary is reached (R44). -/
def binDue (s : State) : Bool := decide ((s.rain.boundary + 1) * 300 ≤ s.partTime)

/-- The hold timer expires (R74). -/
def holdDue (s : State) : Bool := s.reached s.allow.hold

/-- A tank's confirmation deadline is reached (R106). -/
def deadlineDue (s : State) (t : Fin 8) : Bool := s.reached ((s.tank t).grant.deadline.map (fun d => d.due))

/-- T_on expires in PENDING (R121). -/
def onDue (s : State) (o : Fin 8) : Bool := s.reached ((s.pendingSince o).map (fun t => t + s.spill.set.tOn))

/-- T_off expires in TRAILING (R123). -/
def offDue (s : State) (o : Fin 8) : Bool := s.reached ((s.trailingSince o).map (fun t => t + s.spill.set.tOff))

/-- The interval end of an open event is reached (R130). -/
def intervalDue (s : State) (o : Fin 8) : Bool := s.reached ((s.outfall o).event.map (fun v => v.intervalEnd))

/-- The flush timer expires (R144). -/
def flushDue (s : State) : Bool := s.reached s.store.flushAt

/-- A due page and a free program buffer (R144). -/
def handoverDue (s : State) : Bool := s.store.due && s.store.program.isNone

/-- The array is free and an operation waits (R147). -/
def operationDue (s : State) : Bool := s.store.op.isNone && s.arbiterChoice.isSome

/-- The save waits for the EEPROM's internal write since a moment (R187). -/
def writingSince (s : State) : Option Nat :=
  match s.save.run with
  | some { step := .writing t, .. } => some t
  | _ => none

/-- The write has not completed within 5 ms (R187). -/
def writeLate (s : State) : Bool := (writingSince s).any (fun t => decide (t + 5000 ≤ s.clock))

/-- The commands of one kind that are due, over an index. -/
def dueOver {n : Nat} (due : Fin n → Bool) (f : Fin n → Instr) : List Instr := ((List.finRange n).filter due).map f

/-- One command, if it is due. -/
def dueOne (due : Bool) (i : Instr) : List Instr := if due then [i] else []

/-- The part's own steps that are due now. -/
def dueEvents (s : State) : List Instr :=
  dueOver (debounceDue s) .debounceAccept ++ dueOver (settleDue s) .channelSettle ++ dueOver (stuckDue s) .rainStuck
    ++ dueOver (saturateDue s) .levelSaturate ++ dueOver (sampleDue s) .levelSample
    ++ dueOver (staleDue s) .levelStaleTimeout ++ dueOver (levelFaultDue s) .levelFaultTimeout ++ dueOver (gateDue s) .gateEnd
    ++ dueOne (binDue s) .binBoundary ++ dueOne s.clearDue .clearTimerExpiry ++ dueOne s.expiryDue.isSome .entryExpiry
    ++ dueOne s.lapseDue .leaseLapse ++ dueOne (holdDue s) .holdExpiry ++ dueOver (deadlineDue s) .confirmDeadline
    ++ dueOver (onDue s) .tOnExpiry ++ dueOver (offDue s) .tOffExpiry ++ dueOver (intervalDue s) .intervalEnd
    ++ dueOne (flushDue s) .flushTimerExpiry ++ dueOne (handoverDue s) .pageHandover ++ dueOne (operationDue s) .arrayOperationStart
    ++ dueOne (writeLate s) .eepromWriteTimeout

end Sys2Proof.Machine
end

