-- ==== Sys2Proof/Machine/Starting.lean ====
section
/-! DEFINITION. The meanings of the start-up commands and of the transfers. -/

namespace Sys2Proof.Machine

/-- START_UP (R189). -/
def execStartUp (s : State) : Result := .next (s.restart .loading)

/-- RESET_ASSERT (R189). -/
def execResetAssert (s : State) : Result := .next (s.restart .held)

/-- IMAGE_LOAD: the EEPROM acknowledged its address or not, and the bytes read are judged (R190). -/
def execImageLoad (acknowledged : Bool) (s : State) : Result :=
  .next (if s.stage = .loading then
      (s.imageRead (if acknowledged then parseImage (Memory.readAll s.eeprom 0 1024) else none)).beginStore
    else s)

/-- STORE_FORMAT: the blocks named fail to erase (R162, R191). -/
def execStoreFormat (eraseFails : List (Fin 64)) (s : State) : Result :=
  .next (if s.stage = .store ∧ s.store.state = .formatting then (s.format eraseFails).enterRunning else s)

/-- STORE_SCAN (R163, R164, R191). -/
def execStoreScan (s : State) : Result :=
  .next (if s.stage = .store ∧ s.store.state = .scanning then s.scan.enterRunning else s)

/-- A transfer can begin on a port: the part is not held, no bundle is open, the port is IDLE (R167, R189). -/
def portFree (s : State) (p : Port) : Bool := s.stage ≠ .held && s.bundle.isNone && (s.port p).transfer = .idle

/-- REQUEST_START: the bytes of a request up to the last whole one (R167). -/
def execRequestStart (port : Port) (bytes : List Byte) (s : State) : Result :=
  .next (if portFree s port && decide (bytes.headD 0#8 ≠ 0#8) then
      s.modPort port (fun q =>
        { q with transfer := .receiving, received := bytes.take 64, excess := bytes.length - 64, response := none, sendPos := 0,
                 dataOut := List.replicate bytes.length 0#8 })
    else s)

/-- A request frame stands on the port: the bytes received, or a frame of its own on an IDLE port (log entry 5). -/
def requestStands (s : State) (p : Port) : Bool := s.stage ≠ .held && s.bundle.isNone && (s.port p).transfer ≠ .sending

/-- The frame on the port is malformed (R169). -/
def frameMalformed (s : State) (p : Port) : Bool :=
  (s.port p).transfer = .idle || (decodeFrame p (s.port p).received (s.port p).excess).isNone

/-- FRAME_ERROR (R169); in start-up every request frame is answered NOT_READY (R170). -/
def execFrameError (port : Port) (s : State) : Result :=
  .next (if requestStands s port && frameMalformed s port then respondShort s port (if startingUp s then 2#8 else 1#8) else s)

/-- NOT_READY (R170). -/
def execNotReady (port : Port) (s : State) : Result :=
  .next (if requestStands s port && startingUp s then respondShort s port 2#8 else s)

/-- The bytes a read presents: 0x00 for the first, then the response, then 0x00 (R167, R168). -/
def readOut (response : Option (List Byte)) (clocked : Nat) : List Byte :=
  ([0#8] ++ response.getD [] ++ List.replicate clocked 0#8).take clocked

/-- The last byte of the response has been clocked out (R168). -/
def readWhole (response : Option (List Byte)) (clocked : Nat) : Bool := response.any (fun r => decide (r.length + 1 ≤ clocked))

/-- RESPONSE_READ: a read transfer of so many bytes (R167, R168). -/
def execResponseRead (port : Port) (clocked : Nat) (s : State) : Result :=
  .next (if portFree s port && decide (1 ≤ clocked) then
      s.modPort port (fun q =>
        { q with dataOut := readOut q.response clocked, sendPos := 0
                 response := if readWhole q.response clocked then none else q.response })
    else s)

end Sys2Proof.Machine
end

