-- ==== Sys2Proof/Machine/CommonOrders.lean ====
section
/-! DEFINITION. The meanings of the orders of all four ports and of a save's events. -/

namespace Sys2Proof.Machine

/-- The form of an order of every port. -/
def commonForm (room : Nat) : OrderForm := { ports := everyPort, reserved := false, room := room }

/-- NOP (R173). -/
def execNop (h : Head) (s : State) : Result := .next (takeOrder (.nop h) h (commonForm 0) (fun s => answer s .done) s)

/-- UNASSIGNED_CODE: the class of the code decides (R173); an assigned code is no such command. -/
def execUnassignedCode (h : Head) (code : Byte) (s : State) : Result :=
  .next (if codeAssigned code.toNat then s else takeWith (.unassignedCode h code) h (unassignedAnswer h code) s)

/-- IDENTIFY (R182). -/
def execIdentify (h : Head) (s : State) : Result :=
  .next (takeOrder (.identify h) h (commonForm 20) (fun s => doneData s 20 (identifyData s h.port)) s)

/-- The answer of STATUS_READ (R183). -/
def statusAnswer (group : Byte) (s : State) : Answer :=
  match indexOrFF 4 group with
  | none => answer s .refusedRange
  | some none => doneData s 60 (summaryData s)
  | some (some g) => doneData s 60 (groupData s g)

/-- STATUS_READ (R183). -/
def execStatusRead (h : Head) (group : Byte) (s : State) : Result :=
  .next (takeOrder (.statusRead h group) h (commonForm 60) (statusAnswer group) s)

/-- The answer of NOTICES_READ (R179). -/
def noticesAnswer (p : Port) (s : State) : Answer :=
  doneData (s.modPort p (fun q => { q with notices := 0#16 })) 4 (noticesData s p)

/-- NOTICES_READ (R179). -/
def execNoticesRead (h : Head) (s : State) : Result :=
  .next (takeOrder (.noticesRead h) h (commonForm 4) (noticesAnswer h.port) s)

/-- NOTICE_MASK (R180). -/
def execNoticeMask (h : Head) (mask : Word) (s : State) : Result :=
  .next (takeOrder (.noticeMask h mask) h (commonForm 0)
    (fun s => answer (s.modPort h.port (fun q => { q with mask := mask })) .done) s)

/-- PORT_RESET (R181). -/
def execPortReset (h : Head) (s : State) : Result :=
  .next (takeOrder (.portReset h) h (commonForm 0)
    (fun s => answer (s.modPort h.port (fun q => { q with notices := 0#16, mask := defaultMask h.port })) .done) s)

/-- The answer of SAVE_SETTINGS (R186, R188). -/
def saveAnswer (p : Port) (s : State) : Answer :=
  match s.save.run with
  | none => answer (s.saveStart (requester p)) .done
  | some _ => answer (s.joinFollowOn p) .queued

/-- SAVE_SETTINGS (R186, R188). -/
def execSaveSettings (h : Head) (s : State) : Result :=
  .next (takeOrder (.saveSettings h) h (commonForm 0) (saveAnswer h.port) s)

/-- The save in flight is at a step of its page (R187). -/
def saveSending (s : State) : Bool := s.save.run.any (fun v => v.step = .sending)

def saveReading (s : State) : Bool := s.save.run.any (fun v => v.step = .reading)

/-- The transfer of a page ends (R187, step 1); the page's bytes are no longer known (log entry 7). -/
def pageSent (acknowledged : Bool) (s : State) : State :=
  match s.save.run with
  | none => s
  | some v =>
    let s := s.scramblePage v.page
    if acknowledged then s.modSave (fun q => { q with run := some { v with step := .writing s.clock } })
    else s.saveFail v .noAck

/-- SAVE_PAGE_SENT (R187). -/
def execSavePageSent (acknowledged : Bool) (s : State) : Result :=
  .next (takeEvent (saveSending s) (pageSent acknowledged) s)

/-- EEPROM_WRITE_COMPLETE: the write has completed within 5 ms and the read-back follows (R187, step 2). -/
def execEepromWriteComplete (s : State) : Result :=
  .next (takeEvent ((writingSince s).any (fun t => decide (s.clock ≤ t + 5000)))
    (fun s => s.modSave (fun q => { q with run := q.run.map (fun v => { v with step := .reading }) })) s)

/-- EEPROM_WRITE_TIMEOUT (R187). -/
def execEepromWriteTimeout (s : State) : Result :=
  .next (takeEvent (writeLate s) (fun s =>
    match s.save.run with
    | none => s
    | some v => s.saveFail v .timeout) s)

/-- PAGE_READBACK_COMPLETE: the 32 bytes read back (R187, step 3). -/
def execPageReadbackComplete (data : List Byte) (s : State) : Result :=
  .next (takeEvent (saveReading s && decide (data.length = 32)) (fun s =>
    match s.save.run with
    | none => s
    | some v => s.pageRead v data) s)

/-- The answer of TANK_READ (R19). -/
def tankReadAnswer (tank part : Byte) (s : State) : Answer :=
  match index 8 tank with
  | none => answer s .refusedRange
  | some t =>
    if part = 0#8 then doneData s 53 (tankStateData s t)
    else if part = 1#8 then doneData s 53 (tankSettingsData s t)
    else answer s .refusedRange

/-- TANK_READ (R19). -/
def execTankRead (h : Head) (tank : Byte) (part : Byte) (s : State) : Result :=
  .next (takeOrder (.tankRead h tank part) h (commonForm 53) (tankReadAnswer tank part) s)

/-- The answer of ALERT_READ (R57). -/
def alertReadAnswer (gauge : Byte) (s : State) : Answer :=
  match indexOrFF 4 gauge with
  | none => answer s .refusedRange
  | some none => doneData s 40 (thresholdsData s)
  | some (some g) => doneData s 40 (alertGaugeData s g)

/-- ALERT_READ (R57). -/
def execAlertRead (h : Head) (gauge : Byte) (s : State) : Result :=
  .next (takeOrder (.alertRead h gauge) h (commonForm 40) (alertReadAnswer gauge) s)

end Sys2Proof.Machine
end

