-- ==== Sys2Proof/Machine/WorksOrders.lean ====
section
/-! DEFINITION. The meanings of the orders of the WORKS port. -/

namespace Sys2Proof.Machine

/-- The form of an order of the WORKS port (R176). -/
def worksForm (reserved : Bool) (room : Nat) : OrderForm := { ports := [.works], reserved := reserved, room := room }

/-- Seconds of an entry's duration; absent for an open-ended entry (R60). -/
def durationSeconds (minutes : Nat) : Option Nat := if minutes = 0 then none else some (60 * minutes)

/-- The answer of ENTRY_WRITE (R60). -/
def entryWriteAnswer (entry : Byte) (rate duration : Word) (link : Byte) (s : State) : Answer :=
  match index 8 entry with
  | none => answer s .refusedRange
  | some e =>
    if (s.entry e).byPart then answer s .refusedOwner
    else
      match indexOrFF 8 link with
      | none => answer s .refusedRange
      | some l =>
        if l = some e then answer s .refusedRange
        else
          let r := min 4000 rate.toNat
          let d := min 1440 duration.toNat
          doneOr (s.modEntry e (fun v =>
            { v with rate := r, duration := d, link := l, status := .fresh, remaining := durationSeconds d }))
            (decide (r ≠ rate.toNat) || decide (d ≠ duration.toNat))

/-- ENTRY_WRITE (R60). -/
def execEntryWrite (h : Head) (entry : Byte) (rate duration : Word) (link : Byte) (s : State) : Result :=
  .next (takeOrder (.entryWrite h entry rate duration link) h (worksForm false 0) (entryWriteAnswer entry rate duration link) s)

/-- The answer of ENTRY_POST (R61), after the renewal of R70. -/
def entryPostAnswer (entry : Byte) (s : State) : Answer :=
  let s := s.renewLease
  match index 8 entry with
  | none => answer s .refusedRange
  | some e =>
    if (s.entry e).byPart then answer s .refusedOwner
    else answer (s.modEntry e (fun v =>
      { v with byPart := true, status := .fresh, remaining := durationSeconds v.duration })) .done

/-- ENTRY_POST (R61). -/
def execEntryPost (h : Head) (entry : Byte) (s : State) : Result :=
  .next (takeOrder (.entryPost h entry) h (worksForm false 0) (entryPostAnswer entry) s)

/-- The answer of ENTRY_RECALL (R62). -/
def entryRecallAnswer (entry : Byte) (s : State) : Answer :=
  match index 8 entry with
  | none => answer s .refusedRange
  | some e =>
    if !(s.entry e).byPart then answer s .notPosted
    else if s.allow.active = some e then answer s .refusedState
    else answer (s.modEntry e (fun v => { v with byPart := false, status := .recalled })) .done

/-- ENTRY_RECALL (R62). -/
def execEntryRecall (h : Head) (entry : Byte) (s : State) : Result :=
  .next (takeOrder (.entryRecall h entry) h (worksForm false 0) (entryRecallAnswer entry) s)

/-- The answer of ENTRY_READ (R63). -/
def entryReadAnswer (entry : Byte) (s : State) : Answer :=
  match index 8 entry with
  | none => answer s .refusedRange
  | some e => doneData s 24 (entryData s e)

/-- ENTRY_READ (R63). -/
def execEntryRead (h : Head) (entry : Byte) (s : State) : Result :=
  .next (takeOrder (.entryRead h entry) h (worksForm false 24) (entryReadAnswer entry) s)

/-- A kick moves on from an entry to its successor, or answers NOT_POSTED (R67). -/
def kickOn (s : State) (e : Fin 8) : Answer :=
  match s.successor e with
  | some f => answer (s.advance e f) .done
  | none => answer s .notPosted

/-- A kick with its operand judged, by the schedule state (R65, R67, R68). -/
def kickAnswer (s : State) (o : Option (Fin 8)) : Answer :=
  match s.allow.sched, s.allow.active with
  | .idle, _ =>
    match o.filter (fun e => (s.entry e).byPart) with
    | some e => answer (s.startSchedule e) .done
    | none => answer s .notPosted
  | .running, some e => if (s.entry e).remaining.isSome then answer s .done else kickOn s e
  | .stalled, some e => kickOn s e
  | .lapsed, _ => answer s.resumeSchedule .done
  | _, none => answer s .notPosted

/-- The answer of SCHEDULE_KICK, after the renewal of R70; an operand that names no entry and is not NONE is
refused in every state (R65). -/
def scheduleKickAnswer (entry : Byte) (s : State) : Answer :=
  let s := s.renewLease
  match indexOrFF 8 entry with
  | none => answer s .refusedRange
  | some o => kickAnswer s o

/-- SCHEDULE_KICK (R65, R67, R68). -/
def execScheduleKick (h : Head) (entry : Byte) (s : State) : Result :=
  .next (takeOrder (.scheduleKick h entry) h (worksForm false 0) (scheduleKickAnswer entry) s)

/-- SCHEDULE_STOP (R69). -/
def execScheduleStop (h : Head) (s : State) : Result :=
  .next (takeOrder (.scheduleStop h) h (worksForm false 0) (fun s => answer s.stopSchedule .done) s)

/-- The answer of LEASE_RENEW (R72). -/
def leaseRenewAnswer (s : State) : Answer :=
  match s.allow.sched with
  | .idle => answer s .refusedState
  | .lapsed => answer s .lapsed
  | _ => answer s.renewLease .done

/-- LEASE_RENEW (R72). -/
def execLeaseRenew (h : Head) (s : State) : Result :=
  .next (takeOrder (.leaseRenew h) h (worksForm false 0) leaseRenewAnswer s)

/-- The answer of HOLD (R73), after the renewal of R70. -/
def holdAnswer (minutes : Byte) (s : State) : Answer :=
  let m := clamp 1 240 minutes.toNat
  doneOr (s.renewLease.startHold m) (decide (m ≠ minutes.toNat))

/-- HOLD (R73). -/
def execHold (h : Head) (minutes : Byte) (s : State) : Result :=
  .next (takeOrder (.hold h minutes) h (worksForm false 0) (holdAnswer minutes) s)

/-- The answer of RELEASE (R74), after the renewal of R70. -/
def releaseAnswer (s : State) : Answer :=
  let s := s.renewLease
  if s.allow.hold.isSome then answer (s.endHold .holdEndRelease) .done else answer s .notHeld

/-- RELEASE (R74). -/
def execRelease (h : Head) (s : State) : Result :=
  .next (takeOrder (.release h) h (worksForm false 0) releaseAnswer s)

/-- The leg meter parameters a WORKS_SET carries (R4). -/
def worksParams (v : WorksOperands) : ChannelParams :=
  { activeLow := activeLowOf v.polarity, debounce := v.debounce.toNat, lockout := 0, gate := v.gate.toNat, tenths := v.tenths.toNat }

/-- The answer of WORKS_SET: the leg meter binding is checked first, then all takes effect (R4, R76). -/
def worksSetAnswer (v : WorksOperands) (s : State) : Answer :=
  match indexOrFF 16 v.channel with
  | none => answer s .refusedRange
  | some target =>
    if s.claimedByOther .legMeter target then answer s .refusedClaimed
    else
      let sent := worksSent v
      doneOr ((s.applyWorksSet (clampWorks sent)).applyBinding .legMeter target (worksParams v))
        (decide (clampWorks sent ≠ sent) || (target.isSome && paramsClamped .flow (worksParams v)))

/-- WORKS_SET (R76). -/
def execWorksSet (h : Head) (v : WorksOperands) (s : State) : Result :=
  .next (takeOrder (.worksSet h v) h (worksForm (polarityReserved v.polarity) 0) (marking (worksSetAnswer v)) s)

/-- DRAW_READ (R112). -/
def execDrawRead (h : Head) (s : State) : Result :=
  .next (takeOrder (.drawRead h) h (worksForm false 59) (fun s => doneData s 59 (drawData s)) s)

end Sys2Proof.Machine
end

