-- ==== Sys2Proof/Machine/SiteOrders.lean ====
section
/-! DEFINITION. The meanings of the orders of the site ports. -/

namespace Sys2Proof.Machine

/-- The form of an order of the site ports (R176). -/
def siteForm (reserved : Bool) (room : Nat) : OrderForm := { ports := sitePorts, reserved := reserved, room := room }

/-- A tank order's own rule, given a tank in range (R19). -/
def withTank (tank : Byte) (body : Fin 8 → State → Answer) (s : State) : Answer :=
  match index 8 tank with
  | none => answer s .refusedRange
  | some t => body t s

/-- The owner of a tank is the site of the port (R22). -/
def owns (s : State) (p : Port) (t : Fin 8) : Bool := (s.tank t).owner ≠ .nobody && (s.tank t).owner = portOwner p

/-- A tank order of the owner site (R22, R23, R25, R40, R80, R82, R105). -/
def ownTank (p : Port) (tank : Byte) (body : Fin 8 → State → Answer) (s : State) : Answer :=
  withTank tank (fun t s => if owns s p t then body t s else answer s .refusedOwner) s

/-- The answer of TANK_CLAIM (R21). -/
def tankClaimAnswer (p : Port) (t : Fin 8) (s : State) : Answer :=
  if (s.tank t).owner = .nobody then answer (s.modTank t (fun k => { k with owner := portOwner p })) .done
  else answer s .refusedOwner

/-- TANK_CLAIM (R21). -/
def execTankClaim (h : Head) (tank : Byte) (s : State) : Result :=
  .next (takeOrder (.tankClaim h tank) h (siteForm false 0) (marking (withTank tank (tankClaimAnswer h.port))) s)

/-- The channel a binder holds is released, if it holds one (R5). -/
def State.releaseBinder (s : State) (b : Binder) : State :=
  match s.channelOf b with
  | some c => s.releaseChannel c
  | none => s

/-- A tank returns to what an unclaimed tank holds; its cycle counter, its last closed cycle and its serials
are kept (R22, steps 3 and 4; R109). -/
def State.unclaim (s : State) (t : Fin 8) : State :=
  let s := s.modTank t (fun k => { k with owner := .nobody, set := defaultTankSettings })
  (((s.setPhase t .offline).modTank t (fun k => { k with held := none, clamped := false, rawBand := 1 })).recomputeWeight t)

/-- The effects of a release that is applied, in the order of R22; the grant tracker's part stands before the
owner becomes NONE (R109; log entry 15). -/
def State.releaseTank (s : State) (t : Fin 8) : State :=
  let s := s.closeCycle t .released
  let s := ((s.releaseBinder (.tank t .level)).releaseBinder (.tank t .draw)).releaseBinder (.tank t .spill)
  (s.siteZero t .released).unclaim t

/-- The answer of TANK_RELEASE (R22). -/
def tankReleaseAnswer (t : Fin 8) (s : State) : Answer :=
  if s.listed t then answer s .refusedState else answer (s.releaseTank t) .done

/-- TANK_RELEASE (R22). -/
def execTankRelease (h : Head) (tank : Byte) (s : State) : Result :=
  .next (takeOrder (.tankRelease h tank) h (siteForm false 0) (marking (ownTank h.port tank tankReleaseAnswer)) s)

/-- The answer of TANK_SET (R23). -/
def tankSetAnswer (v : TankOperands) (t : Fin 8) (s : State) : Answer :=
  let sent := tankSent v (s.tank t).set.shape
  doneOr (s.applyTankSet t (clampTank sent)) (decide (clampTank sent ≠ sent))

/-- TANK_SET (R23). -/
def execTankSet (h : Head) (tank : Byte) (v : TankOperands) (s : State) : Result :=
  .next (takeOrder (.tankSet h tank v) h (siteForm (flagsReserved v.flags) 0)
    (marking (ownTank h.port tank (tankSetAnswer v))) s)

/-- The answer of SHAPE_SET, after the ownership check (R25, steps 2 and 3). -/
def shapeSetAnswer (v : ShapeOperands) (t : Fin 8) (s : State) : Answer :=
  if s.listed t then answer s .refusedState
  else if shapeOk v then answer (s.applyShape t (shapeSent v)) .done
  else answer s .refusedRange

/-- SHAPE_SET (R25). -/
def execShapeSet (h : Head) (tank : Byte) (v : ShapeOperands) (s : State) : Result :=
  .next (takeOrder (.shapeSet h tank v) h (siteForm false 0) (marking (ownTank h.port tank (shapeSetAnswer v))) s)

/-- The role of a role byte (11.2). -/
def roleOf (b : Byte) : Option Role :=
  match b.toNat with
  | 0 => some .level
  | 1 => some .draw
  | 2 => some .spill
  | _ => none

/-- The parameters a CHANNEL_BIND carries (R3). -/
def bindParams (v : BindOperands) : ChannelParams :=
  { activeLow := activeLowOf v.polarity, debounce := v.debounce.toNat, lockout := 0, gate := v.gate.toNat, tenths := v.tenths.toNat }

/-- A binding order with its channel judged, applied (R2, steps 2 to 5). -/
def bindAnswer (b : Binder) (target : Option (Fin 16)) (params : ChannelParams) (s : State) : Answer :=
  if s.claimedByOther b target then answer s .refusedClaimed
  else doneOr (s.applyBinding b target params) (target.isSome && paramsClamped (binderKind b) params)

/-- A change of the level role of a listed tank to another channel or to none (R3). -/
def levelHeldFast (s : State) (t : Fin 8) (r : Role) (target : Option (Fin 16)) : Bool :=
  r = .level && s.listed t && !(target.isSome && s.channelOf (.tank t .level) = target)

/-- The answer of CHANNEL_BIND for a role in range, after the ownership check (R2, R3; log entry 22). -/
def channelBindAnswer (r : Role) (v : BindOperands) (t : Fin 8) (s : State) : Answer :=
  match indexOrFF 16 v.channel with
  | none => answer s .refusedRange
  | some target =>
    if levelHeldFast s t r target then answer s .refusedState
    else bindAnswer (.tank t r) target (bindParams v) s

/-- The rule of CHANNEL_BIND, its role byte judged before the owner (log entry 22). -/
def channelBindRule (p : Port) (tank role : Byte) (v : BindOperands) (s : State) : Answer :=
  match roleOf role with
  | none => answer s .refusedRange
  | some r => ownTank p tank (channelBindAnswer r v) s

/-- CHANNEL_BIND (R3). -/
def execChannelBind (h : Head) (tank role : Byte) (v : BindOperands) (s : State) : Result :=
  .next (takeOrder (.channelBind h tank role v) h (siteForm (polarityReserved v.polarity) 0)
    (marking (channelBindRule h.port tank role v)) s)

/-- A request that has passed the checks of R80 is applied (R80, R81). -/
def State.takeRequest (s : State) (t : Fin 8) (m n : Nat) : State :=
  if s.listed t then s.setRequest t m n else (s.joinList t m n).noteAdmission t

/-- The answer of DRAIN_REQUEST, after the ownership check (R80, steps 3 to 5; R81). A listed tank's update whose m was brought
to m_limit answers DONE_CLAMPED also where it then changes nothing (log entry 54). -/
def drainRequestAnswer (m n : Word) (t : Fin 8) (s : State) : Answer :=
  let limit := (s.tank t).set.mLimit
  let k := min m.toNat limit
  if !s.listed t && (s.tank t).phase ≠ .wet && (s.tank t).phase ≠ .full then answer s .refusedState
  else if k < n.toNat then answer s .refusedRange
  else doneOr (s.takeRequest t k n.toNat) (decide (limit < m.toNat))

/-- DRAIN_REQUEST (R80, R81). -/
def execDrainRequest (h : Head) (tank : Byte) (m n : Word) (s : State) : Result :=
  .next (takeOrder (.drainRequest h tank m n) h (siteForm false 0) (ownTank h.port tank (drainRequestAnswer m n)) s)

/-- The answer of DRAIN_STOP, after the ownership check (R82, R109). -/
def drainStopAnswer (t : Fin 8) (s : State) : Answer :=
  if s.listed t then answer ((s.leaveList t .stopped).stopZero t) .done else answer s .refusedState

/-- DRAIN_STOP (R82). -/
def execDrainStop (h : Head) (tank : Byte) (s : State) : Result :=
  .next (takeOrder (.drainStop h tank) h (siteForm false 0) (ownTank h.port tank drainStopAnswer) s)

/-- The answer of GRANT_ACK, after the ownership check (R105, steps 3 to 5). -/
def grantAckAnswer (serial rate : Word) (t : Fin 8) (s : State) : Answer :=
  let g := (s.tank t).grant
  if serial ≠ g.serial then answer s .stale
  else if g.granted < rate.toNat then answer s .refusedRange
  else answer (s.acknowledge t serial rate.toNat) (if g.overdueSince.isSome then .late else .done)

/-- GRANT_ACK (R105). -/
def execGrantAck (h : Head) (tank : Byte) (serial rate : Word) (s : State) : Result :=
  .next (takeOrder (.grantAck h tank serial rate) h (siteForm false 0) (ownTank h.port tank (grantAckAnswer serial rate)) s)

/-- The answer of CYCLE_READ, after the ownership check (R40). -/
def cycleReadAnswer (t : Fin 8) (s : State) : Answer := doneData s 60 (cycleData s t)

/-- CYCLE_READ (R40). -/
def execCycleRead (h : Head) (tank : Byte) (s : State) : Result :=
  .next (takeOrder (.cycleRead h tank) h (siteForm false 60) (ownTank h.port tank cycleReadAnswer) s)

end Sys2Proof.Machine
end

