-- ==== Sys2Proof/Machine/RecordOrders.lean ====
section
/-! DEFINITION. The meanings of the orders of the RECORD port. -/

namespace Sys2Proof.Machine

/-- The form of an order of the RECORD port (R176). -/
def recordForm (reserved : Bool) (room : Nat) : OrderForm := { ports := [.record], reserved := reserved, room := room }

/-- The answer of CLOCK_SET (R193). -/
def clockSetAnswer (time : Long) (s : State) : Answer :=
  if time = 0#32 then answer s .refusedRange
  else answer (({ s with civil := some ((time.toNat : Int) - (s.partTime : Int)) } : State).clockRecord s.civilTime) .done

/-- CLOCK_SET (R193). -/
def execClockSet (h : Head) (time : Long) (s : State) : Result :=
  .next (takeOrder (.clockSet h time) h (recordForm false 0) (clockSetAnswer time) s)

/-- A waiting demand read stands while the cursor lies on its page (R158); a number on no page drops it too (log
entry 47). -/
def State.keepDemand (s : State) (n : Nat) : State :=
  s.modStore (fun v => { v with demand := v.demand.filter (fun r => (s.pageAt n).any (fun q => q.1 = r)) })

/-- The answer of READ_FROM (R158). -/
def readFromAnswer (sequence : Long) (s : State) : Answer :=
  let n := clamp s.oldest s.store.nextSeq sequence.toNat
  doneOr ((s.keepDemand n).setCursor n) (decide (n ≠ sequence.toNat))

/-- READ_FROM (R158). -/
def execReadFrom (h : Head) (sequence : Long) (s : State) : Result :=
  .next (takeOrder (.readFrom h sequence) h (recordForm false 0) (readFromAnswer sequence) s)

/-- The answer of READ_NEXT with its data in full (R159, R194). -/
def readNextReply (s : State) : ReadAnswer → Answer
  | .atEnd => answer s .atEnd
  | .gap oldest => { state := s, code := .gap, data := beBytes 4 oldest }
  | .record bytes => doneData s 32 bytes
  | .damaged first last => { state := s, code := .damaged, data := beBytes 4 first ++ beBytes 4 last }
  | .busy => answer s .busy

/-- The answer of READ_NEXT (R159): at most one step over lost numbers for each of the two buffered pages and
one to the next sequence number. -/
def readNextAnswer (s : State) : Answer :=
  let r := s.readNext 8
  readNextReply r.2 r.1

/-- READ_NEXT (R159). -/
def execReadNext (h : Head) (s : State) : Result :=
  .next (takeOrder (.readNext h) h (recordForm false 32) readNextAnswer s)

/-- A change of the archive mark: the ARCHIVE record, then the reclaim check (R152, R148). -/
def State.raiseMark (s : State) (n : Nat) : State :=
  if n = s.store.archiveMark then s
  else ((s.modStore (fun v => { v with archiveMark := n })).archiveRecord s.store.archiveMark n).reclaimCheck

/-- The answer of ARCHIVE_UPTO (R152). -/
def archiveUptoAnswer (sequence : Long) (s : State) : Answer :=
  if sequence.toNat ≤ s.store.archiveMark then answer s .done
  else if s.store.nextSeq ≤ sequence.toNat then answer (s.raiseMark (s.store.nextSeq - 1)) .doneClamped
  else answer (s.raiseMark sequence.toNat) .done

/-- ARCHIVE_UPTO (R152). -/
def execArchiveUpto (h : Head) (sequence : Long) (s : State) : Result :=
  .next (takeOrder (.archiveUpto h sequence) h (recordForm false 0) (archiveUptoAnswer sequence) s)

/-- The answer of CLOSE_PERIOD (R135). -/
def closePeriodAnswer (s : State) : Answer :=
  let n := s.enabledOutfalls.length
  if n = 0 then answer s .refusedState
  else if 32 < s.store.queue.length + n then answer s .busy
  else answer s.closePeriod .done

/-- CLOSE_PERIOD (R135). -/
def execClosePeriod (h : Head) (s : State) : Result :=
  .next (takeOrder (.closePeriod h) h (recordForm false 0) closePeriodAnswer s)

/-- The answer of COUNT_READ (R140). -/
def countReadAnswer (outfall : Byte) (s : State) : Answer :=
  match indexOrFF 8 outfall with
  | none => answer s .refusedRange
  | some none => doneData s 56 (countSettingsData s)
  | some (some o) => doneData s 56 (countData s o)

/-- COUNT_READ (R140). -/
def execCountRead (h : Head) (outfall : Byte) (s : State) : Result :=
  .next (takeOrder (.countRead h outfall) h (recordForm false 56) (countReadAnswer outfall) s)

/-- The answer of SPILL_SET (R137). -/
def spillSetAnswer (v : SpillOperands) (s : State) : Answer :=
  match indexOrFF 4 v.dryGauge with
  | none => answer s .refusedRange
  | some dry =>
    let sent := spillSent v dry
    doneOr (s.applySpillSet (clampSpill sent)) (decide (clampSpill sent ≠ sent))

/-- SPILL_SET (R137). -/
def execSpillSet (h : Head) (v : SpillOperands) (s : State) : Result :=
  .next (takeOrder (.spillSet h v) h (recordForm false 0) (marking (spillSetAnswer v)) s)

/-- The answer of GAUGE_SET (R47). -/
def gaugeSetAnswer (v : GaugeOperands) (s : State) : Answer :=
  let sent := gaugeSent v
  let fit := clampGauges sent
  if thresholdsOrdered fit then doneOr (s.applyGaugeSet fit) (decide (fit ≠ sent)) else answer s .refusedRange

/-- GAUGE_SET (R47). -/
def execGaugeSet (h : Head) (v : GaugeOperands) (s : State) : Result :=
  .next (takeOrder (.gaugeSet h v) h (recordForm false 0) (marking (gaugeSetAnswer v)) s)

/-- The parameters a GAUGE_BIND carries (R4). -/
def gaugeParams (v : GaugeBindOperands) : ChannelParams :=
  { activeLow := activeLowOf v.polarity, debounce := v.debounce.toNat, lockout := v.lockout.toNat, gate := 0, tenths := 0 }

/-- The answer of GAUGE_BIND (R2, R4). -/
def gaugeBindAnswer (gauge : Byte) (v : GaugeBindOperands) (s : State) : Answer :=
  match index 4 gauge, indexOrFF 16 v.channel with
  | some g, some target => bindAnswer (.gauge g) target (gaugeParams v) s
  | _, _ => answer s .refusedRange

/-- GAUGE_BIND (R4). -/
def execGaugeBind (h : Head) (gauge : Byte) (v : GaugeBindOperands) (s : State) : Result :=
  .next (takeOrder (.gaugeBind h gauge v) h (recordForm (polarityReserved v.polarity) 0) (marking (gaugeBindAnswer gauge v)) s)

/-- The answer of STORE_READ (R165). -/
def storeReadAnswer (part : Byte) (s : State) : Answer :=
  if part = 0#8 then doneData s 47 (storeStateData s)
  else if part = 1#8 then doneData s 47 (storeOutfallsData s)
  else answer s .refusedRange

/-- STORE_READ (R165). -/
def execStoreRead (h : Head) (part : Byte) (s : State) : Result :=
  .next (takeOrder (.storeRead h part) h (recordForm false 47) (storeReadAnswer part) s)

end Sys2Proof.Machine
end

