-- ==== Sys2Proof/Machine/LineEvents.lean ====
section
/-! DEFINITION. The meanings of the events of the measurement lines. -/

namespace Sys2Proof.Machine

/-- RAW_LINE_CHANGE: a line takes a level, in any stage; while a bundle is open nothing is taken (R8; log
entries 4 and 9). -/
def execRawLineChange (c : Fin 16) (high : Bool) (s : State) : Result :=
  .next (if s.bundle.isSome then s else s.lineChange c high)

/-- DEBOUNCE_ACCEPT (R8). -/
def execDebounceAccept (c : Fin 16) (s : State) : Result := .next (takeEvent (debounceDue s c) (fun s => s.acceptEdge c) s)

/-- CHANNEL_SETTLE (R7). -/
def execChannelSettle (c : Fin 16) (s : State) : Result := .next (takeEvent (settleDue s c) (fun s => s.settleChannel c) s)

/-- RAIN_STUCK (R11). -/
def execRainStuck (c : Fin 16) (s : State) : Result := .next (takeEvent (stuckDue s c) (fun s => s.becomeStuck c) s)

/-- LEVEL_SATURATE (R12). -/
def execLevelSaturate (c : Fin 16) (s : State) : Result :=
  .next (takeEvent (saturateDue s c) (fun s => s.modChannel c Channel.saturate) s)

/-- LEVEL_SAMPLE (R13, R14). -/
def execLevelSample (c : Fin 16) (s : State) : Result :=
  .next (takeEvent (sampleDue s c) (fun s =>
    match levelTank s c with
    | some t => s.levelSecond c t
    | none => s) s)

/-- LEVEL_STALE_TIMEOUT (R15). -/
def execLevelStaleTimeout (c : Fin 16) (s : State) : Result :=
  .next (takeEvent (staleDue s c) (fun s => s.modChannel c (fun k => { k with status := .stale })) s)

/-- LEVEL_FAULT_TIMEOUT (R15). -/
def execLevelFaultTimeout (c : Fin 16) (s : State) : Result :=
  .next (takeEvent (levelFaultDue s c) (fun s =>
    match levelTank s c with
    | some t => s.levelFault c t
    | none => s) s)

/-- GATE_END (R16). -/
def execGateEnd (c : Fin 16) (s : State) : Result := .next (takeEvent (gateDue s c) (fun s => s.endGate c) s)

end Sys2Proof.Machine
end

