-- ==== Sys2Proof/Machine/TimerEvents.lean ====
section
/-! DEFINITION. The meanings of the timers of the blocks. -/

namespace Sys2Proof.Machine

/-- BIN_BOUNDARY (R44). -/
def execBinBoundary (s : State) : Result := .next (takeEvent (binDue s) (fun s => s.rollBins) s)

/-- CLEAR_TIMER_EXPIRY (R52). -/
def execClearTimerExpiry (s : State) : Result := .next (takeEvent s.clearDue (fun s => s.stepDown) s)

/-- ENTRY_EXPIRY (R66). -/
def execEntryExpiry (s : State) : Result :=
  .next (takeEvent s.expiryDue.isSome (fun s =>
    match s.expiryDue with
    | some e => s.expireEntry e
    | none => s) s)

/-- LEASE_LAPSE (R71). -/
def execLeaseLapse (s : State) : Result := .next (takeEvent s.lapseDue (fun s => s.lapseLease) s)

/-- HOLD_EXPIRY (R74). -/
def execHoldExpiry (s : State) : Result := .next (takeEvent (holdDue s) (fun s => s.endHold .holdEndExpiry) s)

/-- CONFIRM_DEADLINE (R106). -/
def execConfirmDeadline (t : Fin 8) (s : State) : Result :=
  .next (takeEvent (deadlineDue s t) (fun s =>
    match (s.tank t).grant.deadline with
    | some d => s.becomeOverdue t d
    | none => s) s)

/-- T_ON_EXPIRY (R121). -/
def execTOnExpiry (o : Fin 8) (s : State) : Result :=
  .next (takeEvent (onDue s o) (fun s =>
    match s.pendingSince o with
    | some t => s.enterSpilling o t true
    | none => s) s)

/-- T_OFF_EXPIRY (R123). -/
def execTOffExpiry (o : Fin 8) (s : State) : Result := .next (takeEvent (offDue s o) (fun s => s.becomeQuiet o) s)

/-- INTERVAL_END (R130). -/
def execIntervalEnd (o : Fin 8) (s : State) : Result :=
  .next (takeEvent (intervalDue s o) (fun s =>
    match (s.outfall o).event with
    | some v => s.endInterval o v
    | none => s) s)

/-- FLUSH_TIMER_EXPIRY (R144). -/
def execFlushTimerExpiry (s : State) : Result :=
  .next (takeEvent (flushDue s) (fun s => s.modStore (fun v => { v with due := true, flushAt := none })) s)

end Sys2Proof.Machine
end

