-- ==== Sys2Proof/Machine/ArrayEvents.lean ====
section
/-! DEFINITION. The meanings of the events of the record store's buffers and of its array. -/

namespace Sys2Proof.Machine

namespace State

/-- A due page passes to the program buffer, and the assembly buffer takes records again (R144). -/
def handPage (s : State) : State :=
  fillAssembly 16 (s.modStore (fun v =>
    { v with program := some v.assembly, assembly := [], due := false, flushAt := none }))

/-- The write point moves on from a page that has been programmed (R146, step 4). -/
def movePoint (s : State) (r : PageRef) : State :=
  let s := s.modStore (fun v => { v with writePage := r.page.val + 1 })
  if r.page = 15 then s.leaveBlock else s

/-- The records of the program buffer's page. -/
def programRecords (s : State) : List (List Byte) := s.store.program.getD []

/-- A program ends, ordinary or of a relocation (R146, R154, R155). -/
def programEnds (s : State) (r : PageRef) (relocating ok : Bool) : State :=
  match relocating, ok with
  | false, true => (s.pageProgrammed r s.programRecords).movePoint r
  | false, false => s.programFailed r
  | true, true => s.relocated r s.programRecords
  | true, false => s.relocationFailed r s.programRecords

/-- A relocation copy ends (R154, step 1; R155). -/
def copyEnds (s : State) (page : Fin 16) (source target : Fin 64) (ok : Bool) : State :=
  let cells := s.arrayPage ⟨source, page⟩
  if ok then
    (s.setArrayPage ⟨target, page⟩ cells).modStore (fun v =>
      { v with reloc := v.reloc.map (fun q => { q with next := page.val + 1 }) })
  else s.relocationFailed ⟨target, page⟩ (pageRecords cells)

/-- A page read ends: a demand read chooses its buffer and queues a prefetch, a prefetch has its buffer (R160). -/
def readEnds (s : State) (r : PageRef) (target : Option (Fin 2)) (sound : Bool) : State :=
  match target with
  | some i => s.loadBuffer r i sound
  | none =>
    let i := s.demandBuffer
    (s.loadBuffer r i sound).queuePrefetch r i

/-- The array programs a page. -/
def programming (s : State) : Bool :=
  match s.store.op with
  | some (.program _ _) => true
  | _ => false

/-- The array copies a page. -/
def copying (s : State) : Bool :=
  match s.store.op with
  | some (.copy _ _ _) => true
  | _ => false

/-- The array reads a page. -/
def readingPage (s : State) : Bool :=
  match s.store.op with
  | some (.read _ _) => true
  | _ => false

end State

/-- PAGE_HANDOVER (R144). -/
def execPageHandover (s : State) : Result := .next (takeEvent (handoverDue s) (fun s => s.handPage) s)

/-- ARRAY_OPERATION_START (R147). -/
def execArrayOperationStart (s : State) : Result :=
  .next (takeEvent (operationDue s) (fun s =>
    match s.arbiterChoice with
    | some o => s.beginOperation o
    | none => s) s)

/-- PAGE_PROGRAM_COMPLETE with its outcome (R146, R154, R155). -/
def execPageProgramComplete (ok : Bool) (s : State) : Result :=
  .next (takeEvent s.programming (fun s =>
    match s.store.op with
    | some (.program r relocating) => s.operationEnds.programEnds r relocating ok
    | _ => s) s)

/-- RELOCATION_COPY_COMPLETE with its outcome (R154, R155). -/
def execRelocationCopyComplete (ok : Bool) (s : State) : Result :=
  .next (takeEvent s.copying (fun s =>
    match s.store.op with
    | some (.copy page source target) => s.operationEnds.copyEnds page source target ok
    | _ => s) s)

/-- BLOCK_ERASE_COMPLETE with its outcome (R150, R156). -/
def execBlockEraseComplete (ok : Bool) (s : State) : Result :=
  .next (takeEvent s.erasing (fun s =>
    match s.store.op with
    | some (.erase b) => if ok then s.operationEnds.erased b else s.operationEnds.eraseFailed b
    | _ => s) s)

/-- PAGE_READ_COMPLETE with the result of the data check of the bytes read (R160). -/
def execPageReadComplete (sound : Bool) (s : State) : Result :=
  .next (takeEvent s.readingPage (fun s =>
    match s.store.op with
    | some (.read r target) => s.operationEnds.readEnds r target sound
    | _ => s) s)

end Sys2Proof.Machine
end

