-- ==== Sys2Proof/Machine/Clock.lean ====
section
/-! DEFINITION. What the part does with no command waiting: its own due step, or the passing of time (R192; log
entries 1 and 2). -/

namespace Sys2Proof.Machine

namespace State

/-- Time stands still while RESET is held (R189) and while a bundle is open (log entry 4). -/
def timeStands (s : State) : Bool := s.stage = .held || s.bundle.isSome

/-- One microsecond passes (log entry 1). -/
def tick (s : State) : State := if s.timeStands then s else { s with clock := s.clock + 1 }

/-- The part's own steps that can be taken now: those due, in RUNNING and between bundles (R96). -/
def ready (s : State) : List Instr := if s.stage = .running ∧ s.bundle = none then dueEvents s else []

/-- The step taken of those due: any of them, as the free choice falls (R96, R85; log entry 2). -/
def nextDue (s : State) : Option Instr := s.ready[s.freeChoice s.ready.length]?

/-- A choice among several uses a free value. -/
def afterChoice (s : State) : State := if 1 < s.ready.length then s.drawFree else s

end State

end Sys2Proof.Machine
end

