-- ==== Sys2Proof/Machine/Dispatch.lean ====
section
/-! DEFINITION. The meaning of every command, one arm for each row of spec/opcode_table.json. -/

namespace Sys2Proof.Machine

def exec (i : Instr) (s : State) : Host.Outcome State Fault Refusal :=
  match i with
  | .startUp => Sys2Proof.Machine.execStartUp s
  | .resetAssert => Sys2Proof.Machine.execResetAssert s
  | .imageLoad acknowledged => Sys2Proof.Machine.execImageLoad acknowledged s
  | .storeFormat eraseFails => Sys2Proof.Machine.execStoreFormat eraseFails s
  | .storeScan => Sys2Proof.Machine.execStoreScan s
  | .requestStart port bytes => Sys2Proof.Machine.execRequestStart port bytes s
  | .frameError port => Sys2Proof.Machine.execFrameError port s
  | .notReady port => Sys2Proof.Machine.execNotReady port s
  | .responseRead port clocked => Sys2Proof.Machine.execResponseRead port clocked s
  | .nop h => Sys2Proof.Machine.execNop h s
  | .unassignedCode h code => Sys2Proof.Machine.execUnassignedCode h code s
  | .identify h => Sys2Proof.Machine.execIdentify h s
  | .statusRead h group => Sys2Proof.Machine.execStatusRead h group s
  | .noticesRead h => Sys2Proof.Machine.execNoticesRead h s
  | .noticeMask h mask => Sys2Proof.Machine.execNoticeMask h mask s
  | .portReset h => Sys2Proof.Machine.execPortReset h s
  | .saveSettings h => Sys2Proof.Machine.execSaveSettings h s
  | .savePageSent acknowledged => Sys2Proof.Machine.execSavePageSent acknowledged s
  | .eepromWriteComplete => Sys2Proof.Machine.execEepromWriteComplete s
  | .eepromWriteTimeout => Sys2Proof.Machine.execEepromWriteTimeout s
  | .pageReadbackComplete data => Sys2Proof.Machine.execPageReadbackComplete data s
  | .tankRead h tank part => Sys2Proof.Machine.execTankRead h tank part s
  | .alertRead h gauge => Sys2Proof.Machine.execAlertRead h gauge s
  | .entryWrite h entry rate duration link => Sys2Proof.Machine.execEntryWrite h entry rate duration link s
  | .entryPost h entry => Sys2Proof.Machine.execEntryPost h entry s
  | .entryRecall h entry => Sys2Proof.Machine.execEntryRecall h entry s
  | .entryRead h entry => Sys2Proof.Machine.execEntryRead h entry s
  | .scheduleKick h entry => Sys2Proof.Machine.execScheduleKick h entry s
  | .scheduleStop h => Sys2Proof.Machine.execScheduleStop h s
  | .leaseRenew h => Sys2Proof.Machine.execLeaseRenew h s
  | .hold h minutes => Sys2Proof.Machine.execHold h minutes s
  | .release h => Sys2Proof.Machine.execRelease h s
  | .worksSet h v => Sys2Proof.Machine.execWorksSet h v s
  | .drawRead h => Sys2Proof.Machine.execDrawRead h s
  | .tankClaim h tank => Sys2Proof.Machine.execTankClaim h tank s
  | .tankRelease h tank => Sys2Proof.Machine.execTankRelease h tank s
  | .tankSet h tank v => Sys2Proof.Machine.execTankSet h tank v s
  | .shapeSet h tank v => Sys2Proof.Machine.execShapeSet h tank v s
  | .channelBind h tank role v => Sys2Proof.Machine.execChannelBind h tank role v s
  | .drainRequest h tank m n => Sys2Proof.Machine.execDrainRequest h tank m n s
  | .drainStop h tank => Sys2Proof.Machine.execDrainStop h tank s
  | .grantAck h tank serial rate => Sys2Proof.Machine.execGrantAck h tank serial rate s
  | .cycleRead h tank => Sys2Proof.Machine.execCycleRead h tank s
  | .clockSet h time => Sys2Proof.Machine.execClockSet h time s
  | .readFrom h sequence => Sys2Proof.Machine.execReadFrom h sequence s
  | .readNext h => Sys2Proof.Machine.execReadNext h s
  | .archiveUpto h sequence => Sys2Proof.Machine.execArchiveUpto h sequence s
  | .closePeriod h => Sys2Proof.Machine.execClosePeriod h s
  | .countRead h outfall => Sys2Proof.Machine.execCountRead h outfall s
  | .spillSet h v => Sys2Proof.Machine.execSpillSet h v s
  | .gaugeSet h v => Sys2Proof.Machine.execGaugeSet h v s
  | .gaugeBind h gauge v => Sys2Proof.Machine.execGaugeBind h gauge v s
  | .storeRead h part => Sys2Proof.Machine.execStoreRead h part s
  | .rawLineChange c high => Sys2Proof.Machine.execRawLineChange c high s
  | .debounceAccept c => Sys2Proof.Machine.execDebounceAccept c s
  | .channelSettle c => Sys2Proof.Machine.execChannelSettle c s
  | .rainStuck c => Sys2Proof.Machine.execRainStuck c s
  | .levelSaturate c => Sys2Proof.Machine.execLevelSaturate c s
  | .levelSample c => Sys2Proof.Machine.execLevelSample c s
  | .levelStaleTimeout c => Sys2Proof.Machine.execLevelStaleTimeout c s
  | .levelFaultTimeout c => Sys2Proof.Machine.execLevelFaultTimeout c s
  | .gateEnd c => Sys2Proof.Machine.execGateEnd c s
  | .binBoundary => Sys2Proof.Machine.execBinBoundary s
  | .clearTimerExpiry => Sys2Proof.Machine.execClearTimerExpiry s
  | .entryExpiry => Sys2Proof.Machine.execEntryExpiry s
  | .leaseLapse => Sys2Proof.Machine.execLeaseLapse s
  | .holdExpiry => Sys2Proof.Machine.execHoldExpiry s
  | .confirmDeadline t => Sys2Proof.Machine.execConfirmDeadline t s
  | .tOnExpiry o => Sys2Proof.Machine.execTOnExpiry o s
  | .tOffExpiry o => Sys2Proof.Machine.execTOffExpiry o s
  | .intervalEnd o => Sys2Proof.Machine.execIntervalEnd o s
  | .flushTimerExpiry => Sys2Proof.Machine.execFlushTimerExpiry s
  | .pageHandover => Sys2Proof.Machine.execPageHandover s
  | .arrayOperationStart => Sys2Proof.Machine.execArrayOperationStart s
  | .pageProgramComplete ok => Sys2Proof.Machine.execPageProgramComplete ok s
  | .relocationCopyComplete ok => Sys2Proof.Machine.execRelocationCopyComplete ok s
  | .blockEraseComplete ok => Sys2Proof.Machine.execBlockEraseComplete ok s
  | .pageReadComplete sound => Sys2Proof.Machine.execPageReadComplete sound s

end Sys2Proof.Machine
end

