-- ==== Sys2Proof/WellFormed.lean ====
section
/-! DEFINITION. Which commands the spec's table can spell: what a frame can carry and a transfer can be. -/

namespace Sys2Proof

/-- An order stands at a place of a bundle of one to four orders (R169, R170). -/
def Head.wellFormed (h : Head) : Bool := decide (1 ≤ h.count) && decide (h.count ≤ 4) && decide (h.index < h.count)

/-- A command is well-formed: an order's place lies in its bundle, an unassigned code is not assigned, a
request begins with a byte other than 0x00, a read clocks at least one byte, and a page read back has 32
bytes (R167 to R170, R173, R187). -/
def wellFormed (i : Instr) : Bool :=
  match i with
  | .unassignedCode h code => h.wellFormed && !codeAssigned code.toNat
  | .requestStart _ bytes => decide (bytes.headD 0#8 ≠ 0#8)
  | .responseRead _ clocked => decide (1 ≤ clocked)
  | .pageReadbackComplete data => decide (data.length = 32)
  | .storeFormat fails => decide fails.Nodup
  | i =>
    match orderHead i with
    | some h => h.wellFormed
    | none => true

end Sys2Proof
end

