-- ==== Sys2Proof/Safety.lean ====
section
/-! DEFINITION. What the statements speak of: an order at its place, the tables of 9.6 and 11.2 that check it, what
the rules make of a channel, the rain watch, an outfall, a tank, the share-out and a record, and the invariants of the
part. -/

namespace Sys2Proof.Machine

/-- The ports whose order set holds an order (R176). -/
def orderPorts : Instr → List Port
  | .entryWrite .. | .entryPost .. | .entryRecall .. | .entryRead .. | .scheduleKick .. | .scheduleStop .. | .leaseRenew ..
  | .hold .. | .release .. | .worksSet .. | .drawRead .. => [.works]
  | .tankClaim .. | .tankRelease .. | .tankSet .. | .shapeSet .. | .channelBind .. | .drainRequest .. | .drainStop ..
  | .grantAck .. | .cycleRead .. => [.siteA, .siteB]
  | .clockSet .. | .readFrom .. | .readNext .. | .archiveUpto .. | .closePeriod .. | .countRead .. | .spillSet .. | .gaugeSet ..
  | .gaugeBind .. | .storeRead .. => [.record]
  | _ => [.works, .siteA, .siteB, .record]

/-- The largest data an order returns (11.2, last column). -/
def orderRoom : Instr → Nat
  | .identify _ => 20
  | .statusRead .. => 60
  | .noticesRead _ => 4
  | .tankRead .. => 53
  | .alertRead .. => 40
  | .entryRead .. => 24
  | .drawRead _ => 59
  | .cycleRead .. => 60
  | .readNext _ => 32
  | .countRead .. => 56
  | .storeRead .. => 47
  | _ => 0

/-- An order's operands have a reserved bit set (11.2): bits 7 to 1 of a polarity, bits 7 to 3 of the flags. -/
def orderReserved : Instr → Bool
  | .worksSet _ v => decide (2 ≤ v.polarity.toNat)
  | .channelBind _ _ _ v => decide (2 ≤ v.polarity.toNat)
  | .gaugeBind _ _ v => decide (2 ≤ v.polarity.toNat)
  | .tankSet _ _ v => decide (8 ≤ v.flags.toNat)
  | _ => false

/-- The command is an order with a code of its own (R173). -/
def assignedOrder : Instr → Bool
  | .unassignedCode .. => false
  | i => (orderHead i).isSome

/-- The state in which an order of a bundle is checked. -/
def State.during (s : State) (b : Bundle) : State := { s with bundle := some b }

/-- An order stands at its place in RUNNING: its port's frame holds it, and it is the next of its bundle. -/
structure Stands (i : Instr) (h : Head) (s : State) (b : Bundle) : Prop where
  head : orderHead i = some h
  running : s.stage = .running
  frame : frameHolds s i h = true
  place : nextBundle s h = some b

/-- An order passes steps 1 to 5 of its checks (R172). -/
structure Admitted (i : Instr) (h : Head) (s : State) (b : Bundle) : Prop extends Stands i h s b where
  clear : orderReserved i = false
  role : h.port ∈ orderPorts i
  valid : guardValid h.guard = true
  value : guardValue (s.during b) h.guard = true
  fits : orderRoom i ≤ spaceLeft (s.during b) h

/-- What the part answers when an order's rule answers. -/
def answered (s : State) (c : Code) (data : List Byte) (b : Bundle) : Result :=
  .next (placeAnswer { state := s, code := c, data := data } b)

/-- An event outside a bundle can be taken (R96). -/
structure Open (s : State) : Prop where
  running : s.stage = .running
  between : s.bundle = none

/-- A binding order that reaches its channel's checks: its binder, the channel it names, and the polarity and debounce time
it carries (R3, R4). -/
def bindingOrder (i : Instr) (h : Head) (s : State) (binder : Binder) (named polarity debounce : Byte) : Prop :=
  (∃ (x r : Byte) (v : BindOperands) (t : Fin 8) (role : Role), i = .channelBind h x r v ∧ t.val = x.toNat ∧ roleOf r = some role
      ∧ (s.tank t).owner = portOwner h.port ∧ binder = .tank t role ∧ named = v.channel ∧ polarity = v.polarity
      ∧ debounce = v.debounce)
    ∨ ∃ (x : Byte) (v : GaugeBindOperands) (g : Fin 4), i = .gaugeBind h x v ∧ g.val = x.toNat ∧ binder = .gauge g
      ∧ named = v.channel ∧ polarity = v.polarity ∧ debounce = v.debounce

/-- The channel parameters a binding order or WORKS_SET carries (R3, R4). -/
def carriedParams : Instr → ChannelParams
  | .channelBind _ _ _ v => bindParams v
  | .gaugeBind _ _ v => gaugeParams v
  | .worksSet _ v => worksParams v
  | _ => defaultParams

/-- The binder is the level role of a tank in the drain list, which keeps its channel (R3). -/
def levelListed (s : State) (binder : Binder) : Prop := ∃ t, binder = .tank t .level ∧ t ∈ s.drainList

/-- What an event leaves, its end included (R96). -/
def ended (s : State) : Result := .next s.finishEvent

/-- The order in which R7 names the binders: WORKS section, tanks by role, gauges. -/
def binderRank : Binder → Nat
  | .none => 0
  | .legMeter => 0
  | .tank t r => 1 + 3 * t.val + roleCode r
  | .gauge g => 25 + g.val

/-- The binding that settings hold for a binder (R184). -/
def settingsBinding (w : Settings) : Binder → Option Binding
  | .none => none
  | .legMeter => w.legMeter
  | .tank t .level => (w.tanks.get t).level
  | .tank t .draw => (w.tanks.get t).draw
  | .tank t .spill => (w.tanks.get t).spill
  | .gauge g => w.rain.get g

/-- Every block holds the settings: numbers, tanks, gauges, retired list; a channel that no binder names is unbound, and of
the binders that name a channel the one named first keeps it, with its parameters (R7, R20, R41, R190). -/
def settingsIn (w : Settings) (t : State) : Prop :=
  t.works = w.works ∧ t.spill.set = w.spill ∧ t.retired = w.retired ∧ t.gaugeSettings = w.gauges
    ∧ (∀ k, t.tank k = { unclaimedTank with owner := (w.tanks.get k).owner, set := (w.tanks.get k).set,
                                            weight := (w.tanks.get k).set.cls })
    ∧ (∀ g, t.gauge g = { idleGauge with tipDepth := w.gauges.tips.get g })
    ∧ ∀ c, ((∀ b q, settingsBinding w b = some q → q.channel ≠ c) → t.channel c = unboundChannel)
      ∧ ∀ b q, settingsBinding w b = some q → q.channel = c →
          (∀ x y, settingsBinding w x = some y → y.channel = c → binderRank b ≤ binderRank x) →
          t.channel c = ({ unboundChannel with kind := binderKind b, binder := b } : Channel).withParams
            (takeParams (binderKind b) defaultParams q.params)

/-- A save has ended with a result: the SETTINGS notice is on its requesters, and a follow-on has begun as a new save of the
settings as they stand (R187, R188). -/
def saveEnded (s t : State) (v : SaveRun) (result : SaveResult) (failed : Bool) : Prop :=
  t.save = (match s.save.followOn with
    | none => { s.save with run := none, last := result, changed := s.save.changed || failed }
    | some r =>
      { s.save with
        run := some { page := 0, step := .sending, snapshot := formImage s.workingSettings, requesters := r }
        followOn := none, last := result, changed := false })
  ∧ ∀ p, t.port p = { s.port p with
      notices := if v.requesters &&& requester p = 0#4 then (s.port p).notices
        else (s.port p).notices ||| noticeWord .settings }

/-- The state after the renewal of R70: in RUNNING and STALLED the lease starts now, else nothing changes. -/
def renewedLease (s : State) : State :=
  if s.allow.sched = .running ∨ s.allow.sched = .stalled then s.modAllow (fun a => { a with lease := some s.partTime }) else s

/-- What only the passing of time, a transfer's end, CLOCK_SET, the lines, a save's write and start-up write. -/
def State.outer (s : State) : Stage × Nat × Option Int × Vector Bool 16 × Option Bundle × List Instr × List Host.Cell :=
  (s.stage, s.clock, s.civil, s.lines, s.bundle, s.pending, s.eeprom)

/-- Each port but for its notices. -/
def State.transfers (s : State) : Vector PortState 4 := s.ports.map (fun q => { q with notices := 0#16 })

/-- The notices of the four ports. -/
def State.noticeSets (s : State) : Vector Word 4 := s.ports.map (fun q => q.notices)

/-- The drain list and the global serial. -/
def State.drains (s : State) : List (Fin 8) × Word := (s.drainList, s.globalSerial)

/-- The array, the retired list and the use of free values. -/
def State.media (s : State) : Vector Block 64 × Retired × Nat := (s.array, s.retired, s.freeIndex)

/-- The areas of the state, for the frames of the statements: together they are all of it. -/
inductive Area where
  | outer | transfers | notices | trigger | channels | tanks | rain | allow | drains | leg | works | spill | store | save | media
  deriving DecidableEq, Repr

/-- An area is the same in two states. -/
def unchanged (s t : State) : Area → Prop
  | .outer => t.outer = s.outer
  | .transfers => t.transfers = s.transfers
  | .notices => t.noticeSets = s.noticeSets
  | .trigger => t.trigger = s.trigger
  | .channels => t.channels = s.channels
  | .tanks => t.tanks = s.tanks
  | .rain => t.rain = s.rain
  | .allow => t.allow = s.allow
  | .drains => t.drains = s.drains
  | .leg => t.leg = s.leg
  | .works => t.works = s.works
  | .spill => t.spill = s.spill
  | .store => t.store = s.store
  | .save => t.save = s.save
  | .media => t.media = s.media

/-- Every area but those named is the same in two states: the frame of what leads from one to the other. -/
def onlyChanges (areas : List Area) (s t : State) : Prop := ∀ a, a ∉ areas → unchanged s t a

/-- A channel with the parameters carried, each that its kind uses at its nearest bound (R1, R2, R9). -/
def Channel.taking (k : Channel) (kind : Kind) (p : ChannelParams) : Channel :=
  { k with
    activeLow := p.activeLow, debounce := max 1 (min 50 p.debounce)
    lockout := if kind = .rain then min 2000 p.lockout else k.lockout
    gate := if kind = .flow then max 1 (min 60 p.gate) else k.gate
    tenths := if kind = .flow then max 1 (min 10000 p.tenths) else k.tenths }

/-- Every parameter that the kind uses lies within its range (R1). -/
def paramsFit (kind : Kind) (p : ChannelParams) : Prop :=
  1 ≤ p.debounce ∧ p.debounce ≤ 50 ∧ (kind = .rain → p.lockout ≤ 2000)
    ∧ (kind = .flow → 1 ≤ p.gate ∧ p.gate ≤ 60 ∧ 1 ≤ p.tenths ∧ p.tenths ≤ 10000)

/-- A channel that a binder takes and starts now (R2, R7). -/
def startedChannel (s : State) (k : Channel) (b : Binder) (p : ChannelParams) : Channel :=
  { k.taking (binderKind b) p with
    kind := binderKind b, binder := b, status := .ok, active := false, settled := false, since := some s.clock, rain := noRain
    level := { noLevel with reference := s.partTime, sampledAt := s.partTime }, flow := { noFlow with gateStart := s.partTime } }

/-- A channel released: unbound, with its parameters (R5). -/
def releasedChannel (k : Channel) : Channel :=
  { unboundChannel with
    activeLow := k.activeLow, debounce := k.debounce, lockout := k.lockout, gate := k.gate, tenths := k.tenths }

/-- A channel held whose parameters are replaced: a changed polarity begins a settling and discards the period in progress,
a changed gate or pulse size begins a gate (R9). -/
def keptChannel (s : State) (k : Channel) (b : Binder) (p : ChannelParams) : Channel :=
  let n := k.taking (binderKind b) p
  { n with
    settled := if k.activeLow = p.activeLow then k.settled else false
    since := if k.activeLow = p.activeLow then k.since else some s.clock
    level := if k.activeLow = p.activeLow then k.level else { k.level with period := none }
    flow := if k.kind = .flow ∧ (k.gate ≠ n.gate ∨ k.tenths ≠ n.tenths) then { k.flow with pulses := 0, gateStart := s.partTime }
      else k.flow }

/-- A tank with band and weight from its raw band, its spilling field and the alert level (R34). -/
def weighed (alert : AlertLevel) (k : Tank) : Tank :=
  let band :=
    if k.spilling then 4
    else if k.set.preEmpt = true ∧ (alert = .warn ∨ alert = .storm) then min 4 (k.rawBand + 1)
    else k.rawBand
  { k with band := band, weight := k.set.cls * band }

/-- I15 of a gauge: four times the depth of its last three five-minute bins (R45). -/
def intensity (g : Gauge) : Nat := 4 * ((g.five.take 3).sum * g.tipDepth)

/-- D60 of a gauge: the depth of its twelve five-minute bins (R45). -/
def hourDepth (g : Gauge) : Nat := g.five.sum * g.tipDepth

/-- The level of a gauge at an evaluation: the highest whose entry condition it meets, CLEAR unless it is AVAILABLE (R46,
R48). -/
def levelMet (r : Rain) (g : Gauge) : AlertLevel :=
  if g.avail ≠ .available then .clear
  else if r.storm.entryI ≤ intensity g ∨ r.storm.entryD ≤ hourDepth g then .storm
  else if r.warn.entryI ≤ intensity g ∨ r.warn.entryD ≤ hourDepth g then .warn
  else if r.watch.entryI ≤ intensity g ∨ r.watch.entryD ≤ hourDepth g then .watch
  else .clear

/-- The exit values of the catchment level in force are undercut by every AVAILABLE gauge; CLEAR has none (R46, R51). -/
def quietNow (r : Rain) : Prop :=
  r.catchment ≠ .clear
    ∧ ∀ v, (r.catchment = .watch ∧ v = r.watch ∨ r.catchment = .warn ∧ v = r.warn ∨ r.catchment = .storm ∧ v = r.storm) →
      ∀ g, (r.gauges.get g).avail = .available → intensity (r.gauges.get g) < v.exitI ∧ hourDepth (r.gauges.get g) < v.exitD

/-- What an evaluation makes of a state: every gauge takes its level; the catchment level rises to the highest of them, with
an ALERT record led by the lowest-numbered gauge at it, the ALERT notice on every port and the tanks weighed anew; the clear
timer starts or runs on in the quiet condition of the level then in force and stops out of it (R34, R48 to R51, R55, R56). -/
def evaluated (s t : State) : Prop :=
  t.rain = { s.rain with gauges := t.rain.gauges, catchment := t.rain.catchment, timer := t.rain.timer }
    ∧ (∀ g, t.gauge g = { s.gauge g with level := levelMet s.rain (s.gauge g) })
    ∧ alertCode t.rain.catchment =
        (List.finRange 4).foldl (fun n g => max n (alertCode (levelMet s.rain (s.gauge g)))) (alertCode s.rain.catchment)
    ∧ (quietNow t.rain → t.rain.timer = some (s.rain.timer.getD s.partTime)) ∧ (¬ quietNow t.rain → t.rain.timer = none)
    ∧ (t.rain.catchment = s.rain.catchment → t = { s with rain := t.rain })
    ∧ (t.rain.catchment ≠ s.rain.catchment →
        (∀ p, (t.port p).notices &&& noticeWord .alert ≠ 0#16) ∧ (∀ k, t.tank k = weighed t.rain.catchment (s.tank k))
        ∧ ∀ g, levelMet s.rain (s.gauge g) = t.rain.catchment →
            (∀ x, x < g → levelMet s.rain (s.gauge x) ≠ t.rain.catchment) →
            t.store = (s.alertRecord s.rain.catchment t.rain.catchment (some g) (intensity (s.gauge g)) (hourDepth (s.gauge g))
              s.availableCount).store)
    ∧ onlyChanges [.rain, .tanks, .store, .notices, .trigger] s t

/-- What the expiry of the clear timer makes of a state: the level one lower, with its ALERT record and notices and the tanks
weighed anew, and then an evaluation (R34, R52, R55, R56). -/
def steppedDown (s t : State) : Prop :=
  ∃ u, u.rain = { s.rain with catchment := u.rain.catchment, timer := none }
    ∧ alertCode u.rain.catchment = alertCode s.rain.catchment - 1
    ∧ u.store = (s.alertRecord s.rain.catchment u.rain.catchment none 0 0 s.availableCount).store
    ∧ (∀ p, (u.port p).notices &&& noticeWord .alert ≠ 0#16) ∧ (∀ k, u.tank k = weighed u.rain.catchment (s.tank k))
    ∧ onlyChanges [.rain, .tanks, .store, .notices, .trigger] s u ∧ evaluated u t

/-- The event that an entry to SPILLING opens: from its stretch start, counted in its first interval of W1 hours, under the
number its record takes, with EARLY by phase and fill and DRY and UNKNOWN_RAIN by the dry gauge (R126, R127, R128). -/
def eventOpened (s : State) (o : Fin 8) (start : Nat) (w : SpillEvent) : Prop :=
  w.opening = (if s.store.nextSeq < 4294967295 then s.store.nextSeq else 0) ∧ w.start = start ∧ w.interval = 1
    ∧ w.intervalEnd = start + 3600 * s.spill.set.w1 ∧ w.counted = true ∧ w.count = 1 ∧ w.seconds = 0
    ∧ w.phase = (s.tank o).phase ∧ w.fill = (s.tank o).held.map (fun h => h.fill) ∧ w.alert = s.rain.catchment
    ∧ w.gauge = s.spill.set.dryGauge
    ∧ (w.early = true ↔ (s.tank o).phase = .offline ∨ (s.tank o).phase = .unknown ∨ w.fill.getD 0 < s.spill.set.p)
    ∧ (w.unknownRain = true ↔ ∀ g, s.spill.set.dryGauge = some g → (s.gauge g).avail ≠ .available)
    ∧ (w.dry = true ↔ s.rain.catchment = .clear ∧ ∃ g, s.spill.set.dryGauge = some g ∧ (s.gauge g).avail = .available
        ∧ (s.gauge g).hourly.sum * (s.gauge g).tipDepth < s.spill.set.dDry)

/-- What an entry to SPILLING makes of an outfall and its tank: the stretch from its start; with no event open one opens,
with one open whose interval is not counted it is counted now; an open cycle with no spill reference takes the event's
opening number (R34, R36, R121, R126, R129, R134). -/
def spillEntered (s t : State) (o : Fin 8) (start : Nat) : Prop :=
  ∃ w count, (t.outfall o) =
      { s.outfall o with switch := (t.outfall o).switch, phase := .spilling start, event := some w, count := count }
    ∧ t.tank o = weighed s.rain.catchment { s.tank o with
        spilling := true, openCycle := (s.tank o).openCycle.map (fun c => { c with spillRef := some (c.spillRef.getD w.opening) }) }
    ∧ match (s.outfall o).event with
      | none => eventOpened s o start w ∧ count = min ((s.outfall o).count + 1) 65535
      | some v =>
        (v.counted = true → w = v ∧ count = (s.outfall o).count)
        ∧ (v.counted = false → w = { v with counted := true, count := min (v.count + 1) 65535 }
            ∧ count = min ((s.outfall o).count + 1) 65535)

/-- What an edge of its switch makes of an outfall: a level it has already changes nothing; QUIET becomes PENDING, or SPILLING
at once with T_on 0; PENDING becomes QUIET; SPILLING ends its stretch, whose seconds the totals and the event take, and is
TRAILING, or QUIET with T_off 0; TRAILING becomes SPILLING (R17, R120 to R123, R133, R134). -/
def switched (s t : State) (o : Fin 8) (active : Bool) : Prop :=
  ((s.outfall o).switch = active → t = s)
    ∧ ((s.outfall o).switch ≠ active →
        (t.outfall o).switch = active ∧ (∀ k, k ≠ o → t.outfall k = s.outfall k ∧ t.tank k = s.tank k)
        ∧ t.spill = { s.spill with outfalls := t.spill.outfalls } ∧ onlyChanges [.spill, .tanks, .store, .notices, .trigger] s t
        ∧ match (s.outfall o).phase, active with
          | .quiet, true =>
            (s.spill.set.tOn = 0 → spillEntered s t o s.partTime ∧ (t.port .record).notices &&& noticeWord .spill ≠ 0#16)
            ∧ (s.spill.set.tOn ≠ 0 → t = s.modOutfall o (fun w => { w with switch := true, phase := .pending s.partTime }))
          | .pending _, false => t = s.modOutfall o (fun w => { w with switch := false, phase := .quiet })
          | .spilling stretch, false =>
            t.outfall o = { s.outfall o with
              switch := false, phase := if s.spill.set.tOff = 0 then .quiet else .trailing s.partTime
              seconds := min ((s.outfall o).seconds + (s.partTime - stretch)) 4294967295
              event := (s.outfall o).event.map (fun v =>
                { v with seconds := min (v.seconds + (s.partTime - stretch)) 4294967295 }) }
            ∧ t.tank o = weighed s.rain.catchment { s.tank o with spilling := false }
          | .trailing _, true => spillEntered s t o s.partTime
          | _, _ => t = s.modOutfall o (fun w => { w with switch := active }))

/-- The phase of a tank after a valid sample (R28, R29); OFFLINE is left by no sample. -/
def nextPhase (v : TankSettings) (old : Phase) (fill : Nat) : Phase :=
  match old with
  | .offline => .offline
  | .unknown => if fill ≤ v.e then .dry else if fill < v.fFull then .wet else .full
  | .dry => if v.e + v.h < fill then (if v.fFull ≤ fill then .full else .wet) else .dry
  | .wet => if fill ≤ v.e then .dry else if v.fFull ≤ fill then .full else .wet
  | .full => if fill < v.fFull - v.h then (if fill ≤ v.e then .dry else .wet) else .full

/-- The raw band after a valid sample: set directly out of UNKNOWN; otherwise it rises at 400 and 750 per-mille and falls
below 375 and 725 (R33). -/
def nextBand (old : Phase) (band fill : Nat) : Nat :=
  if old = .unknown then (if fill < 400 then 1 else if fill < 750 then 2 else 3)
  else if 750 ≤ fill ∨ 3 ≤ band ∧ 725 ≤ fill then 3
  else if 400 ≤ fill ∨ 2 ≤ band ∧ 375 ≤ fill then 2
  else 1

/-- A cycle that opens at a sample: out of UNKNOWN with LATE_START (R35, R39). -/
def cycleOpened (k : Tank) (fill now : Nat) : Cycle :=
  { number := k.counter + 1#16, start := now, lateStart := decide (k.phase = .unknown), peakFill := fill, peakTime := now,
    toFull := none, spillRef := none, mode := none, litres := 0, admission := none, returned := none, endTime := none,
    endReason := none }

/-- A cycle whose peak a sample above it moves (R36). -/
def cyclePeaked (c : Cycle) (fill now : Nat) : Cycle :=
  if c.peakFill < fill then { c with peakFill := fill, peakTime := now } else c

/-- A cycle with its seconds to FULL, which only the first FULL gives (R36). -/
def cycleFilled (c : Cycle) (now : Nat) : Cycle := { c with toFull := some (c.toFull.getD (now - c.start)) }

/-- A cycle that closes for a reason at a volume, with what it returned by its metering mode (R37, R38). -/
def cycleEnded (c : Cycle) (reason : EndReason) (volume now : Nat) : Cycle :=
  { c with
    endTime := some now, endReason := some reason
    returned := match c.mode with
      | none => none
      | some .metered => some (min 65535 (c.litres / 1000))
      | some .unmetered => some (c.admission.getD 0 - volume) }

/-- The last closed cycle once an open one, if any, has closed for a reason at the volume held (R38). -/
def lastClosed (k : Tank) (reason : EndReason) (now : Nat) : Option Cycle :=
  match k.openCycle with
  | some c => some (cycleEnded c reason ((k.held.map (fun h => h.volume)).getD 0) now)
  | none => k.lastCycle

/-- A tank after one evaluation from the values it holds, but for its drain fields: the phase, the raw band, band and weight,
and its capture cycle, which DRY out of another phase closes and WET or FULL out of DRY or UNKNOWN opens (R28 to R39). -/
def evaluatedTank (alert : AlertLevel) (k : Tank) (fill now : Nat) : Tank :=
  let p := nextPhase k.set k.phase fill
  let banded := weighed alert { k with phase := p, rawBand := nextBand k.phase k.rawBand fill }
  if k.phase = .offline then k
  else if p = k.phase then banded
  else if p = .dry then { banded with openCycle := none, lastCycle := lastClosed k .drained now }
  else
    let opens := k.phase = .dry ∨ k.phase = .unknown
    let c := if opens then some (k.openCycle.getD (cycleOpened k fill now)) else k.openCycle
    { banded with
      counter := if opens ∧ k.openCycle = none then k.counter + 1#16 else k.counter
      openCycle := if p = .full then c.map (fun x => cycleFilled x now) else c }

/-- A tank after a valid sample, but for its drain fields: it holds the values of the sample, which moves the peak of an open
cycle that lies below it, and is evaluated from them (R26, R28 to R39). -/
def sampledTank (alert : AlertLevel) (k : Tank) (h : Held) (clamped : Bool) (now : Nat) : Tank :=
  evaluatedTank alert
    { k with held := some h, clamped := clamped, openCycle := k.openCycle.map (fun c => cyclePeaked c h.fill now) } h.fill now

/-- A tank that leaves the drain list: OUT with its reason and no request, its grant 0 at once, with what was published of it
as it was (R83, R84, R96, R97). -/
def outOfList (k : Tank) (reason : DrainReason) : Tank :=
  { k with drain := { status := .out, reason := some reason, request := none }, grant := { k.grant with granted := 0 } }

/-- A tank with the settings of a TANK_SET, before they take effect: the m of a listed tank at most the new m_limit, and its n
at most that m where m was lowered (R23, R81). -/
def tankSettled (k : Tank) (v : TankSettings) : Tank :=
  { k with
    set := v
    drain := { k.drain with request := k.drain.request.map (fun r =>
      if v.mLimit < r.m then { r with m := v.mLimit, n := min r.n v.mLimit } else r) } }

/-- A tank whose thresholds or shape table change is evaluated at once: it is DRY, WET or FULL and its level channel is not
STALE (R31). -/
def evaluatesNow (s : State) (t : Fin 8) : Prop :=
  ((s.tank t).phase = .dry ∨ (s.tank t).phase = .wet ∨ (s.tank t).phase = .full)
    ∧ ∀ c, (s.channel c).binder = .tank t .level → (s.channel c).status ≠ .stale

/-- No binder of a tank holds two channels (R2). -/
def ownChannels (s : State) (t : Fin 8) : Prop :=
  ∀ r c d, (s.channel c).binder = .tank t r → (s.channel d).binder = .tank t r → c = d

/-- What leaving FAULT at a release makes of a state: the CHANNEL record with cause UNBOUND, and the notice on RECORD and on the
binder's port, WORKS for the leg meter and the owner site for a tank (R5, R18). -/
def faultReleased (s t : State) (c : Fin 16) : Prop :=
  ((s.channel c).status ≠ .fault → t = s)
    ∧ ((s.channel c).status = .fault →
        t.store = (s.channelRecord c false .unbound).store ∧ (t.port .record).notices &&& noticeWord .channel ≠ 0#16
        ∧ (∀ k r p, (s.channel c).binder = .tank k r → portOwner p = (s.tank k).owner → portOwner p ≠ .nobody →
            (t.port p).notices &&& noticeWord .channel ≠ 0#16)
        ∧ ((s.channel c).binder = .legMeter → (t.port .works).notices &&& noticeWord .channel ≠ 0#16)
        ∧ onlyChanges [.channels, .store, .notices] s t)

/-- What being told that it holds no channel any more makes of a binder's block: the tank of a level role goes OFFLINE, the
check of a draw role and of the leg meter is cleared, a gauge is UNBOUND with empty rings, which is evaluated; an outfall
stands (R5, R27, R42, R114, R116, R125). -/
def toldReleased (s t : State) : Binder → Prop
  | .none => t = s
  | .tank k .level => t = s.modTank k (fun q => { q with phase := .offline })
  | .tank k .draw => t = s.modTank k (fun q => { q with grant := { q.grant with overdraw := false, overCount := 0 } })
  | .tank _ .spill => t = s
  | .gauge g =>
    ((s.gauge g).avail = .unbound → t = s)
      ∧ ((s.gauge g).avail ≠ .unbound →
          evaluated (s.modGauge g (fun q =>
            { q with avail := .unbound, five := List.replicate 12 0, hourly := List.replicate 24 0 })) t)
  | .legMeter => t = { s with leg := { excess := false, count := 0 } }

/-- What being told of a new channel makes of a binder's block: an enabled tank that was OFFLINE for want of it is UNKNOWN, the
check of a draw role and of the leg meter starts cleared, a gauge is AVAILABLE, which is evaluated; an outfall stands (R2, R24,
R27, R42, R114, R116, R125). -/
def toldBound (s t : State) : Binder → Prop
  | .none => t = s
  | .tank k .level => t = s.modTank k (fun q =>
      { q with phase := if q.set.enabled = true ∧ q.phase = .offline then .unknown else q.phase })
  | .tank k .draw => t = s.modTank k (fun q => { q with grant := { q.grant with overdraw := false, overCount := 0 } })
  | .tank _ .spill => t = s
  | .gauge g =>
    ((s.gauge g).avail = .available → t = s)
      ∧ ((s.gauge g).avail ≠ .available → evaluated (s.modGauge g (fun q => { q with avail := .available })) t)
  | .legMeter => t = { s with leg := { excess := false, count := 0 } }

/-- What the release of a channel makes of a state, the channel itself aside: an ACTIVE spill switch delivers its inactive edge
first, a FAULT is left, the binder's block is told, and an outfall that this leaves not enabled is no longer owed (R5, R125,
R149). -/
def blockReleased (s t : State) (c : Fin 16) : Prop :=
  ∃ edge left told : State,
    ((∀ k, (s.channel c).binder ≠ .tank k .spill) ∨ (s.channel c).active = false → edge = s)
    ∧ (∀ k, (s.channel c).binder = .tank k .spill → (s.channel c).active = true → switched s edge k false)
    ∧ faultReleased edge left c ∧ toldReleased left told (s.channel c).binder ∧ onlyChanges [.channels, .store] told t
    ∧ t.store = { told.store with owed := t.store.owed }
    ∧ ∀ o, o ∈ t.store.owed ↔ o ∈ told.store.owed ∧ t.outfallEnabled o = true

/-- The remaining of an entry now: that of the active entry counts down in RUNNING (R64). -/
def remainingAt (s : State) (e : Fin 8) : Option Nat :=
  if s.allow.sched = .running ∧ s.allow.active = some e then
    (s.entry e).remaining.map (fun r => r - (s.partTime - s.allow.runSince))
  else (s.entry e).remaining

/-- The 32 bytes of a record (R142, 11.4): its number, civil time with its flag if set and part time otherwise, kind, subject
and the fields of its kind, 0 beyond them. -/
def recordOf (s : State) (sequence kind subject : Nat) (body : List Byte) : List Byte :=
  beBytes 4 sequence
    ++ beBytes 4 (min (match s.civilTime with | some x => x | none => s.partTime) 4294967295)
    ++ [BitVec.ofNat 8 (kind + (if s.civil.isSome then 128 else 0)), BitVec.ofNat 8 subject]
    ++ (body ++ List.replicate (22 - body.length) 0#8).take 22

/-- Bytes 17 to 26 of a counting record other than SPILL_OPEN, by its number and the event it carries (R138, R195, 11.4). -/
def eventFields (sequence : Nat) (event : Option SpillEvent) : List Byte :=
  match event with
  | none => [255#8, 255#8, 255#8, 0#8, 0#8, 0#8, 0#8, 0#8, 0#8, 0#8]
  | some v =>
    beBytes 3 (min (sequence - v.opening) 16777215) ++ beBytes 2 (min v.count 65535) ++ beBytes 3 (min v.seconds 16777215)
      ++ beBytes 2 (min v.interval 65535)

/-- The blocks that start-up leaves at rest until RUNNING (R191): civil time unset; every cycle counter 0 with no cycle open;
every tank settled at grant 0, the list empty, the global serial 0, the leg check clear; every bin 0, every level CLEAR, the
clear timer STOPPED; every outfall QUIET with no event open. -/
def atRest (s : State) : Prop :=
  s.civil = none ∧ s.drainList = [] ∧ s.globalSerial = 0#16 ∧ s.leg = { excess := false, count := 0 }
    ∧ s.rain.catchment = .clear ∧ s.rain.timer = none
    ∧ (∀ g, (s.gauge g).five = List.replicate 12 0 ∧ (s.gauge g).hourly = List.replicate 24 0 ∧ (s.gauge g).level = .clear)
    ∧ (∀ k, (s.tank k).counter = 0#16 ∧ (s.tank k).openCycle = none ∧ (s.tank k).grant.granted = 0
        ∧ (s.tank k).grant.published = 0 ∧ (s.tank k).grant.confirmed = 0 ∧ (s.tank k).grant.unsettled = false ∧ (s.tank k).grant.deadline = none
        ∧ (s.tank k).grant.overdueSince = none)
    ∧ ∀ o, (s.outfall o).phase = .quiet ∧ (s.outfall o).event = none

/-- Every entry value of the rain watch lies above 0, as R47 leaves it. -/
def entriesAboveZero (r : Rain) : Prop := ∀ v, v = r.watch ∨ v = r.warn ∨ v = r.storm → 0 < v.entryI ∧ 0 < v.entryD

/-- The number of good blocks (R145). -/
def goodBlocks (s : State) : Nat := ((List.finRange 64).filter (fun b => decide (s.blockStatus b ≠ .retired))).length

/-- Bytes 10 to 16 of a counting record: period number, count and seconds after, each held at its limit (R195, 11.4). -/
def totalsFields (period count seconds : Nat) : List Byte :=
  beBytes 2 (min period 65535) ++ beBytes 2 (min count 65535) ++ beBytes 3 (min seconds 16777215)

/-- The binder byte of a CHANNEL record: its type in bits 7 to 4 and its index in bits 3 to 0 (11.4). -/
def binderByte : Binder → Nat
  | .none => 0
  | .tank t .level => 16 + t.val
  | .tank t .draw => 32 + t.val
  | .tank t .spill => 48 + t.val
  | .gauge g => 64 + g.val
  | .legMeter => 80

/-- A record is the last held, and every other held stands as before (R142, R143). -/
def joined (s t : State) (r : List Byte) : Prop := t.heldRecords = s.heldRecords ++ [r]

/-- The records of an outfall's event, each carrying the totals after it (R126, R129, R131, R138, R195, 11.4): SPILL_OPEN with
the event it opens, SPILL_BLOCK with the block it counts, SPILL_CLOSE with the rain since the opening. -/
def spillRecords (s : State) (o : Fin 8) : Prop :=
  let n := s.store.nextSeq
  let period := s.spill.periodNumber
  let counted := min ((s.outfall o).count + 1) 65535
  (∀ start : Nat, ∃ w, ((s.openEvent o start).outfall o).event = some w ∧ eventOpened s o start w
    ∧ joined s (s.openEvent o start) (recordOf s n 3 (o.val + 8 * bit w.early + 16 * bit w.dry + 32 * bit w.unknownRain)
        (totalsFields period counted (s.outfall o).seconds ++ beBytes 2 (min (s.partTime - start) 65535)
          ++ [BitVec.ofNat 8 s.spill.set.w1, BitVec.ofNat 8 (phaseCode (s.tank o).phase + 16 * alertCode s.rain.catchment)]
          ++ beBytes 2 (match (s.tank o).held with | some h => min h.fill 65535 | none => 65535)
          ++ [BitVec.ofNat 8 (match s.spill.set.dryGauge with | some g => g.val | none => 255)]
          ++ beBytes 2 (match s.spill.set.dryGauge with
              | some g => min ((s.gauge g).hourly.sum * (s.gauge g).tipDepth) 65535
              | none => 0))))
    ∧ ∀ v, (s.outfall o).event = some v →
      (∀ atStart : Bool, joined s (s.countInterval o atStart) (recordOf s n 4 (o.val + 8 * bit atStart)
        (totalsFields period counted (s.outfall o).seconds ++ eventFields n (some { v with count := min (v.count + 1) 65535 })
          ++ beBytes 3 (min (s.partTime - v.blockStart) 16777214) ++ [BitVec.ofNat 8 v.blockHours])))
      ∧ joined s (s.closeEvent o v) (recordOf s n 5
        (o.val + 16 * bit v.early + 32 * bit v.dry + 64 * bit v.unknownRain
          + 128 * bit (v.gauge.any (fun g => decide ((s.gauge g).avail ≠ .available))))
        (totalsFields period (s.outfall o).count (s.outfall o).seconds ++ eventFields n (some v)
          ++ beBytes 3 (min (s.partTime - v.start) 16777214)
          ++ beBytes 2 (match v.gauge with
              | some g => min (((s.gauge g).totalTips - v.tips.getD 0#32).toNat * (s.gauge g).tipDepth) 65534
              | none => 65535)))

/-- The SPILL_CLOSE with reason INTERRUPTED that a scan queues for an outfall by its newest counting record (R139, R164, R195,
11.4; log entries 29 and 46). An event whose opening offset is at its limit, or whose SPILL_OPEN is no longer stored, is closed
with its start time and flags absent; otherwise the start is the SPILL_OPEN's time less its start offset, counted below 0 where
need be, and the close tells how long before its own time it lies. -/
def interruptedRecord (s : State) (stored : List (List Byte × Fin 64)) (o : Fin 8) (newest : List Byte) : Prop :=
  let n := s.store.nextSeq
  let offset := if recordKind newest = 3 then 0 else fieldAt newest 17 3
  let opened := stored.find? (fun q => decide (recordKind q.1 = 3) && decide (recordOutfall q.1 = o)
    && decide (recordSequence q.1 + offset = recordSequence newest))
  let totals := (newest.drop 10).take 7
  let figures := if recordKind newest = 3 then [0#8, 1#8, 0#8, 0#8, 0#8, 0#8, 1#8] else (newest.drop 20).take 7
  let opening := beBytes 3 (if offset = 16777215 then 16777215 else min (n - (recordSequence newest - offset)) 16777215)
  let now : Int := match s.civilTime with | some x => x | none => s.partTime
  let t := s.interruptedClose stored o newest
  (offset = 16777215 ∨ opened = none →
      joined s t (recordOf s n 5 (o.val + 8) (totals ++ opening ++ figures ++ beBytes 3 16777215 ++ beBytes 2 65535)))
    ∧ ∀ q, offset ≠ 16777215 → opened = some q →
        let start : Int := (fieldAt q.1 4 4 : Int) - (fieldAt q.1 17 2 : Int)
        start ≤ now →
        joined s t (recordOf s n 5 (o.val + 8 + 16 * (byteAt q.1 9 / 8 % 8))
          (totals ++ opening ++ figures ++ beBytes 3 (min (now - start).toNat 16777214) ++ beBytes 2 65535))

/-- A page was written before another: its block begins at a lower number, of equal ones the block is the lower one, and of a
block the page is (R145, R163; log entry 24). -/
def writtenBefore (s : State) (x y : PageRef) : Prop :=
  let first := fun b => (firstSpare (s.array.get b)).getD 0
  first x.block < first y.block
    ∨ first x.block = first y.block ∧ (x.block < y.block ∨ x.block = y.block ∧ x.page < y.page)

/-- A list holds the programmed pages, each once, in write order (R145, R163). -/
def inWriteOrder (s : State) (l : List (PageRef × PageEntry)) : Prop :=
  (∀ r e, (r, e) ∈ l ↔ s.tableEntry r = some e) ∧ l.Pairwise (fun x y => writtenBefore s x.1 y.1)

/-- No page of a block covers a number above the archive mark. A page covers the numbers from its first to just before the
first of the next page in write order, and the newest page those to just before the first record held, or the next number
(R145, R148). -/
def belowMark (s : State) (b : Fin 64) : Prop :=
  ∃ l, inWriteOrder s l ∧ ∀ k r e, l[k]? = some (r, e) → r.block = b →
    (match l[k + 1]? with
      | some q => q.2.first
      | none => (s.heldRecords.head?.map recordSequence).getD s.store.nextSeq) ≤ s.store.archiveMark + 1

/-- What the reclaim check makes of a state. An ahead block whose numbers all lie at or below the archive mark is prepared for
its erase: its pending outfalls are the enabled ones whose newest programmed counting record lies in it, and TOTALS are asked
for each in index order. An ahead block that is ERASED or prepared already (log entry 27), one whose erase is in progress, and
any in WORN stands (R148, R149, R157). -/
def reclaimChecked (s t : State) : Prop :=
  let reclaims := fun b => s.ahead = some b ∧ s.store.state ≠ .worn ∧ s.blockStatus b ≠ .erased ∧ s.store.prep = none
    ∧ (∀ x, s.store.op ≠ some (.erase x)) ∧ belowMark s b
  (∀ b, reclaims b →
      ∃ os : List (Fin 8),
        (∀ o, o ∈ os ↔ s.outfallEnabled o = true ∧ ∃ n, s.store.notes.get o = some n ∧ n.block = b) ∧ os.Pairwise (· < ·)
        ∧ t = os.foldl (fun q o => q.reclaimTotals o) (s.modStore (fun v => { v with prep := some os })))
    ∧ ((∀ b, ¬ reclaims b) → t = s)

/-- Bytes 0 to 7 and 1,022 to 1,023 of an image: marker, version 1 and length, and the CRC over the bytes before it (R190,
11.5). -/
def imageSound (bs : List Byte) : Prop :=
  fieldAt bs 0 2 = 0x4A3E ∧ byteAt bs 2 = 1 ∧ fieldAt bs 4 2 = 1024 ∧ fieldAt bs 1022 2 = (crc16 (bs.take 1022)).toNat

/-- The binding that an image holds at an offset, with the parameters its kind uses at their nearest bounds (R190, 11.5). -/
def bindingAt (bs : List Byte) (i : Nat) (kind : Kind) (q : Option Binding) : Prop :=
  (byteAt bs i = 255 ∧ q = none)
    ∨ ∃ c : Fin 16, byteAt bs i = c.val ∧ q = some {
        channel := c
        params := {
          activeLow := byteAt bs (i + 1) % 2 = 1, debounce := max 1 (min 50 (byteAt bs (i + 2)))
          lockout := if kind = .rain then min 2000 (fieldAt bs (i + 3) 2) else 0
          gate := if kind = .flow then max 1 (min 60 (byteAt bs (i + 3))) else 0
          tenths := if kind = .flow then max 1 (min 10000 (fieldAt bs (i + 4) 2)) else 0 } }

/-- The section that an image holds of a claimed tank, in its slot at an offset: a shape table in order, each number at its
nearest bound, and its bindings (R25, R190, 11.5; owner byte and reserved bits: log entry 21). -/
def tankAt (bs : List Byte) (i : Nat) (k : TankSection) : Prop :=
  let count := byteAt bs (i + 16)
  (byteAt bs i = 1 ∧ k.owner = .siteA ∨ byteAt bs i = 2 ∧ k.owner = .siteB)
    ∧ k.set = {
        enabled := byteAt bs (i + 1) % 2 = 1, preEmpt := byteAt bs (i + 1) / 2 % 2 = 1
        stormSuspend := byteAt bs (i + 1) / 4 % 2 = 1, cls := max 1 (min 4 (byteAt bs (i + 2)))
        mLimit := min 1000 (fieldAt bs (i + 3) 2), e := min 200 (byteAt bs (i + 5))
        fFull := max 700 (min 1000 (fieldAt bs (i + 6) 2)), h := max 5 (min 100 (byteAt bs (i + 8)))
        tol := min 200 (byteAt bs (i + 9)), dLo := max 50 (min 450 (fieldAt bs (i + 10) 2))
        dHi := max 550 (min 950 (fieldAt bs (i + 12) 2)), span := max 500 (min 20000 (fieldAt bs (i + 14) 2))
        shape := (List.range count).map (fun n =>
          { level := fieldAt bs (i + 17 + 4 * n) 2, volume := fieldAt bs (i + 19 + 4 * n) 2 }) }
    ∧ 2 ≤ count ∧ count ≤ 8 ∧ (∀ q ∈ k.set.shape, q.level ≤ 20000)
    ∧ (∀ n a b, k.set.shape[n]? = some a → k.set.shape[n + 1]? = some b → a.level < b.level ∧ a.volume ≤ b.volume)
    ∧ bindingAt bs (i + 49) .level k.level ∧ bindingAt bs (i + 55) .flow k.draw ∧ bindingAt bs (i + 61) .spill k.spill

/-- The thresholds that an image holds of a level, each at its nearest bound (R47, R190, 11.5). -/
def thresholdAt (bs : List Byte) (i : Nat) : Threshold :=
  { entryI := min 10000 (fieldAt bs i 2), entryD := min 10000 (fieldAt bs (i + 2) 2), exitI := min 10000 (fieldAt bs (i + 4) 2),
    exitD := min 10000 (fieldAt bs (i + 6) 2) }

/-- Every exit value lies below its entry value, and the entry values do not fall from WATCH to WARN to STORM (R47). -/
def thresholdsFit (v : GaugeSettings) : Prop :=
  (∀ x, x = v.watch ∨ x = v.warn ∨ x = v.storm → x.exitI < x.entryI ∧ x.exitD < x.entryD)
    ∧ v.watch.entryI ≤ v.warn.entryI ∧ v.warn.entryI ≤ v.storm.entryI
    ∧ v.watch.entryD ≤ v.warn.entryD ∧ v.warn.entryD ≤ v.storm.entryD

/-- The settings that an image of 1,024 bytes holds, section by section: each number at its nearest bound, a tank without an
owner at its defaults, and nothing that its order would refuse as a structural error (R184, R190, 11.5). -/
def imageHolds (bs : List Byte) (w : Settings) : Prop :=
  imageSound bs
    ∧ (let cLeg := min 4000 (fieldAt bs 8 2)
       w.works = {
         cLeg := cLeg, fallback := min cLeg (fieldAt bs 10 2), tLease := max 1 (min 60 (byteAt bs 12))
         tConfirm := max 10 (min 600 (fieldAt bs 13 2)), legTol := min 500 (fieldAt bs 15 2) })
    ∧ bindingAt bs 17 .flow w.legMeter
    ∧ (∀ k : Fin 8, if byteAt bs (32 + 80 * k.val) = 0 then w.tanks.get k = unclaimedSection
        else tankAt bs (32 + 80 * k.val) (w.tanks.get k))
    ∧ (∃ dry : Option (Fin 4), (byteAt bs 681 = 255 ∧ dry = none ∨ ∃ g, dry = some g ∧ byteAt bs 681 = g.val)
        ∧ w.spill = {
            w1 := max 1 (min 48 (byteAt bs 672)), w2 := max 1 (min 48 (byteAt bs 673)), tOn := min 600 (fieldAt bs 674 2)
            tOff := min 3600 (fieldAt bs 676 2), p := max 500 (min 1000 (fieldAt bs 678 2)), dDry := min 250 (byteAt bs 680)
            dryGauge := dry })
    ∧ (∀ g : Fin 4, w.gauges.tips.get g = max 1 (min 10 (byteAt bs (682 + g.val)))
        ∧ bindingAt bs (711 + 5 * g.val) .rain (w.rain.get g))
    ∧ w.gauges.watch = thresholdAt bs 686 ∧ w.gauges.warn = thresholdAt bs 694 ∧ w.gauges.storm = thresholdAt bs 702
    ∧ w.gauges.tClear = max 5 (min 120 (byteAt bs 710)) ∧ thresholdsFit w.gauges
    ∧ byteAt bs 768 = w.retired.blocks.length ∧ w.retired.blocks.length ≤ 16 ∧ w.retired.blocks.Nodup
    ∧ byteAt bs 769 = bit w.retired.worn ∧ ∀ i b, w.retired.blocks[i]? = some b → byteAt bs (770 + i) = b.val

/-- The settings of a tank lie within their ranges, with a shape table in order (R19, R25). -/
def tankFits (v : TankSettings) : Prop :=
  1 ≤ v.cls ∧ v.cls ≤ 4 ∧ v.mLimit ≤ 1000 ∧ v.e ≤ 200 ∧ 700 ≤ v.fFull ∧ v.fFull ≤ 1000 ∧ 5 ≤ v.h ∧ v.h ≤ 100 ∧ v.tol ≤ 200
    ∧ 50 ≤ v.dLo ∧ v.dLo ≤ 450 ∧ 550 ≤ v.dHi ∧ v.dHi ≤ 950 ∧ 500 ≤ v.span ∧ v.span ≤ 20000
    ∧ 2 ≤ v.shape.length ∧ v.shape.length ≤ 8 ∧ (∀ q ∈ v.shape, q.level ≤ 20000 ∧ q.volume ≤ 65535)
    ∧ ∀ n a b, v.shape[n]? = some a → v.shape[n + 1]? = some b → a.level < b.level ∧ a.volume ≤ b.volume

/-- Working settings as the orders leave them: every value within its range, an unclaimed tank at its defaults, and of each
binding the parameters its kind uses, the others 0 (R2, R20, R47, R76, R137, R184). -/
def settingsFit (w : Settings) : Prop :=
  w.works.cLeg ≤ 4000 ∧ w.works.fallback ≤ w.works.cLeg ∧ 1 ≤ w.works.tLease ∧ w.works.tLease ≤ 60 ∧ 10 ≤ w.works.tConfirm
    ∧ w.works.tConfirm ≤ 600 ∧ w.works.legTol ≤ 500
    ∧ (∀ b q, settingsBinding w b = some q → paramsFit (binderKind b) q.params
        ∧ (binderKind b ≠ .rain → q.params.lockout = 0)
        ∧ (binderKind b ≠ .flow → q.params.gate = 0 ∧ q.params.tenths = 0))
    ∧ (∀ k, ((w.tanks.get k).owner = .nobody → w.tanks.get k = unclaimedSection) ∧ tankFits (w.tanks.get k).set)
    ∧ 1 ≤ w.spill.w1 ∧ w.spill.w1 ≤ 48 ∧ 1 ≤ w.spill.w2 ∧ w.spill.w2 ≤ 48 ∧ w.spill.tOn ≤ 600 ∧ w.spill.tOff ≤ 3600
    ∧ 500 ≤ w.spill.p ∧ w.spill.p ≤ 1000 ∧ w.spill.dDry ≤ 250
    ∧ (∀ g, 1 ≤ w.gauges.tips.get g ∧ w.gauges.tips.get g ≤ 10)
    ∧ (∀ x, x = w.gauges.watch ∨ x = w.gauges.warn ∨ x = w.gauges.storm → x.entryI ≤ 10000 ∧ x.entryD ≤ 10000)
    ∧ 5 ≤ w.gauges.tClear ∧ w.gauges.tClear ≤ 120 ∧ thresholdsFit w.gauges
    ∧ w.retired.blocks.length ≤ 16 ∧ w.retired.blocks.Nodup

/-- The grants of a pass that pours a rate over the claims still unsettled, in list order. A claim whose tentative share
reaches its m takes its m, and what is left is poured over the others; where no share reaches its m, each takes its share, and
the leftover goes one litre each to the first of them (R91, R92). -/
inductive Poured : Nat → List Claim → (Fin 8 → Nat) → Prop
  | settled (rest : Nat) (g : Fin 8 → Nat) : Poured rest [] g
  | shares (rest : Nat) (l : List Claim) (g : Fin 8 → Nat) :
      (∀ c ∈ l, rest * c.weight / (l.map (fun x => x.weight)).sum < c.m) →
      (∀ i (h : i < l.length), g l[i].tank = rest * l[i].weight / (l.map (fun x => x.weight)).sum
        + (if i < rest - (l.map (fun c => rest * c.weight / (l.map (fun x => x.weight)).sum)).sum then 1 else 0)) →
      Poured rest l g
  | filled (rest : Nat) (l full : List Claim) (g : Fin 8 → Nat) :
      full = l.filter (fun c => decide (c.m ≤ rest * c.weight / (l.map (fun x => x.weight)).sum)) → full ≠ [] →
      (∀ c ∈ full, g c.tank = c.m) →
      Poured (rest - (full.map (fun c => c.m)).sum)
        (l.filter (fun c => decide (rest * c.weight / (l.map (fun x => x.weight)).sum < c.m))) g →
      Poured rest l g

/-- The grants of the whole computation over the claims of a pass, with the claims of its last pass. A pass that leaves no
claim below its n is the last; otherwise the one of lowest weight among those below it is removed, the latest in the list of
equal ones, and the rate is poured anew over the others (R90, R93). -/
inductive SharedOut (rate : Nat) : List Claim → List Claim → (Fin 8 → Nat) → Prop
  | last (l : List Claim) (g : Fin 8 → Nat) : Poured rate l g → (∀ c ∈ l, c.n ≤ g c.tank) → SharedOut rate l l g
  | removal (before after last : List Claim) (d : Claim) (pass g : Fin 8 → Nat) :
      Poured rate (before ++ d :: after) pass → pass d.tank < d.n →
      (∀ c ∈ before, pass c.tank < c.n → d.weight ≤ c.weight) → (∀ c ∈ after, pass c.tank < c.n → d.weight < c.weight) →
      SharedOut rate (before ++ after) last g → SharedOut rate (before ++ d :: after) last g

/-- The EEPROM's bytes are listed in their canonical form. -/
def eepromCanonical (s : State) : Prop := Memory.wf s.eeprom = true

/-- The base of A_eff by the schedule state and the hold (R75). -/
def allowanceBase (s : State) : Nat :=
  if s.allow.hold.isSome then 0
  else match s.allow.sched, s.allow.active with
    | .running, some e => (s.entry e).rate
    | .stalled, some e => (s.entry e).rate
    | _, _ => s.works.fallback

/-- In RUNNING, A_eff is what R75 forms; a schedule that is not IDLE has an active entry, which PART holds, and
IDLE has none (R64); no entry links to itself (R60). -/
def allowanceFormed (s : State) : Prop :=
  s.stage = .running →
    s.allow.aEff = min (allowanceBase s) s.works.cLeg
      ∧ (s.allow.sched = .idle ↔ s.allow.active = none)
      ∧ (∀ e, s.allow.active = some e → (s.entry e).byPart = true)
      ∧ ∀ e, (s.entry e).link ≠ some e

end Sys2Proof.Machine
end

