-- ==== Sys2Proof/Certificates/Slice0/Obligations.lean ====
section
/-! DEFINITION. The statements for the provers, one definition each; OBLIGATIONS.json lists them with the rules of
the spec they rest on. An order's statement speaks of an order at its place that has passed the port's checks
(Admitted), and its conclusion is the whole next state: the rule's effect on the state during the bundle, its
result code and its data, placed by placeAnswer, which AnswersArePlaced describes. -/

open Sys2Proof Sys2Proof.Machine

/-! ### The machine -/

/-- A step runs the command at the front of the queue on the queue's rest. -/
def Obligations.StepRunsFrontCommand : Prop :=
  ∀ (c : Instr) (s : State), step { s with pending := c :: s.pending } = exec c s

/-- On an empty queue a due step of the part is taken, any of those due; with none due one microsecond passes,
except while RESET is held or a bundle is open (the model's choice: log entries 1, 2 and 4). -/
def Obligations.EmptyQueueStep : Prop :=
  ∀ s : State, s.pending = [] →
    (s.ready = [] → step s = .next (if s.stage = .held ∨ s.bundle.isSome then s else { s with clock := s.clock + 1 }))
      ∧ (s.ready ≠ [] → ∃ c n, c ∈ s.ready ∧ n ≤ 1 ∧ step s = exec c { s with freeIndex := s.freeIndex + n })

/-- Every command leaves the queue of waiting commands as it is. -/
def Obligations.QueueUntouched : Prop :=
  ∀ (i : Instr) (s t : State), exec i s = .next t → t.pending = s.pending

/-- Every step keeps the canonical form in which the EEPROM's bytes are listed (log entry 7). -/
def Obligations.EepromCanonicalKept : Prop :=
  ∀ s t : State, eepromCanonical s → step s = .next t → eepromCanonical t

/-- Every step keeps A_eff as R75 forms it, 0 in a hold and never above C_leg, and the active entry held by PART
(R64). -/
def Obligations.AllowanceFormedKept : Prop :=
  ∀ s t : State, allowanceFormed s → step s = .next t → allowanceFormed t

/-- Both invariants hold at reset. -/
def Obligations.InvariantsAtReset : Prop := eepromCanonical State.reset ∧ allowanceFormed State.reset

/-- Splitting the bytes of an order gives the order back, with every operand at every value (11.1, 11.2). -/
def Obligations.OrderBytesRoundTrip : Prop :=
  ∀ (i : Instr) (h : Head) (rest : List Byte), wellFormed i = true → orderHead i = some h →
    decodeOrder h.port h.index h.count (encodeOrder i ++ rest) = some (i, rest)

/-! ### Start-up and transfers -/

/-- START_UP and RESET_ASSERT put every block at its state after start-up; the EEPROM, the lines and the waiting
commands stand, and so does the array but for the pages of an operation cut short: a page in program or the target of a
copy fails its data check or its spare check, and an erase leaves its block unreadable (R163, R189; log entries 6, 9, 10, 23, 43). -/
def Obligations.RestartClearsEveryBlock : Prop :=
  ∀ s : State,
    let u := s.tearOperation
    exec .startUp s = .next { State.reset with
      stage := .loading, freeIndex := u.freeIndex, lines := s.lines, eeprom := s.eeprom, array := u.array, pending := s.pending }
    ∧ exec .resetAssert s = .next { State.reset with
        stage := .held, freeIndex := u.freeIndex, lines := s.lines, eeprom := s.eeprom, array := u.array, pending := s.pending }
    ∧ (∀ b, (u.array.get b).factoryBad = (s.array.get b).factoryBad)
    ∧ match s.store.op with
      | some (.program r _) => pageSound (u.arrayPage r) = false ∧ ∀ q, q ≠ r → u.arrayPage q = s.arrayPage q
      | some (.copy p _ target) =>
        pageSound (u.arrayPage ⟨target, p⟩) = false ∧ ∀ q, q ≠ ⟨target, p⟩ → u.arrayPage q = s.arrayPage q
      | some (.erase b) => (∀ p, u.arrayPage ⟨b, p⟩ = .unreadable) ∧ ∀ q, q.block ≠ b → u.arrayPage q = s.arrayPage q
      | _ => u.array = s.array ∧ u.freeIndex = s.freeIndex

/-- LOADING ends with the working settings of a valid image in every block, or with the defaults: no tank owned, every
channel unbound, the default numbers, the changed flag and SETTINGS on all four ports. Either way the store stage begins,
SCANNING or FORMATTING by whether a page of a good block passes its spare check, and nothing else changes (log entry 43). An
image is valid, and gives the settings its bytes hold, with its marker, version, length and CRC and no structural error; that
reserved bits are ignored in it and an owner byte above 2 is such an error is the model's choice (log entry 21). The image
formed from settings within their ranges gives those settings (R7, R25, R47, R162, R184, R190). -/
def Obligations.ImageLoadSetsTheSettings : Prop :=
  (∀ bs w, parseImage bs = some w ↔ imageHolds bs w)
  ∧ (∀ bs, ¬ imageSound bs → parseImage bs = none)
  ∧ (∀ w, settingsFit w → (formImage w).length = 1024 ∧ imageHolds (formImage w) w ∧ parseImage (formImage w) = some w)
  ∧ ∀ (acknowledged : Bool) (s : State), s.stage = .loading →
    ∃ t, exec (.imageLoad acknowledged) s = .next t ∧ t.outer = ({ s with stage := .store } : State).outer
      ∧ t.array = s.array ∧ t.freeIndex = s.freeIndex ∧ t.spill = { s.spill with set := t.spill.set }
      ∧ t.rain = { s.rain with
          gauges := t.rain.gauges, watch := t.rain.watch, warn := t.rain.warn, storm := t.rain.storm, tClear := t.rain.tClear }
      ∧ onlyChanges [.outer, .notices, .channels, .tanks, .rain, .works, .spill, .store, .save, .media] s t
      ∧ t.store = { s.store with
          status := t.store.status
          state := if ∃ (b : Fin 64) (p : Fin 16), b ∉ t.retired.blocks ∧ sparePasses (s.arrayPage ⟨b, p⟩) = true then .scanning
            else .formatting }
      ∧ (∀ b, t.blockStatus b = if b ∈ t.retired.blocks then .retired else s.blockStatus b)
      ∧ match (if acknowledged then parseImage (Memory.readAll s.eeprom 0 1024) else none) with
        | some v => settingsIn v t ∧ t.save = { s.save with source := .image, changed := false } ∧ unchanged s t .notices
        | none =>
          t.save = { s.save with source := .defaults, changed := true } ∧ t.works = defaultWorks ∧ t.spill.set = defaultSpill
            ∧ t.retired = { blocks := [], worn := false }
            ∧ (∀ k, t.tank k = unclaimedTank) ∧ (∀ c, t.channel c = unboundChannel) ∧ (∀ g, t.gauge g = idleGauge)
            ∧ t.gaugeSettings = {
                tips := Vector.replicate 4 2, watch := { entryI := 40, entryD := 50, exitI := 20, exitD := 30 },
                warn := { entryI := 100, entryD := 150, exitI := 60, exitD := 100 },
                storm := { entryI := 250, entryD := 300, exitI := 150, exitD := 200 }, tClear := 30 }
            ∧ ∀ p, (t.port p).notices = (s.port p).notices ||| noticeWord .settings

/-- The store stage ends in RUNNING, whatever the format or the scan found: the schedule IDLE with no hold and A_eff at F
within C_leg; every bound channel started; an enabled tank with a level channel UNKNOWN, any other OFFLINE; every port IDLE
with no response pending and its mask as it was; the store READY, FULL or WORN, with every record held still held; the save
phase as it was, or a save begun for a request held during start-up. Where START_UP left the blocks at rest and the entry
values lie above 0, they are at rest (civil time, list, grants, leg check, cycles, rain watch, outfalls), and every notice
set is as it was but for STORE on RECORD. A format erases every block that stays good, and begins with the lowest of them. A
scan enters every good page whose spare check passes into the page table, VALID if its data check passes too, and restores
the archive mark, the period number and the totals from the records of the VALID pages, newest first; no number it hands out
lies at or below the highest found, to which an UNREADABLE page adds nothing (R7, R20, R47, R75, R139, R157, R162, R163, R164,
R188, R191; log entries 43 and 55). -/
def Obligations.StoreStageEndsInRunning : Prop :=
  ∀ (fails : List (Fin 64)) (s : State) (i : Instr), s.stage = .store →
    (i = .storeFormat fails ∧ s.store.state = .formatting ∨ i = .storeScan ∧ s.store.state = .scanning) →
    let asked := s.save.heldRequest = true
      ∨ ∃ b ∈ fails, i = .storeFormat fails ∧ s.blockStatus b ≠ .retired ∧ (s.array.get b).factoryBad = false
    ∃ t, exec i s = .next t ∧ t.stage = .running ∧ t.works = s.works ∧ t.eeprom = s.eeprom ∧ t.clock = s.clock
      ∧ t.civil = s.civil ∧ t.allow.sched = .idle ∧ t.allow.active = none ∧ t.allow.hold = none ∧ t.allow.lease = none
      ∧ t.allow.aEff = min s.works.fallback s.works.cLeg
      ∧ (∀ e, t.entry e = freshEntry)
      ∧ (∀ c, if (s.channel c).binder = .none then t.channel c = s.channel c
          else (t.channel c).binder = (s.channel c).binder ∧ (t.channel c).status = .ok ∧ (t.channel c).settled = false
            ∧ (t.channel c).active = false ∧ (t.channel c).since = some s.clock)
      ∧ (∀ k, (t.tank k).phase =
          (if (s.tank k).set.enabled = true ∧ (∃ c, (s.channel c).binder = .tank k .level) then .unknown else .offline)
          ∧ (t.tank k).set = (s.tank k).set ∧ (t.tank k).owner = (s.tank k).owner)
      ∧ (∀ p, (t.port p).transfer = .idle ∧ (t.port p).response = none ∧ (t.port p).received = []
          ∧ (t.port p).mask = (s.port p).mask)
      ∧ (entriesAboveZero s.rain → atRest s →
          atRest t ∧ (∀ p, p ≠ .record → (t.port p).notices = (s.port p).notices)
          ∧ ((t.port .record).notices = (s.port .record).notices
              ∨ (t.port .record).notices = (s.port .record).notices ||| noticeWord .store))
      ∧ (t.store.state = .ready ∨ t.store.state = .full ∨ t.store.state = .worn)
      ∧ (t.retired.worn = true ∨ goodBlocks t < 48 → t.store.state = .worn) ∧ s.heldRecords <+: t.heldRecords
      ∧ (¬ asked → t.save.run = s.save.run)
      ∧ (asked → t.save.changed = false ∧ t.save.run = some {
          page := 0, step := .sending, snapshot := formImage t.workingSettings, requesters := requester .record })
      ∧ t.save = { s.save with run := t.save.run, changed := t.save.changed, heldRequest := false }
      ∧ (i = .storeFormat fails →
          t.store.archiveMark = 0
          ∧ (∀ b p, t.blockStatus b ≠ .retired → t.arrayPage ⟨b, p⟩ = .erased)
          ∧ ∀ b, t.blockStatus b ≠ .retired → (∀ x, x < b → t.blockStatus x = .retired) →
              t.store.current = some b ∧ t.store.writePage = 0)
      ∧ (i = .storeScan →
          let u := s.scanTable.scanRing
          let found := u.backwardRecords
          let numbered := u.modStore (fun v => { v with nextSeq := u.scanNext })
          t.array = s.array ∧ t.store.table = u.store.table ∧ t.store.archiveMark = numbered.scanMark found
          ∧ u.scanNext < t.store.nextSeq + 1
          ∧ (∀ r records spare, s.isRetired r.block = false → s.arrayPage r = .programmed records spare →
              sparePasses (.programmed records spare) = true →
              t.tableEntry r = some { first := spare.first.toNat, count := spare.count.toNat,
                                      valid := pageSound (.programmed records spare) })
          ∧ t.spill.periodNumber = State.scanPeriod found
          ∧ ∀ o q, found.find? (fun x => isCounting x.1 && decide (recordOutfall x.1 = o)) = some q →
              fieldAt q.1 10 2 = t.spill.periodNumber →
              (t.outfall o).count = fieldAt q.1 12 2 ∧ (t.outfall o).seconds = fieldAt q.1 14 3)

/-- A transfer on an IDLE port. A first byte other than 0x00 begins a request: RECEIVING, the pending response discarded, at
most 64 bytes stored and the rest counted, 0x00 presented. A read presents 0x00, then the response, then 0x00; only a read
to the response's last byte takes it as read, and the send position returns to the first byte (R167, R168). -/
def Obligations.TransfersOfAPort : Prop :=
  ∀ (p : Port) (s : State), s.stage ≠ .held → s.bundle = none → (s.port p).transfer = .idle →
    (∀ bytes : List Byte, bytes.headD 0#8 ≠ 0#8 →
      exec (.requestStart p bytes) s = .next (s.modPort p (fun q =>
        { q with transfer := .receiving, received := bytes.take 64, excess := bytes.length - 64, response := none, sendPos := 0,
                 dataOut := List.replicate bytes.length 0#8 })))
    ∧ ∀ n : Nat, 1 ≤ n →
        exec (.responseRead p n) s = .next (s.modPort p (fun q =>
          { q with
            dataOut := (0#8 :: (q.response.getD [] ++ List.replicate n 0#8)).take n
            sendPos := 0
            response := match q.response with
              | none => none
              | some r => if r.length + 1 ≤ n then none else some r }))

/-- A malformed frame applies no order and is answered FRAME_ERROR (R169); in start-up any request frame is answered
NOT_READY, and an order whose frame a port holds is taken as that frame (R170; log entry 35). -/
def Obligations.FramesWithoutOrders : Prop :=
  ∀ (p : Port) (s : State), s.bundle = none →
    (s.stage = .running → (s.port p).transfer = .receiving → decodeFrame p (s.port p).received (s.port p).excess = none →
      exec (.frameError p) s = .next (s.modPort p (fun q =>
        { q with transfer := .idle, received := [], excess := 0, response := some [2#8, 1#8], sendPos := 0 })))
    ∧ (s.stage = .loading ∨ s.stage = .store →
        ((s.port p).transfer ≠ .sending →
          exec (.notReady p) s = .next (s.modPort p (fun q =>
            { q with transfer := .idle, received := [], excess := 0, response := some [2#8, 2#8], sendPos := 0 })))
        ∧ ∀ i h, assignedOrder i = true → orderHead i = some h → h.port = p → frameHolds s i h = true →
          exec i s = .next (s.modPort p (fun q =>
            { q with transfer := .idle, received := [], excess := 0, response := some [2#8, 2#8], sendPos := 0 })))

/-! ### The checks of an order -/

/-- Steps 1 to 5 of the checks: a reserved operand bit refuses an order with REFUSED_CODE, a port without it in its order
set with REFUSED_ROLE, an invalid guard with REFUSED_GUARD; a false guard answers SKIPPED; data larger than the space left
answers NO_ROOM, where the space left also excludes the order's own result code (the model's reading, log entry 18); nothing
changes (R171, R172, R173, R174, R176). -/
def Obligations.OrderChecks : Prop :=
  ∀ (i : Instr) (h : Head) (s : State) (b : Bundle), assignedOrder i = true → Stands i h s b →
    (orderReserved i = true → exec i s = answered (s.during b) .refusedCode [] b)
      ∧ (orderReserved i = false → h.port ∉ orderPorts i → exec i s = answered (s.during b) .refusedRole [] b)
      ∧ (orderReserved i = false → h.port ∈ orderPorts i →
        (guardValid h.guard = false → exec i s = answered (s.during b) .refusedGuard [] b)
          ∧ (guardValid h.guard = true → guardValue (s.during b) h.guard = false →
              exec i s = answered (s.during b) .skipped [] b)
          ∧ (guardValid h.guard = true → guardValue (s.during b) h.guard = true → spaceLeft (s.during b) h < orderRoom i →
              exec i s = answered (s.during b) .noRoom [] b))

/-- Which guards are valid, and when a guard is true: the eight conditions and the invert bit (R174). -/
def Obligations.GuardConditions : Prop :=
  ∀ (s : State) (g : Byte),
    let c := g.toNat / 32
    let o := g.toNat % 16
    let inverted := g.toNat / 16 % 2 = 1
    (guardValid g = true ↔ (c = 0 ∧ o = 0) ∨ (c = 1 ∧ o ≤ 3) ∨ ((c = 2 ∨ c = 3 ∨ c = 4) ∧ o ≤ 7) ∨ ((c = 5 ∨ c = 6) ∧ o = 0))
      ∧ (guardValid g = true →
          (guardValue s g = true ↔
            ((c = 0 ∨ (c = 1 ∧ o ≤ alertCode s.rain.catchment)
              ∨ (c = 2 ∧ ∃ t : Fin 8, t.val = o ∧ (s.tank t).phase = .full)
              ∨ (c = 3 ∧ ∃ t : Fin 8, t.val = o ∧ ∃ start, (s.outfall t).phase = .spilling start)
              ∨ (c = 4 ∧ ∃ t : Fin 8, t.val = o ∧ (s.tank t).drain.status = .draining)
              ∨ (c = 5 ∧ ∃ e, s.allow.hold = some e)
              ∨ (c = 6 ∧ s.allow.sched = .lapsed)) ↔ ¬ inverted)))

/-- The classes of the unassigned codes: 0xF0 to 0xFF are ignored, 0xE0 to 0xEF are decided by their guard, any other is
refused; nothing changes (R173). -/
def Obligations.UnassignedCodeClasses : Prop :=
  ∀ (h : Head) (code : Byte) (s : State) (b : Bundle), Stands (.unassignedCode h code) h s b → codeAssigned code.toNat = false →
    exec (.unassignedCode h code) s = answered (s.during b)
      (if 0xF0 ≤ code.toNat then .ignored
       else if 0xE0 ≤ code.toNat then
         (if guardValid h.guard = false then .refusedGuard else if guardValue (s.during b) h.guard = false then .skipped
          else .refusedCode)
       else .refusedCode) [] b

/-- An order's result code and data join the response in order. After the last order the bundle is done and its event ends,
with the reallocation of R96 if a trigger was noted; then the response [length, OK, results] becomes pending on the bundle's
port, IDLE again, and on no other (R96, R170, R171). -/
def Obligations.AnswersArePlaced : Prop :=
  ∀ (s : State) (c : Code) (data : List Byte) (b : Bundle),
    let placed := b.placed ++ [codeByte c] ++ data
    let t := placeAnswer { state := s, code := c, data := data } b
    let u := ({ s with bundle := none } : State).finishEvent
    (b.taken + 1 < b.count → t = { s with bundle := some { b with taken := b.taken + 1, placed := placed } })
      ∧ (¬ b.taken + 1 < b.count →
          t = u.modPort b.port (fun q => { q with
            transfer := .idle, received := [], excess := 0, sendPos := 0
            response := some ([BitVec.ofNat 8 (2 + placed.length), 0#8] ++ placed) })
          ∧ u.bundle = none ∧ ∀ q, (u.port q).response = (s.port q).response)

/-- The end of an event. With no trigger noted nothing is shared out; with one, one reallocation runs on the state as it
stands: the listed tanks that no exclusion holds (LEVEL_FAULT, OVERDUE, STORM_SUSPEND, in that order) share A_eff; each
listed tank takes its share, DRAINING with a grant above 0 and QUEUED with its reason otherwise; a cycle's first entry to
DRAINING fixes its metering mode; every tank whose grant differs from its last published one is published under one new
serial, a tank that has left the list in the event included, unsettled with its old deadline or a new one, with
GRANT_CHANGED on its owner's port (R37, R86, R87, R88, R89, R90, R94, R96,
R97, R103). -/
def Obligations.EventEndReallocates : Prop :=
  ∀ s : State,
    (s.trigger = false → s.finishEvent = s.modStore (fun v => { v with owed := v.owed.filter s.outfallEnabled }))
    ∧ (s.trigger = true →
        let u := s.finishEvent
        let gs := shareOut s.allow.aEff s.claims
        let blind := fun t => (s.tank t).phase = .offline ∨ (s.tank t).phase = .unknown
        let stormed := fun t => s.rain.catchment = .storm ∧ (s.tank t).set.stormSuspend = true ∧ (s.tank t).spilling = false
        onlyChanges [.trigger, .notices, .tanks, .drains, .store] s u ∧ u.trigger = false ∧ u.drainList = s.drainList
        ∧ u.store = { s.store with owed := s.store.owed.filter s.outfallEnabled }
        ∧ s.claims = (s.drainList.filter (fun t =>
            decide (¬ blind t ∧ (s.tank t).grant.overdueSince = none ∧ ¬ stormed t))).map (fun t =>
              { tank := t, weight := (s.tank t).weight, m := ((s.tank t).drain.request.map (fun r => r.m)).getD 0,
                n := ((s.tank t).drain.request.map (fun r => r.n)).getD 0 })
        ∧ ((∀ t, (u.tank t).grant.granted = (s.tank t).grant.published) → u.globalSerial = s.globalSerial)
        ∧ (∀ t, (u.tank t).grant.granted ≠ (s.tank t).grant.published → u.globalSerial = s.globalSerial + 1#16)
        ∧ (∀ p, (u.port p).notices =
            if ∃ t, (u.tank t).grant.granted ≠ (s.tank t).grant.published ∧ (s.tank t).owner ≠ .nobody
              ∧ (s.tank t).owner = portOwner p then (s.port p).notices ||| noticeWord .grantChanged else (s.port p).notices)
        ∧ ∀ t, (t ∉ s.drainList → (u.tank t).drain = (s.tank t).drain ∧ (u.tank t).openCycle = (s.tank t).openCycle)
          ∧ (u.tank t).grant.granted = (if t ∈ s.drainList then grantOf gs t else (s.tank t).grant.granted)
          ∧ (t ∈ s.drainList → (u.tank t).drain.request = (s.tank t).drain.request
              ∧ (u.tank t).drain.status = (if 0 < grantOf gs t then .draining else .queued)
              ∧ (u.tank t).drain.reason =
                  (if blind t then some .levelFault
                   else if (s.tank t).grant.overdueSince.isSome then some .overdue
                   else if stormed t then some .stormSuspend
                   else if 0 < grantOf gs t then none
                   else if ∀ g ∈ gs, g.1 ≠ t then some .belowMin
                   else if s.allow.aEff = 0 then some .allowanceZero
                   else some .shareZero)
              ∧ (u.tank t).openCycle =
                  (if (s.tank t).drain.status ≠ .draining ∧ 0 < grantOf gs t then
                    (s.tank t).openCycle.map (fun c => { c with
                      mode := match c.mode with
                        | some m => some m
                        | none => some (if ∃ d, (s.channel d).binder = .tank t .draw then .metered else .unmetered) })
                   else (s.tank t).openCycle))
          ∧ (u.tank t).grant =
              (if (u.tank t).grant.granted = (s.tank t).grant.published then
                 { (s.tank t).grant with granted := (u.tank t).grant.granted }
               else { (s.tank t).grant with
                 granted := (u.tank t).grant.granted, published := (u.tank t).grant.granted, serial := u.globalSerial
                 unsettled := true
                 deadline := if (s.tank t).grant.unsettled then (s.tank t).grant.deadline
                   else some { setAt := s.partTime, due := s.partTime + s.works.tConfirm } }))

/-! ### Orders of every port -/

/-- NOP and the readings of every port change nothing and answer DONE with data of the table's length; an operand out of
range is refused. The 40 bytes of ALERT_READ for a gauge, field by field (R173, R182, R183, R19, R57, R194). -/
def Obligations.ReadingsOfEveryPort : Prop :=
  ∀ (h : Head) (s : State) (b : Bundle),
    (Admitted (.nop h) h s b → exec (.nop h) s = answered (s.during b) .done [] b)
    ∧ (Admitted (.identify h) h s b →
        exec (.identify h) s = answered (s.during b) .done (padTo 20 (identifyData (s.during b) h.port)) b)
    ∧ (∀ x, Admitted (.statusRead h x) h s b →
        exec (.statusRead h x) s =
          if x = 255#8 then answered (s.during b) .done (padTo 60 (summaryData (s.during b))) b
          else if hx : x.toNat < 4 then answered (s.during b) .done (padTo 60 (groupData (s.during b) ⟨x.toNat, hx⟩)) b
          else answered (s.during b) .refusedRange [] b)
    ∧ (∀ x part, Admitted (.tankRead h x part) h s b →
        exec (.tankRead h x part) s =
          if hx : x.toNat < 8 then
            (if part = 0#8 then answered (s.during b) .done (padTo 53 (tankStateData (s.during b) ⟨x.toNat, hx⟩)) b
             else if part = 1#8 then answered (s.during b) .done (padTo 53 (tankSettingsData (s.during b) ⟨x.toNat, hx⟩)) b
             else answered (s.during b) .refusedRange [] b)
          else answered (s.during b) .refusedRange [] b)
    ∧ (∀ x, Admitted (.alertRead h x) h s b →
        exec (.alertRead h x) s =
          if x = 255#8 then answered (s.during b) .done (padTo 40 (thresholdsData (s.during b))) b
          else if hx : x.toNat < 4 then answered (s.during b) .done (padTo 40 (alertGaugeData (s.during b) ⟨x.toNat, hx⟩)) b
          else answered (s.during b) .refusedRange [] b)
    ∧ ∀ g : Fin 4,
        let d := padTo 40 (alertGaugeData (s.during b) g)
        let k := s.gauge g
        d.length = 40 ∧ byteAt d 0 = alertCode s.rain.catchment ∧ byteAt d 1 = (if s.rain.timer.isSome then 1 else 0)
        ∧ (s.rain.timer = none → fieldAt d 2 2 = 65535)
        ∧ (∀ t, s.rain.timer = some t → s.partTime - t ≤ 65535 → fieldAt d 2 2 = s.partTime - t)
        ∧ (s.rain.tClear ≤ 120 → byteAt d 4 = s.rain.tClear)
        ∧ ((∀ c, (s.channel c).binder ≠ .gauge g) → byteAt d 5 = 255)
        ∧ (∀ c, (∀ x, (s.channel x).binder = .gauge g ↔ x = c) → byteAt d 5 = c.val)
        ∧ byteAt d 6 = availCode k.avail ∧ (k.tipDepth ≤ 10 → byteAt d 7 = k.tipDepth) ∧ byteAt d 8 = alertCode k.level
        ∧ ((k.five.take 3).sum * k.tipDepth ≤ 4294967295 → fieldAt d 9 4 = (k.five.take 3).sum * k.tipDepth)
        ∧ (intensity k ≤ 4294967295 → fieldAt d 13 4 = intensity k)
        ∧ (hourDepth k ≤ 4294967295 → fieldAt d 17 4 = hourDepth k)
        ∧ (k.hourly.sum * k.tipDepth ≤ 4294967295 → fieldAt d 21 4 = k.hourly.sum * k.tipDepth)
        ∧ (k.rejected ≤ 65535 → fieldAt d 25 2 = k.rejected) ∧ fieldAt d 27 4 = k.totalTips.toNat
        ∧ ∀ j, 31 ≤ j → byteAt d j = 0

/-- The readings of the WORKS, site and RECORD ports change nothing and answer DONE with data of the table's length; an
operand out of range and another site's tank are refused. The 24 bytes of ENTRY_READ, field by field (R63, R112, R40, R140,
R165, R194). -/
def Obligations.ReadingsOfOnePort : Prop :=
  ∀ (h : Head) (s : State) (b : Bundle),
    (∀ x, Admitted (.entryRead h x) h s b →
      exec (.entryRead h x) s =
        if hx : x.toNat < 8 then answered (s.during b) .done (padTo 24 (entryData (s.during b) ⟨x.toNat, hx⟩)) b
        else answered (s.during b) .refusedRange [] b)
    ∧ (Admitted (.drawRead h) h s b → exec (.drawRead h) s = answered (s.during b) .done (padTo 59 (drawData (s.during b))) b)
    ∧ (∀ x, Admitted (.cycleRead h x) h s b →
        exec (.cycleRead h x) s =
          if hx : x.toNat < 8 then
            (if (s.tank ⟨x.toNat, hx⟩).owner = portOwner h.port then
               answered (s.during b) .done (padTo 60 (cycleData (s.during b) ⟨x.toNat, hx⟩)) b
             else answered (s.during b) .refusedOwner [] b)
          else answered (s.during b) .refusedRange [] b)
    ∧ (∀ x, Admitted (.countRead h x) h s b →
        exec (.countRead h x) s =
          if x = 255#8 then answered (s.during b) .done (padTo 56 (countSettingsData (s.during b))) b
          else if hx : x.toNat < 8 then answered (s.during b) .done (padTo 56 (countData (s.during b) ⟨x.toNat, hx⟩)) b
          else answered (s.during b) .refusedRange [] b)
    ∧ (∀ part, Admitted (.storeRead h part) h s b →
        exec (.storeRead h part) s =
          if part = 0#8 then answered (s.during b) .done (padTo 47 (storeStateData (s.during b))) b
          else if part = 1#8 then answered (s.during b) .done (padTo 47 (storeOutfallsData (s.during b))) b
          else answered (s.during b) .refusedRange [] b)
    ∧ ∀ e : Fin 8,
        let d := padTo 24 (entryData (s.during b) e)
        let v := s.entry e
        d.length = 24 ∧ byteAt d 0 = e.val ∧ (v.rate ≤ 65535 → fieldAt d 1 2 = v.rate)
        ∧ (v.duration ≤ 65535 → fieldAt d 3 2 = v.duration)
        ∧ (v.link = none → byteAt d 5 = 255) ∧ (∀ f, v.link = some f → byteAt d 5 = f.val)
        ∧ byteAt d 6 = (if v.byPart then 1 else 0) ∧ byteAt d 7 = entryStatusCode v.status
        ∧ (v.remaining = none → fieldAt d 8 3 = 16777215)
        ∧ (∀ r, v.remaining = some r → r ≤ 16777215 →
            fieldAt d 8 3 =
              if s.allow.sched = .running ∧ s.allow.active = some e then r - (s.partTime - s.allow.runSince) else r)
        ∧ byteAt d 11 = scheduleCode s.allow.sched
        ∧ (s.allow.active = none → byteAt d 12 = 255) ∧ (∀ f, s.allow.active = some f → byteAt d 12 = f.val)
        ∧ (s.allow.lease = none → fieldAt d 13 2 = 65535)
        ∧ (∀ t, s.allow.lease = some t → t + 60 * s.works.tLease - s.partTime ≤ 65535 →
            fieldAt d 13 2 = t + 60 * s.works.tLease - s.partTime)
        ∧ byteAt d 15 = (if s.allow.hold.isSome then 1 else 0)
        ∧ (s.allow.hold = none → fieldAt d 16 2 = 65535)
        ∧ (∀ t, s.allow.hold = some t → t - s.partTime ≤ 65535 → fieldAt d 16 2 = t - s.partTime)
        ∧ (s.works.fallback ≤ 65535 → fieldAt d 18 2 = s.works.fallback) ∧ (s.works.cLeg ≤ 65535 → fieldAt d 20 2 = s.works.cLeg)
        ∧ (s.allow.aEff ≤ 65535 → fieldAt d 22 2 = s.allow.aEff)

/-- NOTICES_READ returns the port's set and mask and empties the set, which releases the attention line; NOTICE_MASK
replaces the port's mask; PORT_RESET empties the set and restores the default mask; nothing else changes (R179, R180,
R181). -/
def Obligations.NoticeOrders : Prop :=
  ∀ (h : Head) (s : State) (b : Bundle),
    (Admitted (.noticesRead h) h s b →
      exec (.noticesRead h) s =
        answered ((s.during b).modPort h.port (fun q => { q with notices := 0#16 })) .done
          (beBytes 2 (s.port h.port).notices.toNat ++ beBytes 2 (s.port h.port).mask.toNat) b
        ∧ attention ((s.during b).modPort h.port (fun q => { q with notices := 0#16 })) h.port = false)
    ∧ (∀ mask, Admitted (.noticeMask h mask) h s b →
      exec (.noticeMask h mask) s = answered ((s.during b).modPort h.port (fun q => { q with mask := mask })) .done [] b)
    ∧ (Admitted (.portReset h) h s b →
        exec (.portReset h) s =
          answered ((s.during b).modPort h.port (fun q => { q with notices := 0#16, mask := defaultMask h.port })) .done [] b)

/-- The attention line of a port in RUNNING is asserted exactly while its set and its mask share a kind; during start-up, and
while RESET is held, it is released (R178). -/
def Obligations.AttentionFollowsSetAndMask : Prop :=
  ∀ (s : State) (p : Port),
    (s.stage = .running → (attention s p = true ↔
      ∃ k : Notice, (s.port p).notices &&& noticeWord k ≠ 0#16 ∧ (s.port p).mask &&& noticeWord k ≠ 0#16))
    ∧ (s.stage ≠ .running → attention s p = false)

/-- SAVE_SETTINGS begins a save of a snapshot at page 0 and answers DONE; during a save it joins the follow-on and answers
QUEUED (R186, R188). -/
def Obligations.SaveSettingsBeginsOrQueues : Prop :=
  ∀ (h : Head) (s : State) (b : Bundle), Admitted (.saveSettings h) h s b →
    exec (.saveSettings h) s =
      match s.save.run with
      | none =>
        answered ((s.during b).modSave (fun v =>
          { v with run := some { page := 0, step := .sending, snapshot := formImage (s.during b).workingSettings,
                                 requesters := requester h.port }, changed := false })) .done [] b
      | some _ =>
        answered ((s.during b).modSave (fun v => { v with followOn := some ((v.followOn.getD 0#4) ||| requester h.port) }))
          .queued [] b

/-- The three steps of a page of a save. The transfer's end begins the internal write, or ends the save with NO_ACK; the write
completes within 5 ms, or ends the save with TIMEOUT; the read-back shows what the page holds: equal bytes pass to the next
page or, after page 31, end the save SAVED, others end it with MISMATCH. A failed save holds its page and cause and sets the
changed flag. Every end sets SETTINGS on the ports of the requesters and begins a pending follow-on as a new save. The EEPROM
changes in the page being written alone, whose bytes are no longer known from its transfer on to its read-back (R187, R188;
log entry 7). -/
def Obligations.SaveStepsOfAPage : Prop :=
  ∀ (s : State) (v : SaveRun), Open s → s.save.run = some v →
    let inPage := fun t : State => t.outer = ({ s with eeprom := t.eeprom } : State).outer ∧ t.array = s.array
      ∧ t.retired = s.retired
      ∧ ∀ a, (a < 32 * v.page.val ∨ 32 * v.page.val + 32 ≤ a) → Memory.read t.eeprom a = Memory.read s.eeprom a
    (v.step = .sending →
      (∃ t, exec (.savePageSent true) s = ended t ∧ t.save = { s.save with run := some { v with step := .writing s.clock } }
        ∧ inPage t ∧ onlyChanges [.outer, .save, .media] s t)
      ∧ ∃ t, exec (.savePageSent false) s = ended t ∧ saveEnded s t v (.failed v.page .noAck) true
        ∧ inPage t ∧ onlyChanges [.outer, .save, .media, .notices] s t)
    ∧ (∀ since, v.step = .writing since →
        (s.clock ≤ since + 5000 →
          exec .eepromWriteComplete s = ended (s.modSave (fun q => { q with run := some { v with step := .reading } })))
        ∧ (since + 5000 ≤ s.clock →
          ∃ t, exec .eepromWriteTimeout s = ended t ∧ saveEnded s t v (.failed v.page .timeout) true
            ∧ onlyChanges [.save, .notices] s t))
    ∧ (∀ data : List Byte, v.step = .reading → data.length = 32 →
        ∃ t, exec (.pageReadbackComplete data) s = ended t ∧ inPage t ∧ onlyChanges [.outer, .save, .notices] s t
          ∧ (eepromCanonical s → ∀ k : Fin 32, Memory.read t.eeprom (32 * v.page.val + k.val) = data.getD k.val 0#8)
          ∧ (data = (v.snapshot.drop (32 * v.page.val)).take 32 → v.page ≠ 31 →
              t.save = { s.save with run := some { v with page := v.page + 1, step := .sending } } ∧ unchanged s t .notices)
          ∧ (data = (v.snapshot.drop (32 * v.page.val)).take 32 → v.page = 31 → saveEnded s t v .saved false)
          ∧ (data ≠ (v.snapshot.drop (32 * v.page.val)).take 32 → saveEnded s t v (.failed v.page .mismatch) true))

/-! ### Orders of the WORKS port -/

/-- ENTRY_WRITE: its refusals in their order, and the entry it writes with rate and duration at their bounds (R60). -/
def Obligations.EntryWriteRule : Prop :=
  ∀ (h : Head) (x : Byte) (rate duration : Word) (link : Byte) (s : State) (b : Bundle),
    Admitted (.entryWrite h x rate duration link) h s b →
    (8 ≤ x.toNat → exec (.entryWrite h x rate duration link) s = answered (s.during b) .refusedRange [] b)
    ∧ ∀ e : Fin 8, e.val = x.toNat →
      ((s.entry e).byPart = true → exec (.entryWrite h x rate duration link) s = answered (s.during b) .refusedOwner [] b)
      ∧ ((s.entry e).byPart = false →
          ((8 ≤ link.toNat ∧ link ≠ 255#8) ∨ link = x →
            exec (.entryWrite h x rate duration link) s = answered (s.during b) .refusedRange [] b)
          ∧ ∀ l : Option (Fin 8), (l = none ∧ link = 255#8 ∨ ∃ f, l = some f ∧ f ≠ e ∧ f.val = link.toNat) →
            exec (.entryWrite h x rate duration link) s =
              answered ((s.during b).modEntry e (fun _ =>
                { rate := min 4000 rate.toNat, duration := min 1440 duration.toNat, link := l, byPart := false,
                  status := .fresh,
                  remaining := if duration.toNat = 0 then none else some (60 * min 1440 duration.toNat) }))
                (if 4000 < rate.toNat ∨ 1440 < duration.toNat then .doneClamped else .done) [] b)

/-- ENTRY_POST, after the renewal of R70, passes an entry of WORKS to PART, FRESH with its remaining loaded; ENTRY_RECALL
returns a posted entry that is not active, RECALLED with its remaining (R61, R62). -/
def Obligations.EntryPostAndRecall : Prop :=
  ∀ (h : Head) (x : Byte) (s : State) (b : Bundle),
    (Admitted (.entryPost h x) h s b →
      (8 ≤ x.toNat → exec (.entryPost h x) s = answered (renewedLease (s.during b)) .refusedRange [] b)
      ∧ ∀ e : Fin 8, e.val = x.toNat →
        exec (.entryPost h x) s =
          if (s.entry e).byPart then answered (renewedLease (s.during b)) .refusedOwner [] b
          else answered ((renewedLease (s.during b)).modEntry e (fun v =>
            { v with byPart := true, status := .fresh,
                     remaining := if v.duration = 0 then none else some (60 * v.duration) })) .done [] b)
    ∧ (Admitted (.entryRecall h x) h s b →
      (8 ≤ x.toNat → exec (.entryRecall h x) s = answered (s.during b) .refusedRange [] b)
      ∧ ∀ e : Fin 8, e.val = x.toNat →
        exec (.entryRecall h x) s =
          if (s.entry e).byPart = false then answered (s.during b) .notPosted [] b
          else if s.allow.active = some e then answered (s.during b) .refusedState [] b
          else answered ((s.during b).modEntry e (fun v => { v with byPart := false, status := .recalled })) .done [] b)

/-- SCHEDULE_KICK with a value that names no entry and is not NONE is refused, with the lease renewed in RUNNING and STALLED.
In IDLE it starts the schedule at an entry held by PART, with its lease and its rate within C_leg in force, and answers
NOT_POSTED otherwise. In LAPSED it resumes: STALLED for an OVERRUN entry, RUNNING otherwise, with a fresh lease, and a finite
entry that had run out expires at once: it advances to a linked entry that PART holds, or stalls (R65, R66, R68, R70). -/
def Obligations.KickInIdleAndLapsed : Prop :=
  ∀ (h : Head) (x : Byte) (s : State) (b : Bundle), Admitted (.scheduleKick h x) h s b →
    (8 ≤ x.toNat → x ≠ 255#8 → exec (.scheduleKick h x) s = answered (renewedLease (s.during b)) .refusedRange [] b)
    ∧ (s.allow.sched = .idle →
      (x = 255#8 → exec (.scheduleKick h x) s = answered (s.during b) .notPosted [] b)
      ∧ ∀ e : Fin 8, e.val = x.toNat →
        ((s.entry e).byPart = false → exec (.scheduleKick h x) s = answered (s.during b) .notPosted [] b)
        ∧ ((s.entry e).byPart = true → ∃ t, exec (.scheduleKick h x) s = answered t .done [] b
            ∧ t.allow = { s.allow with
                sched := .running, active := some e, runSince := s.partTime, lease := some s.partTime,
                aEff := if s.allow.hold.isSome then 0 else min (s.entry e).rate s.works.cLeg }
            ∧ onlyChanges [.allow, .store, .notices, .trigger] (s.during b) t))
    ∧ (∀ e, s.allow.sched = .lapsed → s.allow.active = some e → x.toNat < 8 ∨ x = 255#8 →
        ((s.entry e).status = .overrun ∨ (s.entry e).remaining ≠ some 0 →
          ∃ t, exec (.scheduleKick h x) s = answered t .done [] b
            ∧ t.allow = { s.allow with
                sched := if (s.entry e).status = .overrun then .stalled else .running,
                runSince := s.partTime, lease := some s.partTime,
                aEff := if s.allow.hold.isSome then 0 else min (s.entry e).rate s.works.cLeg }
            ∧ onlyChanges [.allow, .store, .notices, .trigger] (s.during b) t)
        ∧ ((s.entry e).status ≠ .overrun → (s.entry e).remaining = some 0 →
            (∀ f, (s.entry e).link = some f → (s.entry f).byPart = false) →
            ∃ t, exec (.scheduleKick h x) s = answered t .done [] b ∧ t.allow.sched = .stalled ∧ t.allow.active = some e
              ∧ t.allow.lease = some s.partTime
              ∧ t.entry e = { s.entry e with status := .overrun } ∧ (∀ g, g ≠ e → t.entry g = s.entry g)
              ∧ onlyChanges [.allow, .store, .notices, .trigger] (s.during b) t)
        ∧ ((s.entry e).status ≠ .overrun → (s.entry e).remaining = some 0 →
            ∀ f, (s.entry e).link = some f → (s.entry f).byPart = true → f ≠ e →
            ∃ t, exec (.scheduleKick h x) s = answered t .done [] b ∧ t.allow.sched = .running ∧ t.allow.active = some f
              ∧ t.allow.lease = some s.partTime ∧ t.allow.hold = s.allow.hold
              ∧ t.allow.aEff = (if s.allow.hold.isSome then 0 else min (s.entry f).rate s.works.cLeg)
              ∧ t.entry e = { s.entry e with byPart := false, status := .done } ∧ (∀ g, g ≠ e → t.entry g = s.entry g)
              ∧ (t.port .works).notices &&& noticeWord .schedule ≠ 0#16
              ∧ onlyChanges [.allow, .store, .notices, .trigger] (s.during b) t))

/-- SCHEDULE_KICK in RUNNING with a finite entry renews the lease and no more; with an open-ended entry, and in STALLED, it
advances to a linked entry that PART holds, or answers NOT_POSTED with the lease renewed (R67). -/
def Obligations.KickInRunningOrStalled : Prop :=
  ∀ (h : Head) (x : Byte) (s : State) (b : Bundle) (e : Fin 8), Admitted (.scheduleKick h x) h s b →
    (x.toNat < 8 ∨ x = 255#8) → s.allow.active = some e →
    (s.allow.sched = .running → (s.entry e).remaining.isSome →
      exec (.scheduleKick h x) s = answered ((s.during b).modAllow (fun a => { a with lease := some s.partTime })) .done [] b)
    ∧ (s.allow.sched = .stalled ∨ (s.allow.sched = .running ∧ (s.entry e).remaining = none) →
        ((∀ f, (s.entry e).link = some f → (s.entry f).byPart = false) →
          exec (.scheduleKick h x) s =
            answered ((s.during b).modAllow (fun a => { a with lease := some s.partTime })) .notPosted [] b)
        ∧ ∀ f, (s.entry e).link = some f → (s.entry f).byPart = true → f ≠ e →
          ∃ t, exec (.scheduleKick h x) s = answered t .done [] b
            ∧ t.allow.sched = .running ∧ t.allow.active = some f ∧ t.allow.lease = some s.partTime ∧ t.allow.hold = s.allow.hold
            ∧ t.entry e = { s.entry e with byPart := false, status := .done }
            ∧ (∀ g, g ≠ e → t.entry g = s.entry g)
            ∧ t.allow.aEff = (if s.allow.hold.isSome then 0 else min (s.entry f).rate s.works.cLeg)
            ∧ (t.port .works).notices &&& noticeWord .schedule ≠ 0#16 ∧ onlyChanges [.allow, .store, .notices, .trigger] (s.during b) t)

/-- SCHEDULE_STOP ends the schedule in any state: IDLE with no active entry and no lease, the active entry returned
CUT, every other posted entry ABANDONED, each with its rate, duration and link and the remaining it has now, the entries of
WORKS as they were, the hold as it was (R64, R69). -/
def Obligations.ScheduleStopEndsTheSchedule : Prop :=
  ∀ (h : Head) (s : State) (b : Bundle), Admitted (.scheduleStop h) h s b → allowanceFormed s →
    ∃ t, exec (.scheduleStop h) s = answered t .done [] b
      ∧ t.allow.sched = .idle ∧ t.allow.active = none ∧ t.allow.lease = none ∧ t.allow.hold = s.allow.hold
      ∧ t.allow.aEff = (if s.allow.hold.isSome then 0 else min s.works.fallback s.works.cLeg)
      ∧ onlyChanges [.allow, .store, .notices, .trigger] (s.during b) t
      ∧ ∀ e, t.entry e =
          if (s.entry e).byPart = false then s.entry e
          else { s.entry e with
            byPart := false, status := if s.allow.active = some e then .cut else .abandoned, remaining := remainingAt s e }

/-- LEASE_RENEW renews the lease in RUNNING and STALLED, is refused with LAPSED in LAPSED, and with REFUSED_STATE in IDLE
(R72). -/
def Obligations.LeaseRenewRule : Prop :=
  ∀ (h : Head) (s : State) (b : Bundle), Admitted (.leaseRenew h) h s b →
    exec (.leaseRenew h) s =
      match s.allow.sched with
      | .running => answered ((s.during b).modAllow (fun a => { a with lease := some s.partTime })) .done [] b
      | .stalled => answered ((s.during b).modAllow (fun a => { a with lease := some s.partTime })) .done [] b
      | .lapsed => answered (s.during b) .lapsed [] b
      | .idle => answered (s.during b) .refusedState [] b

/-- HOLD puts a hold in force for its minutes, brought within 1 to 240, and takes A_eff to 0; RELEASE ends a hold in force,
with A_eff as R75 forms it, and answers NOT_HELD without one (R73, R74, R70). -/
def Obligations.HoldAndRelease : Prop :=
  ∀ (h : Head) (s : State) (b : Bundle),
    (∀ minutes, Admitted (.hold h minutes) h s b →
      ∃ t, exec (.hold h minutes) s =
          answered t (if 1 ≤ minutes.toNat ∧ minutes.toNat ≤ 240 then .done else .doneClamped) [] b
        ∧ t.allow = { (renewedLease s).allow with
            hold := some (s.partTime + 60 * max 1 (min 240 minutes.toNat)), aEff := 0 }
        ∧ onlyChanges [.allow, .store, .notices, .trigger] (s.during b) t)
    ∧ (Admitted (.release h) h s b →
      (s.allow.hold = none → exec (.release h) s = answered (renewedLease (s.during b)) .notHeld [] b)
      ∧ (s.allow.hold.isSome → allowanceFormed s → ∃ t, exec (.release h) s = answered t .done [] b
          ∧ onlyChanges [.allow, .store, .notices, .trigger] (s.during b) t
          ∧ t.allow = { (renewedLease s).allow with
              hold := none, aEff := min (allowanceBase { s with allow := { s.allow with hold := none } }) s.works.cLeg }))

/-- WORKS_SET is refused whole where its channel is out of range or another binder holds it; otherwise every number takes the
nearest bound, F within the new C_leg, and the answer is DONE exactly when none of them and no parameter of a leg meter named
was moved. A_eff is formed anew; a lease that its new length has ended lapses. The leg meter takes the channel named, keeps it
with its new parameters, or lets its channel go, and the leg check begins afresh at a binding and at a release (R2, R4, R9,
R71, R75, R76, R116); a changed polarity settles from the moment of the order (log entry 12), and only a changed T_lease lapses
the lease in the order (log entry 52). -/
def Obligations.WorksSetRule : Prop :=
  ∀ (h : Head) (v : WorksOperands) (s : State) (b : Bundle), Admitted (.worksSet h v) h s b →
    (16 ≤ v.channel.toNat → v.channel ≠ 255#8 → exec (.worksSet h v) s = answered (s.during b) .refusedRange [] b)
    ∧ (∀ c : Fin 16, c.val = v.channel.toNat → (s.channel c).binder ≠ .none → (s.channel c).binder ≠ .legMeter →
        exec (.worksSet h v) s = answered (s.during b) .refusedClaimed [] b)
    ∧ ((v.channel = 255#8 ∨ ∃ c : Fin 16, c.val = v.channel.toNat
          ∧ ((s.channel c).binder = .none ∨ (s.channel c).binder = .legMeter)) →
        let tLease := max 1 (min 60 v.tLease.toNat)
        let lapses := (s.allow.sched = .running ∨ s.allow.sched = .stalled) ∧ s.works.tLease ≠ tLease
          ∧ ∃ start, s.allow.lease = some start ∧ start + 60 * tLease ≤ s.partTime
        ∃ t code, exec (.worksSet h v) s = answered t code [] b ∧ (code = .done ∨ code = .doneClamped)
          ∧ (code = .done ↔ v.cLeg.toNat ≤ 4000 ∧ v.fallback.toNat ≤ v.cLeg.toNat ∧ 1 ≤ v.tLease.toNat ∧ v.tLease.toNat ≤ 60
              ∧ 10 ≤ v.tConfirm.toNat ∧ v.tConfirm.toNat ≤ 600 ∧ v.legTol.toNat ≤ 500
              ∧ (v.channel ≠ 255#8 → paramsFit .flow (carriedParams (.worksSet h v))))
          ∧ t.works = {
              cLeg := min 4000 v.cLeg.toNat, fallback := min (min 4000 v.cLeg.toNat) v.fallback.toNat,
              tLease := tLease, tConfirm := max 10 (min 600 v.tConfirm.toNat), legTol := min 500 v.legTol.toNat }
          ∧ (allowanceFormed s → t.allow.aEff = min (allowanceBase t) t.works.cLeg)
          ∧ (¬ lapses → t.allow = { s.allow with aEff := t.allow.aEff })
          ∧ (lapses → t.allow.sched = .lapsed ∧ t.allow.lease = none ∧ t.allow.active = s.allow.active
              ∧ t.allow.hold = s.allow.hold
              ∧ ∀ p, p = .works ∨ p = .siteA ∨ p = .siteB → (t.port p).notices &&& noticeWord .lease ≠ 0#16)
          ∧ onlyChanges [.works, .allow, .channels, .leg, .store, .save, .notices, .trigger] (s.during b) t
          ∧ (∀ c : Fin 16, c.val ≠ v.channel.toNat → (s.channel c).binder ≠ .legMeter → t.channel c = s.channel c)
          ∧ ((∀ d e, (s.channel d).binder = .legMeter → (s.channel e).binder = .legMeter → d = e) →
              (∀ d : Fin 16, d.val ≠ v.channel.toNat → (s.channel d).binder = .legMeter →
                t.channel d = releasedChannel (s.channel d) ∧ t.leg = { excess := false, count := 0 })
              ∧ ∀ c : Fin 16, c.val = v.channel.toNat →
                ((s.channel c).binder = .none →
                  t.channel c = startedChannel s (s.channel c) .legMeter (carriedParams (.worksSet h v))
                  ∧ t.leg = { excess := false, count := 0 })
                ∧ ((s.channel c).binder = .legMeter →
                  t.channel c = keptChannel s (s.channel c) .legMeter (carriedParams (.worksSet h v)) ∧ t.leg = s.leg)))

/-! ### Orders of the site ports -/

/-- The tank orders of a site are refused with REFUSED_RANGE for a tank outside T0 to T7. TANK_CLAIM makes an unclaimed tank
the sending site's and changes no more of it, and is refused for a tank with an owner, the sender included; the others are
refused with REFUSED_OWNER for a tank the site does not own (R19, R21, R22, R23, R25, R3, R80, R82, R105). -/
def Obligations.TankClaimAndOwnership : Prop :=
  ∀ (h : Head) (x : Byte) (s : State) (b : Bundle),
    (Admitted (.tankClaim h x) h s b →
      (8 ≤ x.toNat → exec (.tankClaim h x) s = answered (s.during b) .refusedRange [] b)
      ∧ ∀ t : Fin 8, t.val = x.toNat →
        exec (.tankClaim h x) s =
          if (s.tank t).owner = .nobody then
            answered (((s.during b).modTank t (fun k => { k with owner := portOwner h.port })).modSave
              (fun v => { v with changed := true })) .done [] b
          else answered (s.during b) .refusedOwner [] b)
    ∧ ∀ i, Admitted i h s b →
      (i = .tankRelease h x ∨ (∃ v, i = .tankSet h x v) ∨ (∃ v, i = .shapeSet h x v)
        ∨ (∃ r v, i = .channelBind h x r v ∧ r.toNat < 3) ∨ (∃ m n, i = .drainRequest h x m n) ∨ i = .drainStop h x
        ∨ ∃ n r, i = .grantAck h x n r) →
      (8 ≤ x.toNat → exec i s = answered (s.during b) .refusedRange [] b)
        ∧ ∀ t : Fin 8, t.val = x.toNat → (s.tank t).owner ≠ portOwner h.port →
          exec i s = answered (s.during b) .refusedOwner [] b

/-- TANK_RELEASE of a listed tank is refused with REFUSED_STATE; applied, it closes an open cycle RELEASED and leaves the tank
with no owner, the default settings, OFFLINE, unmeasured, band and weight computed anew, settled with nothing granted or
confirmed; what was published of it stands (log entry 14). Its level, draw and spill channels are released, one in FAULT with
CHANNEL on its site and on RECORD; the overdraw flag and count of a tank with a draw channel clear; an ACTIVE spill channel
delivers its inactive edge, which ends a pending start or a stretch, and no other outfall moves (R5, R18, R22, R34, R38, R109,
R114, R122). -/
def Obligations.TankReleaseRule : Prop :=
  ∀ (h : Head) (x : Byte) (s : State) (b : Bundle) (t : Fin 8), Admitted (.tankRelease h x) h s b → t.val = x.toNat →
    (s.tank t).owner = portOwner h.port →
    (t ∈ s.drainList → exec (.tankRelease h x) s = answered (s.during b) .refusedState [] b)
    ∧ (t ∉ s.drainList → ∃ u, exec (.tankRelease h x) s = answered u .done [] b
        ∧ (u.tank t).owner = .nobody ∧ (u.tank t).set = defaultTankSettings ∧ (u.tank t).phase = .offline
        ∧ (u.tank t).held = none ∧ (u.tank t).clamped = false ∧ (u.tank t).rawBand = 1 ∧ (u.tank t).openCycle = none
        ∧ (u.tank t).grant.granted = 0 ∧ (u.tank t).grant.confirmed = 0 ∧ (u.tank t).grant.unsettled = false
        ∧ (u.tank t).grant.deadline = none ∧ (u.tank t).grant.overdueSince = none
        ∧ (u.tank t).grant.serial = (s.tank t).grant.serial ∧ (u.tank t).counter = (s.tank t).counter
        ∧ (u.tank t).grant.acked = (s.tank t).grant.acked ∧ (u.tank t).grant.published = (s.tank t).grant.published
        ∧ (u.tank t).drain = (s.tank t).drain ∧ (u.tank t).lastCycle = lastClosed (s.tank t) .released s.partTime
        ∧ u.tank t = weighed s.rain.catchment (u.tank t)
        ∧ (ownChannels s t →
            (∀ r c, (s.channel c).binder = .tank t r → u.channel c = releasedChannel (s.channel c)
              ∧ ((s.channel c).status = .fault → (u.port h.port).notices &&& noticeWord .channel ≠ 0#16
                  ∧ (u.port .record).notices &&& noticeWord .channel ≠ 0#16))
            ∧ ((∃ c, (s.channel c).binder = .tank t .draw) →
                (u.tank t).grant.overdraw = false ∧ (u.tank t).grant.overCount = 0)
            ∧ ((∀ c, (s.channel c).binder = .tank t .spill → (s.channel c).active = false) →
                u.outfall t = s.outfall t ∧ (u.tank t).spilling = (s.tank t).spilling)
            ∧ ((∃ c, (s.channel c).binder = .tank t .spill ∧ (s.channel c).active = true) → (s.outfall t).switch = true →
                (u.outfall t).switch = false
                ∧ (∀ start, (s.outfall t).phase = .pending start → (u.outfall t).phase = .quiet)
                ∧ ∀ start, (s.outfall t).phase = .spilling start →
                    (u.outfall t).phase = (if s.spill.set.tOff = 0 then .quiet else .trailing s.partTime)
                    ∧ (u.outfall t).seconds = min ((s.outfall t).seconds + (s.partTime - start)) 4294967295
                    ∧ (u.tank t).spilling = false))
        ∧ onlyChanges [.channels, .tanks, .spill, .store, .save, .notices, .trigger] (s.during b) u
        ∧ (∀ k, k ≠ t → u.tank k = s.tank k ∧ u.outfall k = s.outfall k)
        ∧ ∀ c, (∀ r, (s.channel c).binder ≠ .tank t r) → u.channel c = s.channel c)

/-- TANK_SET gives the tank every value it carries at its nearest bound and keeps the shape table; the answer tells whether
any was clamped. A new m_limit lowers a listed tank's m and n; band and weight are computed anew. Disabling takes the tank
OFFLINE, closes its cycle DISABLED and takes it out of the list, its grant 0 at once; enabling takes it to UNKNOWN where its
level channel is bound and not FAULT. New thresholds evaluate phase and raw band at once from the fill held, and a listed tank
that becomes DRY leaves the list, with DRAIN_ENDED. A leave, a changed m or n, a changed weight or a changed storm exclusion of
a listed tank notes a trigger. SHAPE_SET is refused for a listed tank or a table out of order, and otherwise replaces the
table; an equal one changes nothing, and another computes volume and fill of the level held and evaluates. A capture cycle that
either order opens starts at the order's own part time with the fill held as its peak: that is the model's choice, which the
manual leaves open (log entry 44) (R23, R24, R25, R26, R31, R34, R38, R81, R83, R84, R88, R95). -/
def Obligations.TankSetAndShapeSet : Prop :=
  ∀ (h : Head) (x : Byte) (s : State) (b : Bundle) (t : Fin 8), t.val = x.toNat → (s.tank t).owner = portOwner h.port →
    (∀ v, Admitted (.tankSet h x v) h s b →
      ∃ u code, exec (.tankSet h x v) s = answered u code [] b
        ∧ (u.tank t).set =
          { enabled := v.flags.toNat % 2 = 1, preEmpt := v.flags.toNat / 2 % 2 = 1, stormSuspend := v.flags.toNat / 4 % 2 = 1,
            cls := max 1 (min 4 v.cls.toNat), mLimit := min 1000 v.mLimit.toNat, e := min 200 v.e.toNat,
            fFull := max 700 (min 1000 v.fFull.toNat), h := max 5 (min 100 v.h.toNat), tol := min 200 v.tol.toNat,
            dLo := max 50 (min 450 v.dLo.toNat), dHi := max 550 (min 950 v.dHi.toNat), span := max 500 (min 20000 v.span.toNat),
            shape := (s.tank t).set.shape }
        ∧ (code = .done ∨ code = .doneClamped)
        ∧ (code = .done ↔ 1 ≤ v.cls.toNat ∧ v.cls.toNat ≤ 4 ∧ v.mLimit.toNat ≤ 1000 ∧ v.e.toNat ≤ 200 ∧ 700 ≤ v.fFull.toNat
            ∧ v.fFull.toNat ≤ 1000 ∧ 5 ≤ v.h.toNat ∧ v.h.toNat ≤ 100 ∧ v.tol.toNat ≤ 200 ∧ 50 ≤ v.dLo.toNat
            ∧ v.dLo.toNat ≤ 450 ∧ 550 ≤ v.dHi.toNat ∧ v.dHi.toNat ≤ 950 ∧ 500 ≤ v.span.toNat ∧ v.span.toNat ≤ 20000)
        ∧ (u.tank t).owner = (s.tank t).owner
        ∧ onlyChanges [.tanks, .drains, .store, .save, .notices, .trigger] (s.during b) u
        ∧ (∀ k, k ≠ t → u.tank k = s.tank k) ∧ u.globalSerial = s.globalSerial
        ∧ (let old := (s.tank t).set
           let new := (u.tank t).set
           let k := tankSettled (s.tank t) new
           let thresholds := old.e ≠ new.e ∨ old.fFull ≠ new.fFull ∨ old.h ≠ new.h
           (old.enabled = true → new.enabled = false →
              let off := { k with phase := .offline, openCycle := none, lastCycle := lastClosed (s.tank t) .disabled s.partTime }
              u.tank t = weighed s.rain.catchment (if t ∈ s.drainList then outOfList off .disabled else off)
              ∧ u.drainList = s.drainList.filter (fun x => x ≠ t) ∧ (t ∈ s.drainList → u.trigger = true))
           ∧ (old.enabled = false → new.enabled = true → (s.tank t).phase = .offline → ownChannels s t →
              u.tank t = weighed s.rain.catchment { k with
                phase := if ∃ c, (s.channel c).binder = .tank t .level ∧ (s.channel c).status ≠ .fault then .unknown else .offline }
              ∧ u.drainList = s.drainList)
           ∧ (old.enabled = new.enabled → ownChannels s t →
              ((¬ thresholds ∨ ¬ evaluatesNow s t ∨ (s.tank t).held = none) →
                u.tank t = weighed s.rain.catchment k ∧ u.drainList = s.drainList)
              ∧ ∀ x, thresholds → evaluatesNow s t → (s.tank t).held = some x →
                  let after := evaluatedTank s.rain.catchment k x.fill s.partTime
                  let leaves := t ∈ s.drainList ∧ after.phase = .dry ∧ (s.tank t).phase ≠ .dry
                  u.tank t = (if leaves then outOfList after .drained else after)
                  ∧ u.drainList = (if leaves then s.drainList.filter (fun y => y ≠ t) else s.drainList)
                  ∧ (leaves → u.trigger = true ∧ (u.port h.port).notices &&& noticeWord .drainEnded ≠ 0#16))
           ∧ (t ∈ s.drainList →
                k.drain ≠ (s.tank t).drain ∨ (u.tank t).weight ≠ (s.tank t).weight
                  ∨ (old.stormSuspend ≠ new.stormSuspend ∧ s.rain.catchment = .storm ∧ (s.tank t).spilling = false
                      ∧ old.enabled = new.enabled) →
                u.trigger = true)))
    ∧ (∀ v, Admitted (.shapeSet h x v) h s b →
      (t ∈ s.drainList → exec (.shapeSet h x v) s = answered (s.during b) .refusedState [] b)
      ∧ (t ∉ s.drainList → shapeOk v = false → exec (.shapeSet h x v) s = answered (s.during b) .refusedRange [] b)
      ∧ (t ∉ s.drainList → shapeOk v = true → ∃ u, exec (.shapeSet h x v) s = answered u .done [] b
          ∧ (u.tank t).set = { (s.tank t).set with
              shape := (v.points.toList.take v.count.toNat).map (fun q => { level := q.level.toNat, volume := q.volume.toNat }) }
          ∧ (u.tank t).owner = (s.tank t).owner ∧ (u.tank t).grant = (s.tank t).grant
          ∧ onlyChanges [.tanks, .drains, .store, .save, .notices, .trigger] (s.during b) u
          ∧ (∀ k, k ≠ t → u.tank k = s.tank k) ∧ u.drains = s.drains
          ∧ ((u.tank t).set = (s.tank t).set → u = s.during b)
          ∧ ((u.tank t).set ≠ (s.tank t).set →
              let held := (s.tank t).held.map (fun x => heldOf (u.tank t).set.shape x.level)
              let k := { s.tank t with set := (u.tank t).set, held := held }
              ((s.tank t).held = none → u.tank t = k)
              ∧ ∀ x, held = some x → ownChannels s t →
                  (¬ evaluatesNow s t → u.tank t = k)
                  ∧ (evaluatesNow s t → u.tank t = evaluatedTank s.rain.catchment k x.fill s.partTime))))

/-- DRAIN_REQUEST brings m to m_limit and refuses an n above it. For a tank out of the list it is refused unless the tank is
WET or FULL; applied, the tank stands last in the list, QUEUED with reason NEW, with m, n and the part time, and an open
cycle with no admission volume yet takes the volume held. For a listed tank, in any phase, it replaces m and n, keeps place
and stamp, and notes a trigger exactly when one changed; that it answers DONE_CLAMPED for an m brought to m_limit also where
nothing changes is the model's choice (log entry 54) (R37, R80, R81). -/
def Obligations.DrainRequestRule : Prop :=
  ∀ (h : Head) (x : Byte) (m n : Word) (s : State) (b : Bundle) (t : Fin 8), Admitted (.drainRequest h x m n) h s b →
    t.val = x.toNat → (s.tank t).owner = portOwner h.port →
    let top := min m.toNat (s.tank t).set.mLimit
    let code : Code := if (s.tank t).set.mLimit < m.toNat then .doneClamped else .done
    (t ∉ s.drainList → (s.tank t).phase ≠ .wet → (s.tank t).phase ≠ .full →
      exec (.drainRequest h x m n) s = answered (s.during b) .refusedState [] b)
    ∧ (t ∈ s.drainList ∨ (s.tank t).phase = .wet ∨ (s.tank t).phase = .full → top < n.toNat →
        exec (.drainRequest h x m n) s = answered (s.during b) .refusedRange [] b)
    ∧ (t ∉ s.drainList → (s.tank t).phase = .wet ∨ (s.tank t).phase = .full → n.toNat ≤ top →
        ∃ u, exec (.drainRequest h x m n) s = answered u code [] b ∧ u.drainList = s.drainList ++ [t] ∧ u.trigger = true
          ∧ u.tank t = { s.tank t with
              openCycle := (s.tank t).openCycle.map (fun c =>
                match c.admission with
                | some _ => c
                | none => { c with admission := (s.tank t).held.map (fun x => x.volume) })
              drain := {
                status := .queued, reason := some .new
                request := some { m := top, n := n.toNat, stamp := s.partTime } } }
          ∧ (∀ k, k ≠ t → u.tank k = s.tank k) ∧ u.globalSerial = s.globalSerial
          ∧ onlyChanges [.tanks, .drains, .trigger] (s.during b) u)
    ∧ (∀ r, t ∈ s.drainList → (s.tank t).drain.request = some r → n.toNat ≤ top →
        ∃ u, exec (.drainRequest h x m n) s = answered u code [] b ∧ u.drainList = s.drainList
          ∧ u.trigger = (s.trigger || !(r.m == top && r.n == n.toNat))
          ∧ u.tank t = { s.tank t with
              drain := { (s.tank t).drain with request := some { r with m := top, n := n.toNat } } }
          ∧ (∀ k, k ≠ t → u.tank k = s.tank k) ∧ u.globalSerial = s.globalSerial
          ∧ onlyChanges [.tanks, .drains, .trigger] (s.during b) u)

/-- DRAIN_STOP of a tank out of the list is refused; applied, the tank leaves the list OUT with reason STOPPED, its grant and
its confirmed draw 0, settled, with serial and acked serial kept and a reallocation noted, to which the zeroing counts as
published (R82, R97, R109). -/
def Obligations.DrainStopLeaves : Prop :=
  ∀ (h : Head) (x : Byte) (s : State) (b : Bundle) (t : Fin 8), Admitted (.drainStop h x) h s b → t.val = x.toNat →
    (s.tank t).owner = portOwner h.port →
    (t ∉ s.drainList → exec (.drainStop h x) s = answered (s.during b) .refusedState [] b)
    ∧ (t ∈ s.drainList → ∃ u, exec (.drainStop h x) s = answered u .done [] b
        ∧ u.drainList = s.drainList.filter (fun k => k ≠ t) ∧ u.trigger = true
        ∧ u.tank t = { s.tank t with
            drain := { status := .out, reason := some .stopped, request := none }
            grant := { (s.tank t).grant with
              granted := 0, published := 0, confirmed := 0, unsettled := false, deadline := none, overdueSince := none } }
        ∧ (∀ k, k ≠ t → u.tank k = s.tank k) ∧ u.globalSerial = s.globalSerial
        ∧ onlyChanges [.tanks, .drains, .store, .notices, .trigger] (s.during b) u)

/-- GRANT_ACK, its checks in their order: a tank outside T0 to T7, a tank of another owner, another serial, a rate above the
grant, each with nothing changed; otherwise confirmed becomes the rate and acked serial the serial, the tank settles with no
deadline and is no longer overdue, and the answer is LATE if it was (R105). -/
def Obligations.GrantAckRule : Prop :=
  ∀ (h : Head) (x : Byte) (serial rate : Word) (s : State) (b : Bundle), Admitted (.grantAck h x serial rate) h s b →
    (8 ≤ x.toNat → exec (.grantAck h x serial rate) s = answered (s.during b) .refusedRange [] b)
    ∧ ∀ t : Fin 8, t.val = x.toNat →
      ((s.tank t).owner ≠ portOwner h.port → exec (.grantAck h x serial rate) s = answered (s.during b) .refusedOwner [] b)
      ∧ ((s.tank t).owner = portOwner h.port →
        (serial ≠ (s.tank t).grant.serial → exec (.grantAck h x serial rate) s = answered (s.during b) .stale [] b)
        ∧ (serial = (s.tank t).grant.serial → (s.tank t).grant.granted < rate.toNat →
            exec (.grantAck h x serial rate) s = answered (s.during b) .refusedRange [] b)
        ∧ (serial = (s.tank t).grant.serial → rate.toNat ≤ (s.tank t).grant.granted →
            ∃ u, exec (.grantAck h x serial rate) s =
                answered u (if (s.tank t).grant.overdueSince.isSome then .late else .done) [] b
              ∧ u.tank t = { s.tank t with grant := { (s.tank t).grant with
                  confirmed := rate.toNat, acked := serial, unsettled := false, deadline := none, overdueSince := none } }
              ∧ (∀ k, k ≠ t → u.tank k = s.tank k)
              ∧ ((s.tank t).grant.overdueSince.isSome → t ∈ s.drainList → u.trigger = true)
              ∧ onlyChanges [.tanks, .store, .notices, .trigger] (s.during b) u))

/-- CHANNEL_BIND and GAUGE_BIND: a channel out of range is refused; the level role of a listed tank keeps its channel; a
channel of another binder is refused with REFUSED_CLAIMED; a free channel takes the binder and its kind, with the parameters
carried at their nearest bounds, and starts, and a channel the binder held before is released. Where several of these hold,
the range is checked first, then the listed level role, then the other binder (log entry 22). The binder's block takes the
release, if there is one, and then the binding: an inactive edge of an ACTIVE spill switch, a FAULT left, the tank's phase
OFFLINE and UNKNOWN, the draw check cleared, the gauge UNBOUND with empty rings and AVAILABLE, each evaluated (R2, R3, R4, R5,
R7, R27, R42, R114, R125). -/
def Obligations.BindingTakesAChannel : Prop :=
  ∀ (h : Head) (s : State) (b : Bundle) (i : Instr) (binder : Binder) (named polarity debounce : Byte), Admitted i h s b →
    bindingOrder i h s binder named polarity debounce →
    (16 ≤ named.toNat → named ≠ 255#8 → exec i s = answered (s.during b) .refusedRange [] b)
    ∧ (levelListed s binder → (named = 255#8 ∨ ∃ c : Fin 16, c.val = named.toNat ∧ (s.channel c).binder ≠ binder) →
        exec i s = answered (s.during b) .refusedState [] b)
    ∧ (¬ levelListed s binder → ∀ c : Fin 16, c.val = named.toNat →
      ((s.channel c).binder ≠ .none → (s.channel c).binder ≠ binder → exec i s = answered (s.during b) .refusedClaimed [] b)
      ∧ ((s.channel c).binder = .none → (∀ d e, (s.channel d).binder = binder → (s.channel e).binder = binder → d = e) →
          ∃ u code, exec i s = answered u code [] b ∧ (code = .done ∨ code = .doneClamped)
            ∧ (u.channel c).binder = binder ∧ (u.channel c).kind = binderKind binder ∧ (u.channel c).status = .ok
            ∧ (u.channel c).active = false ∧ (u.channel c).settled = false ∧ (u.channel c).since = some s.clock
            ∧ (u.channel c).activeLow = decide (polarity.toNat % 2 = 1)
            ∧ (u.channel c).debounce = max 1 (min 50 debounce.toNat)
            ∧ u.channel c = startedChannel s (s.channel c) binder (carriedParams i)
            ∧ (code = .done ↔ paramsFit (binderKind binder) (carriedParams i))
            ∧ (∀ d, (s.channel d).binder = binder → (u.channel d).binder = .none ∧ (u.channel d).kind = .none)
            ∧ (∀ d, d ≠ c → (s.channel d).binder ≠ binder → u.channel d = s.channel d)
            ∧ onlyChanges [.channels, .tanks, .rain, .spill, .store, .save, .notices, .trigger] (s.during b) u
            ∧ ∃ freed bound told : State,
                ((∀ d, (s.channel d).binder ≠ binder) → freed = s.during b)
                ∧ (∀ d, (s.channel d).binder = binder → blockReleased (s.during b) freed d)
                ∧ onlyChanges [.channels] freed bound ∧ toldBound bound told binder ∧ onlyChanges [.save] told u))

/-- CHANNEL_BIND and GAUGE_BIND for the channel the binder holds, or for none: its parameters are replaced, each that its kind
uses at its nearest bound, with DONE exactly when none was moved, or it is released, its parameters kept; with none held, none
changes nothing. At a release the binder's block is told: an ACTIVE spill switch delivers its inactive edge first, a FAULT is
left with its record and notices, the tank goes OFFLINE, the draw check clears, the gauge is UNBOUND with empty rings and
evaluated. A changed polarity begins a settling at that moment, with the debounced state as it was, a changed gate or pulse
size begins a gate. A role byte above 2, whatever the owner of the tank, and a gauge outside G0 to G3 are refused (R1, R2, R3,
R4, R5, R9, R27, R42, R114, R125; log entries 12 and 22). -/
def Obligations.BindingKeepsOrReleases : Prop :=
  ∀ (h : Head) (s : State) (b : Bundle),
    (∀ (i : Instr) (binder : Binder) (named polarity debounce : Byte), Admitted i h s b →
      bindingOrder i h s binder named polarity debounce →
      (named = 255#8 → ¬ levelListed s binder → (∀ c, (s.channel c).binder ≠ binder) →
        exec i s = answered (s.during b) .done [] b)
      ∧ ∀ c : Fin 16, (∀ d, (s.channel d).binder = binder ↔ d = c) →
        (named = 255#8 → ¬ levelListed s binder →
          ∃ u, exec i s = answered u .done [] b ∧ u.channel c = releasedChannel (s.channel c)
            ∧ (∀ d, d ≠ c → u.channel d = s.channel d)
            ∧ onlyChanges [.channels, .tanks, .rain, .spill, .store, .save, .notices, .trigger] (s.during b) u
            ∧ ∃ freed, blockReleased (s.during b) freed c ∧ onlyChanges [.save] freed u)
        ∧ (c.val = named.toNat →
          ∃ u code, exec i s = answered u code [] b ∧ (code = .done ∨ code = .doneClamped)
            ∧ (code = .done ↔ paramsFit (binderKind binder) (carriedParams i))
            ∧ u.channel c = keptChannel s (s.channel c) binder (carriedParams i)
            ∧ (u.channel c).activeLow = decide (polarity.toNat % 2 = 1)
            ∧ (u.channel c).debounce = max 1 (min 50 debounce.toNat)
            ∧ (∀ d, d ≠ c → u.channel d = s.channel d) ∧ onlyChanges [.channels, .save] (s.during b) u))
    ∧ (∀ x r v, Admitted (.channelBind h x r v) h s b → 3 ≤ r.toNat →
        exec (.channelBind h x r v) s = answered (s.during b) .refusedRange [] b)
    ∧ (∀ x v, Admitted (.gaugeBind h x v) h s b → 4 ≤ x.toNat →
        exec (.gaugeBind h x v) s = answered (s.during b) .refusedRange [] b)

/-! ### Orders of the RECORD port -/

/-- CLOCK_SET refuses 0; otherwise civil time is set, and from then on advances with part time from the value carried
(R193). -/
def Obligations.ClockSetRule : Prop :=
  ∀ (h : Head) (v : Long) (s : State) (b : Bundle), Admitted (.clockSet h v) h s b →
    (v = 0#32 → exec (.clockSet h v) s = answered (s.during b) .refusedRange [] b)
    ∧ (v ≠ 0#32 → ∃ t, exec (.clockSet h v) s = answered t .done [] b ∧ t.civilTime = some v.toNat ∧ t.clock = s.clock
        ∧ (∀ later, t.clock ≤ later → ({ t with clock := later } : State).civilTime =
            some (v.toNat + (({ t with clock := later } : State).partTime - t.partTime)))
        ∧ t.stage = s.stage ∧ t.lines = s.lines ∧ t.bundle = some b ∧ t.eeprom = s.eeprom ∧ t.pending = s.pending
        ∧ onlyChanges [.outer, .store, .notices] (s.during b) t)

/-- READ_FROM sets the cursor to the number it carries, brought within the oldest and the next sequence number; a waiting
demand read stays only where the cursor lies on its page. ARCHIVE_UPTO at or below the mark changes nothing; above it the
mark becomes the number carried, or the next sequence number less 1 with DONE_CLAMPED; a change of the mark hands over an
ARCHIVE record with the old and the new mark, and then the reclaim check runs (R148, R149, R152, R158; log entries 27, 47 and 56). -/
def Obligations.ReadFromAndArchiveUpto : Prop :=
  ∀ (h : Head) (v : Long) (s : State) (b : Bundle),
    (Admitted (.readFrom h v) h s b → s.oldest ≤ s.store.nextSeq →
      let n := if v.toNat < s.oldest then s.oldest else if s.store.nextSeq < v.toNat then s.store.nextSeq else v.toNat
      exec (.readFrom h v) s =
        answered ((s.during b).modStore (fun q =>
          { q with cursor := n, demand := q.demand.filter (fun r => (s.pageAt n).any (fun y => y.1 = r)) }))
          (if n = v.toNat then .done else .doneClamped) [] b)
    ∧ (Admitted (.archiveUpto h v) h s b →
      (v.toNat ≤ s.store.archiveMark → exec (.archiveUpto h v) s = answered (s.during b) .done [] b)
      ∧ (s.store.archiveMark < v.toNat → s.store.archiveMark < s.store.nextSeq →
          ∃ t, exec (.archiveUpto h v) s = answered t (if v.toNat < s.store.nextSeq then .done else .doneClamped) [] b
            ∧ t.store.archiveMark = min v.toNat (s.store.nextSeq - 1) ∧ t.store.cursor = s.store.cursor
            ∧ onlyChanges [.store, .notices] (s.during b) t
            ∧ (let mark := min v.toNat (s.store.nextSeq - 1)
               let raised := (s.during b).modStore (fun q => { q with archiveMark := mark })
               let noted := raised.archiveRecord s.store.archiveMark mark
               (mark = s.store.archiveMark → t = s.during b)
               ∧ (mark ≠ s.store.archiveMark →
                   (s.store.nextSeq < 4294967295 → s.store.queue.length < 32 →
                     joined s noted (recordOf s s.store.nextSeq 12 255 (beBytes 4 s.store.archiveMark ++ beBytes 4 mark)))
                   ∧ reclaimChecked noted t))))

/-- READ_NEXT by its cases: END at the next sequence number; GAP with the cursor below the oldest, to which it moves; a held
record that is the lowest at or above the cursor, with its 32 bytes; on a page of the array BUSY with a demand read until it
is in a buffer, then its record, or DAMAGED with the numbers lost where its data check failed. Whether a page or a held record
is the lowest follows the newest page: its own records where it is VALID, its whole range where it is DAMAGED (R159, R160,
R194; log entries 25, 48 and 56). -/
def Obligations.ReadNextRule : Prop :=
  ∀ (h : Head) (s : State) (b : Bundle), Admitted (.readNext h) h s b →
    (s.store.cursor = s.store.nextSeq → exec (.readNext h) s = answered (s.during b) .atEnd [] b)
    ∧ (s.store.cursor ≠ s.store.nextSeq → s.store.cursor < s.oldest →
        exec (.readNext h) s = answered ((s.during b).modStore (fun v => { v with cursor := s.oldest })) .gap (beBytes 4 s.oldest) b)
    ∧ (s.store.cursor ≠ s.store.nextSeq → s.oldest ≤ s.store.cursor →
        (∀ r, s.programmedAbove s.store.cursor = false →
          s.heldRecords.find? (fun x => decide (s.store.cursor ≤ recordSequence x)) = some r →
          exec (.readNext h) s =
            answered ((s.during b).modStore (fun v => { v with cursor := recordSequence r + 1 })) .done (padTo 32 r) b)
        ∧ ∀ r e stop, s.programmedAbove s.store.cursor = true → s.pageAt s.store.cursor = some (r, e, stop) →
          (s.buffered r = none → s.loading r = false →
            exec (.readNext h) s = answered ((s.during b).modStore (fun v =>
              { v with demand := some r, prefetch := v.prefetch.filter (fun q => q.ref ≠ r) })) .busy [] b)
          ∧ (s.buffered r = none → s.loading r = true → exec (.readNext h) s = answered (s.during b) .busy [] b)
          ∧ (∀ q x, s.buffered r = some q → q.sound = true →
              q.records.find? (fun y => decide (s.store.cursor ≤ recordSequence y)) = some x →
              exec (.readNext h) s = answered ((s.during b).modStore (fun v =>
                { v with cursor := recordSequence x + 1, served := some r })) .done (padTo 32 x) b)
          ∧ ∀ q, s.buffered r = some q → q.sound = false →
              exec (.readNext h) s = answered ((s.during b).modStore (fun v => { v with cursor := stop }))
                .damaged (beBytes 4 e.first ++ beBytes 4 (stop - 1)) b)

/-- CLOSE_PERIOD is refused with no outfall enabled and answers BUSY without room in the queue; otherwise a PERIOD record is
handed over for each enabled outfall in index order, with the totals being closed and the new period number, then the period
number moves on and every enabled outfall's totals are 0, its phase and its event as they were (R135, R136, R138). -/
def Obligations.ClosePeriodRule : Prop :=
  ∀ (h : Head) (s : State) (b : Bundle), Admitted (.closePeriod h) h s b →
    let n := ((List.finRange 8).filter s.outfallEnabled).length
    (n = 0 → exec (.closePeriod h) s = answered (s.during b) .refusedState [] b)
    ∧ (n ≠ 0 → 32 < s.store.queue.length + n → exec (.closePeriod h) s = answered (s.during b) .busy [] b)
    ∧ (n ≠ 0 → s.store.queue.length + n ≤ 32 → ∃ t, exec (.closePeriod h) s = answered t .done [] b
        ∧ t.spill.periodNumber = (if s.spill.periodNumber = 4294967295 then 1 else s.spill.periodNumber + 1)
        ∧ (∀ o, t.outfall o = if s.outfallEnabled o then { s.outfall o with count := 0, seconds := 0 } else s.outfall o)
        ∧ t.spill.set = s.spill.set ∧ onlyChanges [.spill, .store, .notices] (s.during b) t
        ∧ (s.store.nextSeq + n ≤ 4294967295 → t.heldRecords = s.heldRecords
            ++ ((List.finRange 8).filter s.outfallEnabled).mapIdx (fun i o => recordOf s (s.store.nextSeq + i) 7 o.val
              (totalsFields t.spill.periodNumber 0 0 ++ eventFields (s.store.nextSeq + i) (s.outfall o).event
                ++ beBytes 2 (min (s.outfall o).count 65535) ++ beBytes 3 (min (s.outfall o).seconds 16777215)))))

/-- SPILL_SET refuses a dry gauge that names none; GAUGE_SET refuses thresholds that, brought within 0 to 10,000, are out of
order: an exit value not below the entry value of its level and figure, or entry values that fall from WATCH to WARN to STORM.
Otherwise each value is held at its nearest bound, with DONE exactly when none was moved. A changed T_on whose new expiry is
past takes a PENDING outfall to SPILLING from its pending start, a changed T_off a TRAILING one to QUIET; any other outfall
stands. A changed tip depth or threshold is evaluated once, after which a changed T_clear whose new expiry is past takes the
level one down (R47, R49, R52, R53, R121, R123, R137). -/
def Obligations.RecordSettings : Prop :=
  ∀ (h : Head) (s : State) (b : Bundle),
    (∀ v, Admitted (.spillSet h v) h s b →
      (4 ≤ v.dryGauge.toNat → v.dryGauge ≠ 255#8 → exec (.spillSet h v) s = answered (s.during b) .refusedRange [] b)
      ∧ ∀ g : Option (Fin 4), (g = none ∧ v.dryGauge = 255#8 ∨ ∃ k, g = some k ∧ k.val = v.dryGauge.toNat) →
        ∃ t code, exec (.spillSet h v) s = answered t code [] b ∧ (code = .done ∨ code = .doneClamped)
          ∧ (code = .done ↔ 1 ≤ v.w1.toNat ∧ v.w1.toNat ≤ 48 ∧ 1 ≤ v.w2.toNat ∧ v.w2.toNat ≤ 48 ∧ v.tOn.toNat ≤ 600
              ∧ v.tOff.toNat ≤ 3600 ∧ 500 ≤ v.p.toNat ∧ v.p.toNat ≤ 1000 ∧ v.dDry.toNat ≤ 250)
          ∧ t.spill.set = {
              w1 := max 1 (min 48 v.w1.toNat), w2 := max 1 (min 48 v.w2.toNat), tOn := min 600 v.tOn.toNat,
              tOff := min 3600 v.tOff.toNat, p := max 500 (min 1000 v.p.toNat), dDry := min 250 v.dDry.toNat, dryGauge := g }
          ∧ onlyChanges [.spill, .tanks, .store, .save, .notices, .trigger] (s.during b) t
          ∧ (let set : State := { s with spill := { s.spill with set := t.spill.set } }
             let enters := fun (o : Fin 8) (start : Nat) =>
               t.spill.set.tOn ≠ s.spill.set.tOn ∧ (s.outfall o).phase = .pending start ∧ start + t.spill.set.tOn ≤ s.partTime
             let quiets := fun (o : Fin 8) (start : Nat) =>
               t.spill.set.tOff ≠ s.spill.set.tOff ∧ (s.outfall o).phase = .trailing start ∧ start + t.spill.set.tOff ≤ s.partTime
             t.spill = { s.spill with set := t.spill.set, outfalls := t.spill.outfalls }
             ∧ (∀ o start, enters o start →
                 (t.outfall o).phase = .spilling start ∧ (t.outfall o).event.isSome ∧ (t.tank o).spilling = true
                 ∧ (t.port .record).notices &&& noticeWord .spill ≠ 0#16
                 ∧ ((∀ k other, enters k other → k = o) → spillEntered set t o start))
             ∧ (∀ o start, quiets o start → t.outfall o = { s.outfall o with phase := .quiet } ∧ t.tank o = s.tank o
                 ∧ (t.port .record).notices &&& noticeWord .spill ≠ 0#16)
             ∧ ∀ o, (∀ start, ¬ enters o start) → (∀ start, ¬ quiets o start) →
                 t.outfall o = s.outfall o ∧ t.tank o = s.tank o))
    ∧ (∀ v, Admitted (.gaugeSet h v) h s b →
      let fit := fun w : Word => min 10000 w.toNat
      let below := fun x : ThresholdOperand => fit x.exitI < fit x.entryI ∧ fit x.exitD < fit x.entryD
      let ordered := below v.watch ∧ below v.warn ∧ below v.storm
        ∧ fit v.watch.entryI ≤ fit v.warn.entryI ∧ fit v.warn.entryI ≤ fit v.storm.entryI
        ∧ fit v.watch.entryD ≤ fit v.warn.entryD ∧ fit v.warn.entryD ≤ fit v.storm.entryD
      let held := fun x : ThresholdOperand =>
        ({ entryI := fit x.entryI, entryD := fit x.entryD, exitI := fit x.exitI, exitD := fit x.exitD } : Threshold)
      let inRange := fun x : ThresholdOperand =>
        x.entryI.toNat ≤ 10000 ∧ x.entryD.toNat ≤ 10000 ∧ x.exitI.toNat ≤ 10000 ∧ x.exitD.toNat ≤ 10000
      (¬ ordered → exec (.gaugeSet h v) s = answered (s.during b) .refusedRange [] b)
      ∧ (ordered → ∃ t code, exec (.gaugeSet h v) s = answered t code [] b ∧ (code = .done ∨ code = .doneClamped)
          ∧ (code = .done ↔ inRange v.watch ∧ inRange v.warn ∧ inRange v.storm ∧ 5 ≤ v.tClear.toNat ∧ v.tClear.toNat ≤ 120
              ∧ ∀ g, 1 ≤ (v.tips.get g).toNat ∧ (v.tips.get g).toNat ≤ 10)
          ∧ t.gaugeSettings = {
              tips := v.tips.map (fun x => max 1 (min 10 x.toNat)), watch := held v.watch, warn := held v.warn,
              storm := held v.storm, tClear := max 5 (min 120 v.tClear.toNat) }
          ∧ onlyChanges [.rain, .tanks, .store, .save, .notices, .trigger] (s.during b) t
          ∧ ∃ u w : State,
              (let set : State := { s.during b with rain := { s.rain with
                 gauges := Vector.ofFn (fun g => { s.gauge g with tipDepth := t.gaugeSettings.tips.get g })
                 watch := t.rain.watch, warn := t.rain.warn, storm := t.rain.storm, tClear := t.rain.tClear } }
               if { s.gaugeSettings with tClear := t.rain.tClear } = t.gaugeSettings then u = set else evaluated set u)
              ∧ (if t.rain.tClear ≠ s.rain.tClear ∧ ∃ start, u.rain.timer = some start ∧ start + 60 * t.rain.tClear ≤ s.partTime then
                   steppedDown u w
                 else w = u)
              ∧ t = { w with save := t.save }))

/-! ### The measurement lines -/

/-- A raw line takes a level; at a bound channel in RUNNING a level against the debounced state begins a candidate now, one
that agrees drops it, and a settling begins anew (R7, R8). -/
def Obligations.RawLineChangeRule : Prop :=
  ∀ (c : Fin 16) (high : Bool) (s : State), s.bundle = none → s.lines.get c ≠ high →
    exec (.rawLineChange c high) s = .next
      (if s.stage = .running ∧ (s.channel c).binder ≠ .none then
        ({ s with lines := put s.lines c high } : State).modChannel c (fun k =>
          { k with since := if k.settled = true ∧ (high != k.activeLow) = k.active then none else some s.clock })
       else { s with lines := put s.lines c high })

/-- A candidate held for the debounce time is accepted: the debounced state takes the new value and the edge is acted on by the
binder. A draw channel or the leg meter counts one pulse, up to 65,535, at an active edge. A RAIN channel's active edge is a
rejected tip under the lockout and otherwise an accepted tip, which every ring counts and an evaluation follows; its inactive
edge ends a FAULT. A LEVEL channel's active edge, at the instant the line changed, closes a period of less than 65,535
microseconds and begins the next, and its inactive edge ends the active time; a period at its limit is discarded with
SATURATED from OK. A SPILL channel's edge moves its outfall. A settling ends with the debounced state taken from the line by
its polarity; on a RAIN channel it starts or stops the stuck timing, or ends a FAULT where it finds INACTIVE. A RAIN channel
ACTIVE for 10 s becomes FAULT and its gauge is no longer AVAILABLE; no other channel changes (R7, R8, R10, R11, R12, R16, R17,
R42, R43, R120 to R123; log entries 11, 12, 13 and 16). -/
def Obligations.DebounceSettleAndStuck : Prop :=
  ∀ (c : Fin 16) (s : State) (since : Nat), Open s → (s.channel c).binder ≠ .none →
    ((s.channel c).since = some since → since + 1000 * (s.channel c).debounce ≤ s.clock →
      ((s.channel c).settled = true →
        ∃ t, exec (.debounceAccept c) s = ended t
          ∧ t.channel c = { s.channel c with
              active := !(s.channel c).active, since := none, status := (t.channel c).status, rain := (t.channel c).rain,
              level := (t.channel c).level, flow := (t.channel c).flow }
          ∧ (∀ d, d ≠ c → t.channel d = s.channel d)
          ∧ onlyChanges [.channels, .tanks, .rain, .spill, .store, .notices, .trigger] s t
          ∧ ((s.channel c).binder = .legMeter ∨ (∃ k, (s.channel c).binder = .tank k .draw) →
              t = s.modChannel c (fun k => { k with
                active := !k.active, since := none,
                flow := { k.flow with pulses := if k.active then k.flow.pulses else min 65535 (k.flow.pulses + 1) } }))
          ∧ (∀ g, (s.channel c).binder = .gauge g → (s.channel c).active = false →
              let stuck := if (s.channel c).status = .fault then none else some s.partTime
              ((∃ x, (s.channel c).rain.lastTip = some x ∧ s.clock < x + 1000 * (s.channel c).lockout) →
                t = (s.modChannel c (fun k => { k with
                  active := true, since := none, rain := { k.rain with stuckFrom := stuck } })).modGauge g (fun q =>
                    { q with rejected := min (q.rejected + 1) 65535 }))
              ∧ ((∀ x, (s.channel c).rain.lastTip = some x → x + 1000 * (s.channel c).lockout ≤ s.clock) →
                evaluated ((s.modChannel c (fun k => { k with
                  active := true, since := none, rain := { lastTip := some s.clock, stuckFrom := stuck } })).modGauge g (fun q =>
                    { q with five := q.five.modifyHead (fun n => min (n + 1) 65535)
                             hourly := q.hourly.modifyHead (fun n => min (n + 1) 65535), totalTips := q.totalTips + 1#32 })) t))
          ∧ (∀ g, (s.channel c).binder = .gauge g → (s.channel c).active = true →
              t.channel c = { s.channel c with
                active := false, since := none, rain := { (s.channel c).rain with stuckFrom := none }
                status := if (s.channel c).status = .fault then .ok else (s.channel c).status }
              ∧ ((s.channel c).status = .fault → (t.gauge g).avail = .available
                  ∧ (t.port .record).notices &&& noticeWord .channel ≠ 0#16)
              ∧ ((s.channel c).status ≠ .fault → onlyChanges [.channels] s t))
          ∧ (∀ k, (s.channel c).binder = .tank k .level →
              onlyChanges [.channels] s t
              ∧ ((s.channel c).active = false →
                (∀ start fall, (s.channel c).level.period = some { start := start, fall := some fall } → since - start < 65535 →
                  t.channel c = { s.channel c with
                    active := true, since := none
                    level := { (s.channel c).level with
                      sumActive := (s.channel c).level.sumActive + (fall - start)
                      sumPeriod := (s.channel c).level.sumPeriod + (since - start), period := some { start := since, fall := none } } })
                ∧ (∀ start fall, (s.channel c).level.period = some { start := start, fall := some fall } → 65535 ≤ since - start →
                  t.channel c = { s.channel c with
                    active := true, since := none, status := if (s.channel c).status = .ok then .saturated else (s.channel c).status
                    level := { (s.channel c).level with period := some { start := since, fall := none } } })
                ∧ ((∀ start fall, (s.channel c).level.period ≠ some { start := start, fall := some fall }) →
                  t.channel c = { s.channel c with
                    active := true, since := none
                    level := { (s.channel c).level with period := some { start := since, fall := none } } }))
              ∧ ((s.channel c).active = true →
                (∀ q, (s.channel c).level.period = some q → since - q.start < 65535 →
                  t.channel c = { s.channel c with
                    active := false, since := none
                    level := { (s.channel c).level with period := some { q with fall := some since } } })
                ∧ (∀ q, (s.channel c).level.period = some q → 65535 ≤ since - q.start →
                  t.channel c = { s.channel c with
                    active := false, since := none, status := if (s.channel c).status = .ok then .saturated else (s.channel c).status
                    level := { (s.channel c).level with period := none } })
                ∧ ((s.channel c).level.period = none → t.channel c = { s.channel c with active := false, since := none })))
          ∧ ∀ k, (s.channel c).binder = .tank k .spill →
              switched (s.modChannel c (fun q => { q with active := !q.active, since := none })) t k (!(s.channel c).active))
      ∧ ((s.channel c).settled = false →
        ∃ t, exec (.channelSettle c) s = ended t
          ∧ t.channel c = { s.channel c with
              active := s.lines.get c != (s.channel c).activeLow, settled := true, since := none,
              status := (t.channel c).status, rain := (t.channel c).rain }
          ∧ (∀ d, d ≠ c → t.channel d = s.channel d)
          ∧ onlyChanges [.channels, .tanks, .rain, .spill, .store, .notices, .trigger] s t
          ∧ ((s.channel c).binder = .legMeter ∨ (∃ k, (s.channel c).binder = .tank k .draw ∨ (s.channel c).binder = .tank k .level) →
              onlyChanges [.channels] s t ∧ (t.channel c).status = (s.channel c).status ∧ (t.channel c).rain = (s.channel c).rain)
          ∧ (∀ g, (s.channel c).binder = .gauge g →
              let active := s.lines.get c != (s.channel c).activeLow
              let settled := fun r : RainRun => s.modChannel c (fun q =>
                { q with active := active, settled := true, since := none, rain := r })
              ((s.channel c).status ≠ .fault →
                t = settled { (s.channel c).rain with stuckFrom := if active then some s.partTime else none })
              ∧ ((s.channel c).status = .fault → active = true → t = settled (s.channel c).rain)
              ∧ ((s.channel c).status = .fault → active = false →
                  (t.channel c).status = .ok ∧ (t.channel c).rain = (s.channel c).rain ∧ (t.gauge g).avail = .available
                  ∧ (t.port .record).notices &&& noticeWord .channel ≠ 0#16))
          ∧ ∀ k, (s.channel c).binder = .tank k .spill →
              let settled := s.modChannel c (fun q => { q with
                active := s.lines.get c != q.activeLow, settled := true, since := none })
              ((s.lines.get c != (s.channel c).activeLow) = (s.channel c).active → t = settled)
              ∧ ((s.lines.get c != (s.channel c).activeLow) ≠ (s.channel c).active →
                  switched settled t k (s.lines.get c != (s.channel c).activeLow))))
    ∧ ∀ g, (s.channel c).kind = .rain → (s.channel c).binder = .gauge g → (s.channel c).status ≠ .fault →
        (s.channel c).rain.stuckFrom = some since → since + 10 ≤ s.partTime →
        ∃ t, exec (.rainStuck c) s = ended t
          ∧ t.channel c = { s.channel c with status := .fault, rain := { (s.channel c).rain with stuckFrom := none } }
          ∧ (t.gauge g).avail = .fault ∧ (∀ d, d ≠ c → t.channel d = s.channel d)
          ∧ onlyChanges [.channels, .tanks, .rain, .store, .notices, .trigger] s t

/-- The timed steps of a LEVEL channel: a period at its limit is discarded with SATURATED from OK; a second without a
completed period, or with a duty out of range, moves no running value; a duty in range becomes the last sample and the status
OK; 5 s without one give STALE, 60 s give FAULT and the tank OFFLINE. The sample gives the tank its level, volume and fill, its
phase, raw band, band and weight, and opens, moves or closes its capture cycle; a tank whose level returns from FAULT is
UNKNOWN first; a listed tank that becomes DRY leaves the drain list, its grant 0 at once; a trigger is noted where a listed tank leaves it, comes
out of UNKNOWN or changes its weight (R12 to R15, R26 to R30, R32 to R39, R83, R86, R95). -/
def Obligations.LevelChannelSteps : Prop :=
  ∀ (c : Fin 16) (t : Fin 8) (s : State), Open s → (s.channel c).kind = .level → (s.channel c).binder = .tank t .level →
    (∀ q, (s.channel c).level.period = some q → q.start + 65535 ≤ s.clock → (s.channel c).since = none →
      exec (.levelSaturate c) s = ended (s.modChannel c (fun k =>
        { k with level := { k.level with period := none }, status := if k.status = .ok then .saturated else k.status })))
    ∧ ((s.channel c).level.sampledAt < s.partTime → (s.channel c).level.sumPeriod = 0 →
        exec (.levelSample c) s = ended (s.modChannel c (fun k =>
          { k with level := { k.level with sumActive := 0, sumPeriod := 0, sampledAt := s.partTime } })))
    ∧ ((s.channel c).level.sampledAt < s.partTime → (s.channel c).level.sumPeriod ≠ 0 →
        mapDuty (s.tank t).set (1000 * (s.channel c).level.sumActive / (s.channel c).level.sumPeriod) = none →
        exec (.levelSample c) s = ended (s.modChannel c (fun k =>
          { k with level := { k.level with sumActive := 0, sumPeriod := 0, sampledAt := s.partTime } })))
    ∧ (∀ level clamped, (s.channel c).level.sampledAt < s.partTime → (s.channel c).level.sumPeriod ≠ 0 →
        mapDuty (s.tank t).set (1000 * (s.channel c).level.sumActive / (s.channel c).level.sumPeriod) = some (level, clamped) →
        ∃ u, exec (.levelSample c) s = ended u
          ∧ u.channel c = { s.channel c with
              status := .ok
              level := { (s.channel c).level with
                duty := some (1000 * (s.channel c).level.sumActive / (s.channel c).level.sumPeriod), level := some level,
                clamped := some clamped, lastValid := some s.partTime, reference := s.partTime, sumActive := 0, sumPeriod := 0,
                sampledAt := s.partTime } }
          ∧ (u.tank t).held = some (heldOf (s.tank t).set.shape level) ∧ (u.tank t).clamped = clamped
          ∧ (∀ d, d ≠ c → u.channel d = s.channel d) ∧ (∀ k, k ≠ t → u.tank k = s.tank k)
          ∧ onlyChanges [.channels, .tanks, .drains, .store, .notices, .trigger] s u ∧ u.globalSerial = s.globalSerial
          ∧ ((∀ d, (s.channel d).binder = .tank t .level → d = c) →
              let k := if (s.channel c).status = .fault ∧ (s.tank t).set.enabled = true ∧ (s.tank t).phase = .offline then
                { s.tank t with phase := .unknown } else s.tank t
              let after := sampledTank s.rain.catchment k (heldOf (s.tank t).set.shape level) clamped s.partTime
              let leaves := t ∈ s.drainList ∧ after.phase = .dry ∧ k.phase ≠ .dry
              u.tank t = (if leaves then outOfList after .drained else after)
              ∧ u.drainList = (if leaves then s.drainList.filter (fun x => x ≠ t) else s.drainList)
              ∧ (leaves → ∀ p, (s.tank t).owner ≠ .nobody → (s.tank t).owner = portOwner p →
                  (u.port p).notices &&& noticeWord .drainEnded ≠ 0#16)
              ∧ (u.trigger = true ↔ s.trigger = true ∨ leaves
                  ∨ (t ∈ s.drainList ∧ (k.phase = .unknown ∨ after.weight ≠ k.weight)))))
    ∧ ((s.channel c).status = .ok ∨ (s.channel c).status = .saturated → (s.channel c).level.reference + 5 ≤ s.partTime →
        exec (.levelStaleTimeout c) s = ended (s.modChannel c (fun k => { k with status := .stale })))
    ∧ ((s.channel c).status ≠ .fault → (s.channel c).level.reference + 60 ≤ s.partTime →
        ∃ u, exec (.levelFaultTimeout c) s = ended u ∧ u.channel c = { s.channel c with status := .fault }
          ∧ u.tank t = { s.tank t with phase := .offline }
          ∧ (∀ d, d ≠ c → u.channel d = s.channel d) ∧ (∀ k, k ≠ t → u.tank k = s.tank k)
          ∧ onlyChanges [.channels, .tanks, .store, .notices, .trigger] s u)

/-- A gate ends with the rate and volume of its pulses, and the next gate begins where it ended. A draw channel's rate is held
against the higher of granted and confirmed with the tolerance: the third gate in a row above it sets the overdraw flag, with
OVERDRAW on the tank's owner and WORKS, and one that is not clears it; its volume joins the open cycle of a DRAINING tank. The
leg meter's rate is held against A_eff with its tolerance in the same way, with LEG_EXCESS on WORKS (R16, R37, R113, R115). -/
def Obligations.GateEndRule : Prop :=
  ∀ (c : Fin 16) (s : State), Open s → (s.channel c).kind = .flow →
    (s.channel c).flow.gateStart + (s.channel c).gate ≤ s.partTime →
    let rate := (s.channel c).flow.pulses * (s.channel c).tenths / (10 * (s.channel c).gate)
    let litres := (s.channel c).flow.pulses * (s.channel c).tenths / 10
    ∃ t, exec (.gateEnd c) s = ended t
      ∧ t.channel c = { s.channel c with
          status := if (s.channel c).flow.pulses = 65535 then .saturated else .ok
          flow := {
            pulses := 0, gateStart := (s.channel c).flow.gateStart + (s.channel c).gate, rate := some rate, litres := some litres } }
      ∧ (∀ d, d ≠ c → t.channel d = s.channel d) ∧ onlyChanges [.channels, .tanks, .leg, .notices] s t
      ∧ (∀ k, (s.channel c).binder = .tank k .draw →
          let g := (s.tank k).grant
          let above := max g.granted g.confirmed + (s.tank k).set.tol < rate
          t.leg = s.leg ∧ (∀ x, x ≠ k → t.tank x = s.tank x)
          ∧ t.tank k = { s.tank k with
              grant :=
                if ¬ above then { g with overCount := 0, overdraw := false }
                else if g.overdraw = true then g
                else if g.overCount < 2 then { g with overCount := g.overCount + 1 }
                else { g with overCount := 3, overdraw := true }
              openCycle :=
                if (s.tank k).drain.status = .draining then
                  (s.tank k).openCycle.map (fun x =>
                    if x.mode.isSome then { x with litres := min (x.litres + litres) 4294967295 } else x)
                else (s.tank k).openCycle }
          ∧ (above → g.overdraw = false → 2 ≤ g.overCount →
              (t.port .works).notices &&& noticeWord .overdraw ≠ 0#16
              ∧ ∀ p, (s.tank k).owner ≠ .nobody → (s.tank k).owner = portOwner p → (t.port p).notices &&& noticeWord .overdraw ≠ 0#16)
          ∧ (¬ (above ∧ g.overdraw = false ∧ 2 ≤ g.overCount) → t.ports = s.ports))
      ∧ ((s.channel c).binder = .legMeter →
          let above := s.allow.aEff + s.works.legTol < rate
          t.tanks = s.tanks
          ∧ t.leg =
              (if ¬ above then { excess := false, count := 0 }
               else if s.leg.excess = true then s.leg
               else if s.leg.count < 2 then { s.leg with count := s.leg.count + 1 }
               else { excess := true, count := 3 })
          ∧ (above → s.leg.excess = false → 2 ≤ s.leg.count → (t.port .works).notices &&& noticeWord .legExcess ≠ 0#16)
          ∧ (¬ (above ∧ s.leg.excess = false ∧ 2 ≤ s.leg.count) → t.ports = s.ports))

/-! ### The timers of the blocks -/

/-- A five-minute boundary drops the oldest bin of every ring of twelve and opens a bin of 0, and on the hour the same for
the twenty-four, and an evaluation follows. The clear timer's expiry lowers the catchment level by one, with its ALERT record
and notices, and an evaluation follows: the level is the higher of the lower level and the highest gauge level, and the timer
starts again only in the quiet condition of that level (R44, R45, R46, R48 to R52, R55). -/
def Obligations.RainTimers : Prop :=
  ∀ s : State, Open s →
    ((s.rain.boundary + 1) * 300 ≤ s.partTime →
      ∃ u t, exec .binBoundary s = ended t ∧ t.rain.boundary = s.rain.boundary + 1
        ∧ (∀ g, (t.gauge g).five = ((0 :: (s.gauge g).five).take 12)
            ∧ (t.gauge g).hourly =
              (if (s.rain.boundary + 1) % 12 = 0 then (0 :: (s.gauge g).hourly).take 24 else (s.gauge g).hourly)
            ∧ (t.gauge g).totalTips = (s.gauge g).totalTips)
        ∧ onlyChanges [.rain, .tanks, .store, .notices, .trigger] s t
        ∧ u = { s with rain := { s.rain with boundary := s.rain.boundary + 1, gauges := u.rain.gauges } }
        ∧ (∀ g, u.gauge g = { s.gauge g with five := (t.gauge g).five, hourly := (t.gauge g).hourly }) ∧ evaluated u t)
    ∧ (∀ start, s.rain.timer = some start → start + 60 * s.rain.tClear ≤ s.partTime →
        ∃ t, exec .clearTimerExpiry s = ended t
          ∧ alertCode t.rain.catchment =
              (List.finRange 4).foldl (fun n g => max n (alertCode (levelMet s.rain (s.gauge g)))) (alertCode s.rain.catchment - 1)
          ∧ ((∀ g, (s.gauge g).avail ≠ .available) → alertCode t.rain.catchment = alertCode s.rain.catchment - 1)
          ∧ (quietNow t.rain → t.rain.timer = some s.partTime) ∧ (¬ quietNow t.rain → t.rain.timer = none)
          ∧ onlyChanges [.rain, .tanks, .store, .notices, .trigger] s t ∧ steppedDown s t)

/-- The expiry of the active entry advances to a linked entry that PART holds, or stalls with its rate in force; the lease's
lapse freezes the schedule at the fallback, with the active entry's status and the remaining it has now, and LEASE on WORKS and
the sites; the hold's expiry ends the hold, with HOLD on them. Every other entry stands (R64, R66, R71, R74). -/
def Obligations.AllowanceTimers : Prop :=
  ∀ s : State, Open s → allowanceFormed s →
    (∀ e r, s.allow.sched = .running → s.allow.active = some e → (s.entry e).remaining = some r →
        r ≤ s.partTime - s.allow.runSince →
        ∃ t, exec .entryExpiry s = ended t ∧ t.allow.lease = s.allow.lease ∧ t.allow.hold = s.allow.hold
          ∧ onlyChanges [.allow, .store, .notices, .trigger] s t
          ∧ (t.port .works).notices &&& noticeWord .schedule ≠ 0#16 ∧ (∀ g, g ≠ e → t.entry g = s.entry g)
          ∧ ((∀ f, (s.entry e).link = some f → (s.entry f).byPart = false) →
              t.allow.sched = .stalled ∧ t.allow.active = some e ∧ t.allow.aEff = s.allow.aEff
                ∧ t.entry e = { s.entry e with status := .overrun, remaining := some 0 })
          ∧ ∀ f, (s.entry e).link = some f → (s.entry f).byPart = true → f ≠ e →
              t.allow.sched = .running ∧ t.allow.active = some f
                ∧ t.entry e = { s.entry e with byPart := false, status := .done, remaining := some 0 }
                ∧ t.allow.aEff = (if s.allow.hold.isSome then 0 else min (s.entry f).rate s.works.cLeg))
    ∧ (∀ start, (s.allow.sched = .running ∨ s.allow.sched = .stalled) → s.allow.lease = some start →
        start + 60 * s.works.tLease ≤ s.partTime →
        ∃ t, exec .leaseLapse s = ended t ∧ onlyChanges [.allow, .store, .notices, .trigger] s t
          ∧ t.allow.sched = .lapsed ∧ t.allow.active = s.allow.active ∧ t.allow.lease = none ∧ t.allow.hold = s.allow.hold
          ∧ (∀ e, t.entry e = { s.entry e with remaining := remainingAt s e })
          ∧ t.allow.aEff = (if s.allow.hold.isSome then 0 else min s.works.fallback s.works.cLeg)
          ∧ ∀ p, p = .works ∨ p = .siteA ∨ p = .siteB → (t.port p).notices &&& noticeWord .lease ≠ 0#16)
    ∧ (∀ until_, s.allow.hold = some until_ → until_ ≤ s.partTime →
        ∃ t, exec .holdExpiry s = ended t ∧ onlyChanges [.allow, .store, .notices, .trigger] s t
          ∧ t.allow = { s.allow with
              hold := none, aEff := min (allowanceBase { s with allow := { s.allow with hold := none } }) s.works.cLeg }
          ∧ ∀ p, p = .works ∨ p = .siteA ∨ p = .siteB → (t.port p).notices &&& noticeWord .hold ≠ 0#16)

/-- An unsettled tank at its deadline becomes overdue, with its confirmed draw kept: an OVERDUE record with cause DEADLINE,
OVERDUE on WORKS and on the owner's port, SETTLED on WORKS where it was the last tank unsettled and not overdue, and a trigger
where it is listed (R106, R108, R110, R111). -/
def Obligations.ConfirmDeadlineRule : Prop :=
  ∀ (t : Fin 8) (s : State) (d : Deadline), Open s → (s.tank t).grant.deadline = some d → d.due ≤ s.partTime →
    let waits := fun k : Fin 8 => (s.tank k).grant.unsettled = true ∧ (s.tank k).grant.overdueSince = none
    ∃ u, exec (.confirmDeadline t) s = ended u
      ∧ u.tank t = { s.tank t with
          grant := { (s.tank t).grant with overdueSince := some s.partTime, deadline := none } }
      ∧ (∀ k, k ≠ t → u.tank k = s.tank k)
      ∧ u.store = ((s.modGrant t (fun g => { g with overdueSince := some s.partTime, deadline := none })).overdueRecord t
          .deadline d.setAt).store
      ∧ (u.port .works).notices &&& noticeWord .overdue ≠ 0#16
      ∧ (∀ p, (s.tank t).owner ≠ .nobody → (s.tank t).owner = portOwner p → (u.port p).notices &&& noticeWord .overdue ≠ 0#16)
      ∧ (waits t → (∀ k, k ≠ t → ¬ waits k) → (u.port .works).notices &&& noticeWord .settled ≠ 0#16)
      ∧ (¬ waits t ∨ (∃ k, k ≠ t ∧ waits k) →
          (u.port .works).notices &&& noticeWord .settled = (s.port .works).notices &&& noticeWord .settled)
      ∧ u.trigger = (s.trigger || decide (t ∈ s.drainList))
      ∧ onlyChanges [.tanks, .store, .notices, .trigger] s u

/-- T_on's expiry takes a PENDING outfall to SPILLING from its pending start, with an event open; T_off's expiry takes a
TRAILING one to QUIET; the end of an interval begins the next block, or closes an event whose block went uncounted
(R121, R126, R123, R130). -/
def Obligations.SpillTimers : Prop :=
  ∀ (o : Fin 8) (s : State), Open s →
    (∀ start, (s.outfall o).phase = .pending start → start + s.spill.set.tOn ≤ s.partTime →
      ∃ t, exec (.tOnExpiry o) s = ended t ∧ (t.outfall o).phase = .spilling start ∧ (t.outfall o).event.isSome
        ∧ ((s.outfall o).event = none → (t.outfall o).count = min ((s.outfall o).count + 1) 65535)
        ∧ (t.outfall o).seconds = (s.outfall o).seconds ∧ (t.tank o).spilling = true
        ∧ (∀ k, k ≠ o → t.outfall k = s.outfall k ∧ t.tank k = s.tank k) ∧ onlyChanges [.spill, .tanks, .store, .notices, .trigger] s t)
    ∧ (∀ start, (s.outfall o).phase = .trailing start → start + s.spill.set.tOff ≤ s.partTime →
        ∃ t, exec (.tOffExpiry o) s = ended t ∧ t.outfall o = { s.outfall o with phase := .quiet }
          ∧ (∀ k, k ≠ o → t.outfall k = s.outfall k) ∧ (t.port .record).notices &&& noticeWord .spill ≠ 0#16
          ∧ onlyChanges [.spill, .notices] s t)
    ∧ (∀ v, (s.outfall o).event = some v → v.intervalEnd ≤ s.partTime →
        (v.interval ≠ 1 → v.counted = false →
          ∃ t, exec (.intervalEnd o) s = ended t ∧ t.outfall o = { s.outfall o with event := none }
            ∧ (∀ k, k ≠ o → t.outfall k = s.outfall k) ∧ onlyChanges [.spill, .store, .notices] s t)
        ∧ (v.interval = 1 ∨ v.counted = true →
            ∃ t w, exec (.intervalEnd o) s = ended t ∧ (t.outfall o).event = some w
              ∧ w.interval = min (v.interval + 1) 4294967295 ∧ w.intervalEnd = v.intervalEnd + 3600 * s.spill.set.w2
              ∧ w.opening = v.opening ∧ (w.counted = true ↔ ∃ start, (s.outfall o).phase = .spilling start)
              ∧ (t.outfall o).phase = (s.outfall o).phase ∧ (∀ k, k ≠ o → t.outfall k = s.outfall k)
              ∧ onlyChanges [.spill, .store, .notices] s t))

/-! ### The record store and its array -/

/-- The flush timer's expiry makes the assembly page due; a due page passes to a free program buffer with the records it
holds, and the assembly buffer takes records from the head of the queue (R144). -/
def Obligations.PageHandoverRule : Prop :=
  ∀ s : State, Open s →
    (∀ at_, s.store.flushAt = some at_ → at_ ≤ s.partTime →
      exec .flushTimerExpiry s = ended (s.modStore (fun v => { v with due := true, flushAt := none })))
    ∧ (s.store.due = true → s.store.program = none →
        ∃ t, exec .pageHandover s = ended t ∧ t.store.program = some s.store.assembly
          ∧ t.store.assembly = s.store.queue.take 16 ∧ t.store.queue = s.store.queue.drop 16
          ∧ t.store.nextSeq = s.store.nextSeq ∧ t.store.lost = s.store.lost ∧ t.heldRecords = s.heldRecords
          ∧ onlyChanges [.store] s t)

/-- A free array begins the waiting operation that stands first in the arbiter's order: a demand read; a program of the page in
the program buffer at the write point in READY, or in RELOCATING into an ERASED ahead block a copy of the next page before the
failed one, and then the program of that page; an erase of the ahead block that is prepared, with no outfall pending or in
FULL, not in WORN; a prefetch. The outfalls still pending at the start of an erase become owed where they are enabled, none is
pending then, and it is the only start that touches them. The ahead block is the next good block after the CURRENT one; the
reclaim check prepares it only where every number its pages cover lies at or below the archive mark, or it holds no page, and
not again where it is prepared already (R145, R146, R147, R148, R149, R154, R157; log entries 24 and 27). -/
def Obligations.ArbiterOrder : Prop :=
  ∀ s : State, Open s → s.store.op = none →
    (∀ r, s.store.demand = some r →
      exec .arrayOperationStart s = ended (s.modStore (fun v => { v with op := some (.read r none), demand := none })))
    ∧ (∀ c records (p : Fin 16), s.store.demand = none → s.store.state = .ready → s.store.current = some c →
        s.store.program = some records → s.store.writePage = p.val →
        exec .arrayOperationStart s = ended (s.modStore (fun v => { v with op := some (.program ⟨c, p⟩ false) })))
    ∧ (∀ c b q, s.store.demand = none → s.store.state = .relocating → s.store.current = some c → s.store.reloc = some q →
        s.ahead = some b → s.blockStatus b = .erased →
        (∀ p : Fin 16, p.val = q.next → q.next < q.page.val →
          exec .arrayOperationStart s = ended (s.modStore (fun v => { v with op := some (.copy p c b) })))
        ∧ (q.page.val ≤ q.next →
          exec .arrayOperationStart s = ended (s.modStore (fun v => { v with op := some (.program ⟨b, q.page⟩ true) }))))
    ∧ (let noProgram :=
         (s.store.state = .ready → s.store.current = none ∨ s.store.program = none ∨ 16 ≤ s.store.writePage)
         ∧ (s.store.state = .relocating → s.store.reloc = none ∨ ∀ b, s.ahead = some b → s.blockStatus b ≠ .erased)
       let noErase := s.store.state = .worn ∨ s.ahead = none
         ∨ ∀ os, s.store.prep = some os → os ≠ [] ∧ s.store.state ≠ .full
       s.store.demand = none → noProgram →
         (∀ b os, s.ahead = some b → s.store.prep = some os → os = [] ∨ s.store.state = .full → s.store.state ≠ .worn →
           ∃ t, exec .arrayOperationStart s = ended t
             ∧ t = s.modStore (fun v => { v with op := some (.erase b), prep := none, owed := t.store.owed })
             ∧ ∀ o, o ∈ t.finishEvent.store.owed ↔ (o ∈ s.store.owed ∨ o ∈ os) ∧ s.outfallEnabled o = true)
         ∧ (∀ q, noErase → s.store.prefetch = some q →
             exec .arrayOperationStart s =
               ended (s.modStore (fun v => { v with op := some (.read q.ref (some q.buffer)), prefetch := none }))))
    ∧ reclaimChecked s s.reclaimCheck
    ∧ ∀ b, s.ahead = some b ↔
        ∃ c i, s.store.current = some c ∧ 1 ≤ i ∧ i ≤ 63 ∧ b = Fin.ofNat 64 (c.val + i) ∧ s.blockStatus b ≠ .retired
          ∧ ∀ j, 1 ≤ j → j < i → s.blockStatus (Fin.ofNat 64 (c.val + j)) = .retired

/-- A program that completes frees the program buffer, holds the page's records in the array and the page table as VALID,
notes each counting record as its outfall's newest with the block, and moves the write point on; past page 15 the write point
enters the ahead block if that is ERASED, and otherwise the store becomes FULL. A program that fails leaves the records held
and begins a relocation. The program of a relocation that completes makes its block CURRENT and retires the old one (R146,
R149, R151, R153, R154; log entry 43). -/
def Obligations.PageProgramRule : Prop :=
  ∀ (s : State) (r : PageRef) (records : List (List Byte)), Open s → s.store.program = some records →
    (s.store.op = some (.program r false) →
      (∃ t, exec (.pageProgramComplete true) s = ended t ∧ t.store.op = none
          ∧ t.arrayPage r = programmedPage records ∧ (∀ q, q ≠ r → t.arrayPage q = s.arrayPage q)
          ∧ t.tableEntry r = some { first := (records.head?.map recordSequence).getD 0, count := records.length, valid := true }
          ∧ t.retired = s.retired ∧ t.freeIndex = s.freeIndex ∧ onlyChanges [.store, .media, .notices] s t
          ∧ t.store.program = none
          ∧ (∀ o, t.store.notes.get o =
              match (records.filter (fun x => isCounting x && decide (recordOutfall x = o))).getLast? with
              | some x => some { sequence := recordSequence x, block := r.block }
              | none => s.store.notes.get o)
          ∧ (∀ o, o ∈ t.store.owed ↔
              o ∈ s.store.owed ∧ s.outfallEnabled o = true ∧ ∀ x ∈ records, isCounting x = true → recordOutfall x ≠ o)
          ∧ (r.page ≠ 15 → t.store.program = none ∧ t.store.writePage = r.page.val + 1 ∧ t.store.current = s.store.current)
          ∧ (r.page = 15 → s.store.current = some r.block → s.store.state = .ready →
              (∀ b, s.ahead = some b → s.blockStatus b = .erased →
                t.store.current = some b ∧ t.store.writePage = 0 ∧ t.blockStatus b = .current ∧ t.blockStatus r.block = .filled)
              ∧ ((∀ b, s.ahead = some b → s.blockStatus b ≠ .erased) →
                s.store.nextSeq + (s.store.prep.getD []).length + s.store.owed.length < 4294967295 →
                t.store.state = .full ∧ t.store.current = some r.block ∧ (t.port .record).notices &&& noticeWord .store ≠ 0#16)))
      ∧ (s.store.state = .ready →
          ∃ t, exec (.pageProgramComplete false) s = ended t ∧ t.store.op = none ∧ t.store.program = some records
            ∧ (t.store.state = .relocating ∨ t.store.state = .full) ∧ t.store.reloc = some { page := r.page, next := 0 }
            ∧ (∀ q, q ≠ r → t.arrayPage q = s.arrayPage q) ∧ t.retired = s.retired
            ∧ onlyChanges [.store, .media, .notices] s t))
    ∧ (∀ c, s.store.op = some (.program r true) → s.store.current = some c → r.page ≠ 15 →
        ∃ t, exec (.pageProgramComplete true) s = ended t ∧ t.store.op = none ∧ t.store.program = none
          ∧ t.store.current = some r.block ∧ t.store.writePage = r.page.val + 1 ∧ t.store.reloc = none
          ∧ t.arrayPage r = programmedPage records ∧ t.blockStatus c = .retired
          ∧ onlyChanges [.store, .media, .save, .notices] s t)

/-- A copy or a program of a relocation that fails retires its block, with the records still held; an erase that fails
retires its block (R153, R155, R156). -/
def Obligations.FailedOperationsRetire : Prop :=
  ∀ s : State, Open s →
    (∀ r, s.store.op = some (.program r true) →
      ∃ t, exec (.pageProgramComplete false) s = ended t ∧ t.store.op = none ∧ t.blockStatus r.block = .retired
        ∧ t.store.program = s.store.program ∧ onlyChanges [.store, .media, .save, .notices] s t)
    ∧ (∀ page source target, s.store.op = some (.copy page source target) →
        ∃ t, exec (.relocationCopyComplete false) s = ended t ∧ t.store.op = none ∧ t.blockStatus target = .retired
          ∧ t.store.program = s.store.program ∧ onlyChanges [.store, .media, .save, .notices] s t)
    ∧ (∀ b, s.store.op = some (.erase b) →
        ∃ t, exec (.blockEraseComplete false) s = ended t ∧ t.store.op = none ∧ t.blockStatus b = .retired
          ∧ t.store.program = s.store.program ∧ onlyChanges [.store, .media, .save, .notices] s t)

/-- A copy carries the page as it stands into the ahead block and the relocation goes on with the next page; an erase leaves
every page of its block erased, and with the store FULL it ends FULL: a relocation that waits runs from its first page, and
with none the block becomes CURRENT with the write point at its page 0; a read leaves the page in a buffer and the array free,
the other buffer as it was. A prefetch fills the buffer it was queued for; a demand read fills an empty one, or the one without
the page the cursor was last served from, or with neither holding that the one loaded less recently, and then a prefetch of the
next page in write order is queued into the other buffer, unless that page is in a buffer or none follows, where a waiting one
stands (R150, R154, R155, R160; log entries 24, 43, 50 and 53). -/
def Obligations.CopyEraseAndRead : Prop :=
  ∀ s : State, Open s →
    (∀ page source target q, s.store.op = some (.copy page source target) → s.store.reloc = some q →
      ∃ t, exec (.relocationCopyComplete true) s = ended t ∧ t.store.op = none
        ∧ t.arrayPage ⟨target, page⟩ = s.arrayPage ⟨source, page⟩ ∧ t.store.reloc = some { q with next := page.val + 1 }
        ∧ t.store.state = s.store.state ∧ (∀ r, r ≠ ⟨target, page⟩ → t.arrayPage r = s.arrayPage r)
        ∧ t.retired = s.retired ∧ t.freeIndex = s.freeIndex ∧ onlyChanges [.store, .media] s t)
    ∧ (∀ b, s.store.op = some (.erase b) →
        ∃ t, exec (.blockEraseComplete true) s = ended t ∧ t.store.op = none
          ∧ (∀ p, t.arrayPage ⟨b, p⟩ = .erased) ∧ (s.store.state ≠ .full → t.blockStatus b = .erased)
          ∧ (∀ r, r.block ≠ b → t.arrayPage r = s.arrayPage r)
          ∧ t.retired = s.retired ∧ t.freeIndex = s.freeIndex ∧ onlyChanges [.store, .media, .notices] s t
          ∧ (∀ q, s.store.state = .full → s.store.reloc = some q →
              t.store.state = .relocating ∧ t.store.reloc = some { q with next := 0 } ∧ t.blockStatus b = .erased
                ∧ t.store.current = s.store.current)
          ∧ (s.store.state = .full → s.store.reloc = none →
              t.store.current = some b ∧ t.store.writePage = 0 ∧ t.blockStatus b = .current
                ∧ (∀ c, s.store.current = some c → c ≠ b → t.blockStatus c = .filled)
                ∧ (s.store.nextSeq + 8 < 4294967295 → t.store.state = .ready)))
    ∧ (∀ r target sound, s.store.op = some (.read r target) →
        ∃ t i, exec (.pageReadComplete sound) s = ended t ∧ t.store.op = none
          ∧ t.store.buffers.get i = some { ref := r, records := pageRecords (s.arrayPage r), sound := sound && pageSound (s.arrayPage r) }
          ∧ (∀ j, j ≠ i → t.store.buffers.get j = s.store.buffers.get j) ∧ t.store.newer = i
          ∧ t.store.cursor = s.store.cursor ∧ onlyChanges [.store] s t
          ∧ (∀ j, target = some j → i = j ∧ t.store.prefetch = s.store.prefetch)
          ∧ (target = none →
              let serves := fun j : Fin 2 => ∃ q, s.store.buffers.get j = some q ∧ s.store.served = some q.ref
              let inBuffer := fun x : PageRef => ∃ j q, t.store.buffers.get j = some q ∧ q.ref = x
              ((∃ j, s.store.buffers.get j = none) → s.store.buffers.get i = none)
              ∧ ((∀ j, s.store.buffers.get j ≠ none) →
                  (∀ j, serves j → ¬ serves (1 - j) → i = 1 - j) ∧ ((∀ j, ¬ serves j) → i = 1 - s.store.newer))
              ∧ ∃ l, inWriteOrder s l
                  ∧ (∀ k x, (l[k]?).map (fun q => q.1) = some r → (l[k + 1]?).map (fun q => q.1) = some x → ¬ inBuffer x →
                      t.store.prefetch = some { ref := x, buffer := 1 - i })
                  ∧ ((∀ k x, (l[k]?).map (fun q => q.1) = some r → (l[k + 1]?).map (fun q => q.1) = some x → inBuffer x) →
                      t.store.prefetch = s.store.prefetch)))

/-! ### The share-out and the shape table -/

/-- The share-out: passes over the tanks that take part, each of rounds of weighted shares in which a tank whose share reaches
its m takes its m, the last round with one litre of the leftover each for the first tanks of the list; a pass that leaves tanks
below their n is made again without the one of lowest weight, the latest of equal ones. It grants no more than A_eff in all,
only to the tanks of the last pass, each once, and to none more than its m or less than its n (R90, R91, R92, R93, R94). -/
def Obligations.ShareOutBounds : Prop :=
  ∀ (aEff : Nat) (l : List Claim), (l.map (fun c => c.tank)).Nodup →
    ((shareOut aEff l).map (fun g => g.2)).sum ≤ aEff ∧ ((shareOut aEff l).map (fun g => g.1)).Nodup
      ∧ (∀ t n, (t, n) ∈ shareOut aEff l → ∃ c ∈ l, c.tank = t ∧ n ≤ c.m ∧ c.n ≤ n)
      ∧ ∃ last, SharedOut aEff l last (grantOf (shareOut aEff l))
          ∧ ∀ t, (∃ g ∈ shareOut aEff l, g.1 = t) ↔ ∃ c ∈ last, c.tank = t

/-- A duty sample maps onto 0 to the span of the tank's duty map, linearly between its ends, held at an end up to 50
per-mille beyond it and discarded further out. An ordered shape table takes a level up to its first point to that point's
volume, one from its last point on to that point's, and one between two points to the volume between theirs in proportion,
rounded down, so that a higher level never has a lower volume; fill is the volume in per-mille of the last point's, rounded
down and at most 1000, and 0 with no capacity (R14, R26). -/
def Obligations.LevelAndVolumeMaps : Prop :=
  (∀ (v : TankSettings) (duty : Nat), 50 ≤ v.dLo → v.dLo ≤ 450 → 550 ≤ v.dHi → v.dHi ≤ 950 →
    mapDuty v duty =
      if v.dLo ≤ duty ∧ duty ≤ v.dHi then some ((duty - v.dLo) * v.span / (v.dHi - v.dLo), false)
      else if duty < v.dLo ∧ v.dLo ≤ duty + 50 then some (0, true)
      else if v.dHi < duty ∧ duty ≤ v.dHi + 50 then some (v.span, true)
      else none)
    ∧ ∀ (ps : List Point), pointsOrdered ps = true →
        (∀ a b, a ≤ b → volumeOf ps a ≤ volumeOf ps b)
        ∧ ∀ l : Nat,
            (∀ p, ps.head? = some p → l ≤ p.level → volumeOf ps l = p.volume)
            ∧ (∀ p, ps.getLast? = some p → p.level ≤ l → volumeOf ps l = p.volume)
            ∧ (∀ i p q, ps[i]? = some p → ps[i + 1]? = some q → p.level ≤ l → l < q.level →
                volumeOf ps l = p.volume + (l - p.level) * (q.volume - p.volume) / (q.level - p.level))
            ∧ ∀ p, ps.getLast? = some p → heldOf ps l = {
                level := l, volume := volumeOf ps l
                fill := if p.volume = 0 then 0 else min 1000 (1000 * volumeOf ps l / p.volume) }

/-! ### The records -/

/-- A record handed over takes the next sequence number, and with room in the queue it is held, last, until its page is
programmed: it stands in the assembly buffer at once where that has room, which a counting record or the sixteenth makes due
and the first of its page gives 30 s. With no room it is lost under its number; with no number left it is lost and the store
is WORN. Its bytes, with those of each kind, in which a field that the record does not carry is 0 (R18, R38, R55, R77, R108,
R126 to R131, R135, R138, R139, R142, R143, R144, R152, R153, R157, R162, R164, R193, R195; log entries 17, 29, 31, 40 and 46). -/
def Obligations.RecordHandOver : Prop :=
  ∀ s : State,
    let n := s.store.nextSeq
    (∀ (kind subject : Nat) (body : Nat → List Byte), kind < 16 →
      let q := s.handOver kind subject body
      let r := recordOf s n kind subject (body n)
      (n < 4294967295 → s.store.queue.length < 32 →
        q.1 = n ∧ q.2.store.nextSeq = n + 1 ∧ q.2.heldRecords = s.heldRecords ++ [r] ∧ q.2.store.lost = s.store.lost
        ∧ q.2.store.program = s.store.program ∧ (q.2.store.queue = [] ∨ 16 ≤ q.2.store.assembly.length)
        ∧ onlyChanges [.store] s q.2
        ∧ (s.store.queue = [] → s.store.assembly.length < 16 →
            q.2.store = { s.store with
              nextSeq := n + 1, assembly := s.store.assembly ++ [r]
              due := s.store.due || decide (3 ≤ kind ∧ kind ≤ 7) || decide (s.store.assembly.length = 15)
              flushAt := if s.store.assembly = [] then some (s.partTime + 30) else s.store.flushAt }))
      ∧ (n < 4294967295 → 32 ≤ s.store.queue.length →
        q.1 = n ∧ q.2 = (s.modStore (fun v => { v with nextSeq := n + 1, lost := min (v.lost + 1) 4294967295 })).notify .store .record)
      ∧ (4294967295 ≤ n →
        q.1 = 0 ∧ q.2 = (s.modStore (fun v => { v with lost := min (v.lost + 1) 4294967295, state := .worn })).notify .store .record))
    ∧ (n < 4294967295 → s.store.queue.length < 32 →
        let holds := joined s
        (∀ before : Option Nat, holds (s.clockRecord before) (recordOf s n 1 255
          (beBytes 4 (min (before.getD 0) 4294967295) ++ beBytes 4 (min (s.civilTime.getD 0) 4294967295) ++ beBytes 4 s.partTime)))
        ∧ (∀ old new : Nat, holds (s.archiveRecord old new) (recordOf s n 12 255 (beBytes 4 old ++ beBytes 4 new)))
        ∧ (∀ (before after : AlertLevel) (lead : Option (Fin 4)) (i15 d60 available : Nat),
            holds (s.alertRecord before after lead i15 d60 available) (recordOf s n 2 (match lead with | some g => g.val | none => 255)
              ([BitVec.ofNat 8 (alertCode before), BitVec.ofNat 8 (alertCode after), if lead.isSome then 0#8 else 1#8]
                ++ beBytes 2 (min i15 65535) ++ beBytes 2 (min d60 65535)
                ++ [if lead.isSome then 0#8 else BitVec.ofNat 8 s.rain.tClear, BitVec.ofNat 8 available])))
        ∧ (∀ (scanned : Bool) (bad closes : Nat), holds (s.startRecord scanned bad closes) (recordOf s n 0 255
            ([if scanned then 1#8 else 0#8, BitVec.ofNat 8 (goodBlocks s)] ++ beBytes 2 (min bad 65535) ++ [BitVec.ofNat 8 closes])))
        ∧ (∀ (c : Fin 16) (entered : Bool) (cause : FaultCause), holds (s.channelRecord c entered cause) (recordOf s n 9 c.val
            [BitVec.ofNat 8 (kindCode (s.channel c).kind), BitVec.ofNat 8 (binderByte (s.channel c).binder),
              if entered then 0#8 else 1#8, BitVec.ofNat 8 (causeCode cause)]))
        ∧ (∀ (t : Fin 8) (v : Cycle) (reason : EndReason), holds (s.cycleRecord t v reason) (recordOf s n 8
            (t.val + 8 * bit v.lateStart + 16 * modeCode v.mode + 64 * endCode reason)
            (beBytes 2 v.number.toNat ++ beBytes 4 (min (s.partTime - v.start) 4294967295) ++ beBytes 2 (min v.peakFill 65535)
              ++ beBytes 4 (min (v.peakTime - v.start) 4294967295)
              ++ beBytes 4 (match v.toFull with | some x => min x 4294967294 | none => 4294967295)
              ++ beBytes 4 (min (v.spillRef.getD 0) 4294967295) ++ beBytes 2 (min (v.returned.getD 0) 65535))))
        ∧ (∀ (t : Fin 8) (cause : OverdueCause) (time : Nat), holds (s.overdueRecord t cause time) (recordOf s n 11 t.val
            ([BitVec.ofNat 8 (overdueCauseCode cause), BitVec.ofNat 8 (ownerCode (s.tank t).owner)]
              ++ beBytes 2 (s.tank t).grant.serial.toNat ++ beBytes 2 (min (s.tank t).grant.granted 65535)
              ++ beBytes 2 (min (s.tank t).grant.confirmed 65535) ++ beBytes 2 (s.tank t).grant.acked.toNat
              ++ beBytes 4 (min time 4294967295))))
        ∧ (∀ (cause : AllowanceCause) (returned : Option (Fin 8)) (before : Nat),
            holds (s.allowanceRecord cause returned before) (recordOf s n 10 (match s.allow.active with | some e => e.val | none => 255)
              ([BitVec.ofNat 8 (allowanceCauseCode cause), BitVec.ofNat 8 (scheduleCode s.allow.sched)]
                ++ beBytes 2 (match s.allow.active with | some e => min (s.entry e).rate 65535 | none => 0)
                ++ [BitVec.ofNat 8 (match s.allow.active with | some e => entryStatusCode (s.entry e).status | none => 0),
                    BitVec.ofNat 8 (match returned with | some e => e.val | none => 255)]
                ++ beBytes 2 (min before 65535) ++ beBytes 2 (min s.allow.aEff 65535)
                ++ [if s.allow.hold.isSome then 1#8 else 0#8]
                ++ beBytes 2 (match s.allow.hold with | some x => min (x - s.partTime) 65535 | none => 0))))
        ∧ (∀ (b : Fin 64) (page : Option (Fin 16)), holds (s.retireBlock b page) (recordOf s n 13 b.val
            [if page.isSome then 0#8 else 1#8, BitVec.ofNat 8 (match page with | some p => p.val | none => 255),
              BitVec.ofNat 8 (goodBlocks (s.setStatus b .retired))]))
        ∧ (∀ (stored : List (List Byte × Fin 64)) (o : Fin 8) (newest : List Byte), interruptedRecord s stored o newest)
        ∧ ∀ o : Fin 8,
            spillRecords s o
            ∧ holds (s.periodRecord o) (recordOf s n 7 o.val
              (totalsFields (if s.spill.periodNumber = 4294967295 then 1 else s.spill.periodNumber + 1) 0 0
                ++ eventFields n (s.outfall o).event ++ beBytes 2 (min (s.outfall o).count 65535)
                ++ beBytes 3 (min (s.outfall o).seconds 16777215)))
            ∧ holds (s.reclaimTotals o) (recordOf s n 6 (o.val + 8)
              (totalsFields s.spill.periodNumber (s.outfall o).count (s.outfall o).seconds ++ eventFields n (s.outfall o).event))
            ∧ ∀ seconds : Nat, holds (s.stretchTotals o seconds) (recordOf s n 6 o.val
              (totalsFields s.spill.periodNumber (s.outfall o).count (s.outfall o).seconds ++ eventFields n (s.outfall o).event
                ++ beBytes 3 (min seconds 16777215))))
end

