-- ==== Sys2Proof/Laws/State.lean ====
section
/-! SUPPORT. One lemma per update of State: the fields it leaves, and what it puts where (section 2 of the strategies). -/

namespace Sys2Proof.Machine

theorem get_put_self {α : Type} {n : Nat} (v : Vector α n) (i : Fin n) (x : α) : (put v i x).get i = x := by
  simp [put, Vector.get_eq_getElem]

theorem get_put_of_ne {α : Type} {n : Nat} (v : Vector α n) (i j : Fin n) (x : α) (h : j ≠ i) :
    (put v i x).get j = v.get j := by
  have : i.val ≠ j.val := fun e => h (Fin.ext e.symm)
  simp [put, Vector.get_eq_getElem, this]

@[simp] theorem get_put {α : Type} {n : Nat} (v : Vector α n) (i j : Fin n) (x : α) :
    (put v i x).get j = if j = i then x else v.get j := by
  by_cases h : j = i
  · subst h
    simp [get_put_self]
  · simp [h, get_put_of_ne]

namespace State

variable (s : State)

@[simp] theorem modPort_rest (p : Port) (f : PortState → PortState) :
    (s.modPort p f).stage = s.stage ∧ (s.modPort p f).clock = s.clock ∧ (s.modPort p f).civil = s.civil ∧
    (s.modPort p f).freeIndex = s.freeIndex ∧ (s.modPort p f).lines = s.lines ∧ (s.modPort p f).bundle = s.bundle ∧
    (s.modPort p f).trigger = s.trigger ∧ (s.modPort p f).channels = s.channels ∧ (s.modPort p f).tanks = s.tanks ∧
    (s.modPort p f).rain = s.rain ∧ (s.modPort p f).allow = s.allow ∧ (s.modPort p f).drainList = s.drainList ∧
    (s.modPort p f).globalSerial = s.globalSerial ∧ (s.modPort p f).leg = s.leg ∧ (s.modPort p f).works = s.works ∧
    (s.modPort p f).spill = s.spill ∧ (s.modPort p f).store = s.store ∧ (s.modPort p f).retired = s.retired ∧
    (s.modPort p f).save = s.save ∧ (s.modPort p f).eeprom = s.eeprom ∧ (s.modPort p f).array = s.array ∧
    (s.modPort p f).pending = s.pending :=
  ⟨rfl, rfl, rfl, rfl, rfl, rfl, rfl, rfl, rfl, rfl, rfl, rfl, rfl, rfl, rfl, rfl, rfl, rfl, rfl, rfl, rfl, rfl⟩

@[simp] theorem modChannel_rest (c : Fin 16) (f : Channel → Channel) :
    (s.modChannel c f).stage = s.stage ∧ (s.modChannel c f).clock = s.clock ∧ (s.modChannel c f).civil = s.civil ∧
    (s.modChannel c f).freeIndex = s.freeIndex ∧ (s.modChannel c f).lines = s.lines ∧
    (s.modChannel c f).ports = s.ports ∧ (s.modChannel c f).bundle = s.bundle ∧
    (s.modChannel c f).trigger = s.trigger ∧ (s.modChannel c f).tanks = s.tanks ∧
    (s.modChannel c f).rain = s.rain ∧ (s.modChannel c f).allow = s.allow ∧
    (s.modChannel c f).drainList = s.drainList ∧ (s.modChannel c f).globalSerial = s.globalSerial ∧
    (s.modChannel c f).leg = s.leg ∧ (s.modChannel c f).works = s.works ∧ (s.modChannel c f).spill = s.spill ∧
    (s.modChannel c f).store = s.store ∧ (s.modChannel c f).retired = s.retired ∧
    (s.modChannel c f).save = s.save ∧ (s.modChannel c f).eeprom = s.eeprom ∧ (s.modChannel c f).array = s.array ∧
    (s.modChannel c f).pending = s.pending :=
  ⟨rfl, rfl, rfl, rfl, rfl, rfl, rfl, rfl, rfl, rfl, rfl, rfl, rfl, rfl, rfl, rfl, rfl, rfl, rfl, rfl, rfl, rfl⟩

@[simp] theorem modTank_rest (t : Fin 8) (f : Tank → Tank) :
    (s.modTank t f).stage = s.stage ∧ (s.modTank t f).clock = s.clock ∧ (s.modTank t f).civil = s.civil ∧
    (s.modTank t f).freeIndex = s.freeIndex ∧ (s.modTank t f).lines = s.lines ∧ (s.modTank t f).ports = s.ports ∧
    (s.modTank t f).bundle = s.bundle ∧ (s.modTank t f).trigger = s.trigger ∧
    (s.modTank t f).channels = s.channels ∧ (s.modTank t f).rain = s.rain ∧ (s.modTank t f).allow = s.allow ∧
    (s.modTank t f).drainList = s.drainList ∧ (s.modTank t f).globalSerial = s.globalSerial ∧
    (s.modTank t f).leg = s.leg ∧ (s.modTank t f).works = s.works ∧ (s.modTank t f).spill = s.spill ∧
    (s.modTank t f).store = s.store ∧ (s.modTank t f).retired = s.retired ∧ (s.modTank t f).save = s.save ∧
    (s.modTank t f).eeprom = s.eeprom ∧ (s.modTank t f).array = s.array ∧ (s.modTank t f).pending = s.pending :=
  ⟨rfl, rfl, rfl, rfl, rfl, rfl, rfl, rfl, rfl, rfl, rfl, rfl, rfl, rfl, rfl, rfl, rfl, rfl, rfl, rfl, rfl, rfl⟩

@[simp] theorem modGrant_rest (t : Fin 8) (f : Grant → Grant) :
    (s.modGrant t f).stage = s.stage ∧ (s.modGrant t f).clock = s.clock ∧ (s.modGrant t f).civil = s.civil ∧
    (s.modGrant t f).freeIndex = s.freeIndex ∧ (s.modGrant t f).lines = s.lines ∧
    (s.modGrant t f).ports = s.ports ∧ (s.modGrant t f).bundle = s.bundle ∧ (s.modGrant t f).trigger = s.trigger ∧
    (s.modGrant t f).channels = s.channels ∧ (s.modGrant t f).rain = s.rain ∧ (s.modGrant t f).allow = s.allow ∧
    (s.modGrant t f).drainList = s.drainList ∧ (s.modGrant t f).globalSerial = s.globalSerial ∧
    (s.modGrant t f).leg = s.leg ∧ (s.modGrant t f).works = s.works ∧ (s.modGrant t f).spill = s.spill ∧
    (s.modGrant t f).store = s.store ∧ (s.modGrant t f).retired = s.retired ∧ (s.modGrant t f).save = s.save ∧
    (s.modGrant t f).eeprom = s.eeprom ∧ (s.modGrant t f).array = s.array ∧ (s.modGrant t f).pending = s.pending :=
  ⟨rfl, rfl, rfl, rfl, rfl, rfl, rfl, rfl, rfl, rfl, rfl, rfl, rfl, rfl, rfl, rfl, rfl, rfl, rfl, rfl, rfl, rfl⟩

@[simp] theorem modDrain_rest (t : Fin 8) (f : Drain → Drain) :
    (s.modDrain t f).stage = s.stage ∧ (s.modDrain t f).clock = s.clock ∧ (s.modDrain t f).civil = s.civil ∧
    (s.modDrain t f).freeIndex = s.freeIndex ∧ (s.modDrain t f).lines = s.lines ∧
    (s.modDrain t f).ports = s.ports ∧ (s.modDrain t f).bundle = s.bundle ∧ (s.modDrain t f).trigger = s.trigger ∧
    (s.modDrain t f).channels = s.channels ∧ (s.modDrain t f).rain = s.rain ∧ (s.modDrain t f).allow = s.allow ∧
    (s.modDrain t f).drainList = s.drainList ∧ (s.modDrain t f).globalSerial = s.globalSerial ∧
    (s.modDrain t f).leg = s.leg ∧ (s.modDrain t f).works = s.works ∧ (s.modDrain t f).spill = s.spill ∧
    (s.modDrain t f).store = s.store ∧ (s.modDrain t f).retired = s.retired ∧ (s.modDrain t f).save = s.save ∧
    (s.modDrain t f).eeprom = s.eeprom ∧ (s.modDrain t f).array = s.array ∧ (s.modDrain t f).pending = s.pending :=
  ⟨rfl, rfl, rfl, rfl, rfl, rfl, rfl, rfl, rfl, rfl, rfl, rfl, rfl, rfl, rfl, rfl, rfl, rfl, rfl, rfl, rfl, rfl⟩

@[simp] theorem modCycle_rest (t : Fin 8) (f : Cycle → Cycle) :
    (s.modCycle t f).stage = s.stage ∧ (s.modCycle t f).clock = s.clock ∧ (s.modCycle t f).civil = s.civil ∧
    (s.modCycle t f).freeIndex = s.freeIndex ∧ (s.modCycle t f).lines = s.lines ∧
    (s.modCycle t f).ports = s.ports ∧ (s.modCycle t f).bundle = s.bundle ∧ (s.modCycle t f).trigger = s.trigger ∧
    (s.modCycle t f).channels = s.channels ∧ (s.modCycle t f).rain = s.rain ∧ (s.modCycle t f).allow = s.allow ∧
    (s.modCycle t f).drainList = s.drainList ∧ (s.modCycle t f).globalSerial = s.globalSerial ∧
    (s.modCycle t f).leg = s.leg ∧ (s.modCycle t f).works = s.works ∧ (s.modCycle t f).spill = s.spill ∧
    (s.modCycle t f).store = s.store ∧ (s.modCycle t f).retired = s.retired ∧ (s.modCycle t f).save = s.save ∧
    (s.modCycle t f).eeprom = s.eeprom ∧ (s.modCycle t f).array = s.array ∧ (s.modCycle t f).pending = s.pending :=
  ⟨rfl, rfl, rfl, rfl, rfl, rfl, rfl, rfl, rfl, rfl, rfl, rfl, rfl, rfl, rfl, rfl, rfl, rfl, rfl, rfl, rfl, rfl⟩

@[simp] theorem modGauge_rest (g : Fin 4) (f : Gauge → Gauge) :
    (s.modGauge g f).stage = s.stage ∧ (s.modGauge g f).clock = s.clock ∧ (s.modGauge g f).civil = s.civil ∧
    (s.modGauge g f).freeIndex = s.freeIndex ∧ (s.modGauge g f).lines = s.lines ∧
    (s.modGauge g f).ports = s.ports ∧ (s.modGauge g f).bundle = s.bundle ∧ (s.modGauge g f).trigger = s.trigger ∧
    (s.modGauge g f).channels = s.channels ∧ (s.modGauge g f).tanks = s.tanks ∧ (s.modGauge g f).allow = s.allow ∧
    (s.modGauge g f).drainList = s.drainList ∧ (s.modGauge g f).globalSerial = s.globalSerial ∧
    (s.modGauge g f).leg = s.leg ∧ (s.modGauge g f).works = s.works ∧ (s.modGauge g f).spill = s.spill ∧
    (s.modGauge g f).store = s.store ∧ (s.modGauge g f).retired = s.retired ∧ (s.modGauge g f).save = s.save ∧
    (s.modGauge g f).eeprom = s.eeprom ∧ (s.modGauge g f).array = s.array ∧ (s.modGauge g f).pending = s.pending :=
  ⟨rfl, rfl, rfl, rfl, rfl, rfl, rfl, rfl, rfl, rfl, rfl, rfl, rfl, rfl, rfl, rfl, rfl, rfl, rfl, rfl, rfl, rfl⟩

@[simp] theorem modAllow_rest (f : Allow → Allow) :
    (s.modAllow f).stage = s.stage ∧ (s.modAllow f).clock = s.clock ∧ (s.modAllow f).civil = s.civil ∧
    (s.modAllow f).freeIndex = s.freeIndex ∧ (s.modAllow f).lines = s.lines ∧ (s.modAllow f).ports = s.ports ∧
    (s.modAllow f).bundle = s.bundle ∧ (s.modAllow f).trigger = s.trigger ∧ (s.modAllow f).channels = s.channels ∧
    (s.modAllow f).tanks = s.tanks ∧ (s.modAllow f).rain = s.rain ∧ (s.modAllow f).drainList = s.drainList ∧
    (s.modAllow f).globalSerial = s.globalSerial ∧ (s.modAllow f).leg = s.leg ∧ (s.modAllow f).works = s.works ∧
    (s.modAllow f).spill = s.spill ∧ (s.modAllow f).store = s.store ∧ (s.modAllow f).retired = s.retired ∧
    (s.modAllow f).save = s.save ∧ (s.modAllow f).eeprom = s.eeprom ∧ (s.modAllow f).array = s.array ∧
    (s.modAllow f).pending = s.pending :=
  ⟨rfl, rfl, rfl, rfl, rfl, rfl, rfl, rfl, rfl, rfl, rfl, rfl, rfl, rfl, rfl, rfl, rfl, rfl, rfl, rfl, rfl, rfl⟩

@[simp] theorem modEntry_rest (e : Fin 8) (f : Entry → Entry) :
    (s.modEntry e f).stage = s.stage ∧ (s.modEntry e f).clock = s.clock ∧ (s.modEntry e f).civil = s.civil ∧
    (s.modEntry e f).freeIndex = s.freeIndex ∧ (s.modEntry e f).lines = s.lines ∧
    (s.modEntry e f).ports = s.ports ∧ (s.modEntry e f).bundle = s.bundle ∧ (s.modEntry e f).trigger = s.trigger ∧
    (s.modEntry e f).channels = s.channels ∧ (s.modEntry e f).tanks = s.tanks ∧ (s.modEntry e f).rain = s.rain ∧
    (s.modEntry e f).drainList = s.drainList ∧ (s.modEntry e f).globalSerial = s.globalSerial ∧
    (s.modEntry e f).leg = s.leg ∧ (s.modEntry e f).works = s.works ∧ (s.modEntry e f).spill = s.spill ∧
    (s.modEntry e f).store = s.store ∧ (s.modEntry e f).retired = s.retired ∧ (s.modEntry e f).save = s.save ∧
    (s.modEntry e f).eeprom = s.eeprom ∧ (s.modEntry e f).array = s.array ∧ (s.modEntry e f).pending = s.pending :=
  ⟨rfl, rfl, rfl, rfl, rfl, rfl, rfl, rfl, rfl, rfl, rfl, rfl, rfl, rfl, rfl, rfl, rfl, rfl, rfl, rfl, rfl, rfl⟩

@[simp] theorem modOutfall_rest (o : Fin 8) (f : Outfall → Outfall) :
    (s.modOutfall o f).stage = s.stage ∧ (s.modOutfall o f).clock = s.clock ∧ (s.modOutfall o f).civil = s.civil ∧
    (s.modOutfall o f).freeIndex = s.freeIndex ∧ (s.modOutfall o f).lines = s.lines ∧
    (s.modOutfall o f).ports = s.ports ∧ (s.modOutfall o f).bundle = s.bundle ∧
    (s.modOutfall o f).trigger = s.trigger ∧ (s.modOutfall o f).channels = s.channels ∧
    (s.modOutfall o f).tanks = s.tanks ∧ (s.modOutfall o f).rain = s.rain ∧ (s.modOutfall o f).allow = s.allow ∧
    (s.modOutfall o f).drainList = s.drainList ∧ (s.modOutfall o f).globalSerial = s.globalSerial ∧
    (s.modOutfall o f).leg = s.leg ∧ (s.modOutfall o f).works = s.works ∧ (s.modOutfall o f).store = s.store ∧
    (s.modOutfall o f).retired = s.retired ∧ (s.modOutfall o f).save = s.save ∧
    (s.modOutfall o f).eeprom = s.eeprom ∧ (s.modOutfall o f).array = s.array ∧
    (s.modOutfall o f).pending = s.pending :=
  ⟨rfl, rfl, rfl, rfl, rfl, rfl, rfl, rfl, rfl, rfl, rfl, rfl, rfl, rfl, rfl, rfl, rfl, rfl, rfl, rfl, rfl, rfl⟩

@[simp] theorem modEvent_rest (o : Fin 8) (f : SpillEvent → SpillEvent) :
    (s.modEvent o f).stage = s.stage ∧ (s.modEvent o f).clock = s.clock ∧ (s.modEvent o f).civil = s.civil ∧
    (s.modEvent o f).freeIndex = s.freeIndex ∧ (s.modEvent o f).lines = s.lines ∧
    (s.modEvent o f).ports = s.ports ∧ (s.modEvent o f).bundle = s.bundle ∧ (s.modEvent o f).trigger = s.trigger ∧
    (s.modEvent o f).channels = s.channels ∧ (s.modEvent o f).tanks = s.tanks ∧ (s.modEvent o f).rain = s.rain ∧
    (s.modEvent o f).allow = s.allow ∧ (s.modEvent o f).drainList = s.drainList ∧
    (s.modEvent o f).globalSerial = s.globalSerial ∧ (s.modEvent o f).leg = s.leg ∧
    (s.modEvent o f).works = s.works ∧ (s.modEvent o f).store = s.store ∧ (s.modEvent o f).retired = s.retired ∧
    (s.modEvent o f).save = s.save ∧ (s.modEvent o f).eeprom = s.eeprom ∧ (s.modEvent o f).array = s.array ∧
    (s.modEvent o f).pending = s.pending :=
  ⟨rfl, rfl, rfl, rfl, rfl, rfl, rfl, rfl, rfl, rfl, rfl, rfl, rfl, rfl, rfl, rfl, rfl, rfl, rfl, rfl, rfl, rfl⟩

@[simp] theorem modStore_rest (f : Store → Store) :
    (s.modStore f).stage = s.stage ∧ (s.modStore f).clock = s.clock ∧ (s.modStore f).civil = s.civil ∧
    (s.modStore f).freeIndex = s.freeIndex ∧ (s.modStore f).lines = s.lines ∧ (s.modStore f).ports = s.ports ∧
    (s.modStore f).bundle = s.bundle ∧ (s.modStore f).trigger = s.trigger ∧ (s.modStore f).channels = s.channels ∧
    (s.modStore f).tanks = s.tanks ∧ (s.modStore f).rain = s.rain ∧ (s.modStore f).allow = s.allow ∧
    (s.modStore f).drainList = s.drainList ∧ (s.modStore f).globalSerial = s.globalSerial ∧
    (s.modStore f).leg = s.leg ∧ (s.modStore f).works = s.works ∧ (s.modStore f).spill = s.spill ∧
    (s.modStore f).retired = s.retired ∧ (s.modStore f).save = s.save ∧ (s.modStore f).eeprom = s.eeprom ∧
    (s.modStore f).array = s.array ∧ (s.modStore f).pending = s.pending :=
  ⟨rfl, rfl, rfl, rfl, rfl, rfl, rfl, rfl, rfl, rfl, rfl, rfl, rfl, rfl, rfl, rfl, rfl, rfl, rfl, rfl, rfl, rfl⟩

@[simp] theorem modSave_rest (f : Save → Save) :
    (s.modSave f).stage = s.stage ∧ (s.modSave f).clock = s.clock ∧ (s.modSave f).civil = s.civil ∧
    (s.modSave f).freeIndex = s.freeIndex ∧ (s.modSave f).lines = s.lines ∧ (s.modSave f).ports = s.ports ∧
    (s.modSave f).bundle = s.bundle ∧ (s.modSave f).trigger = s.trigger ∧ (s.modSave f).channels = s.channels ∧
    (s.modSave f).tanks = s.tanks ∧ (s.modSave f).rain = s.rain ∧ (s.modSave f).allow = s.allow ∧
    (s.modSave f).drainList = s.drainList ∧ (s.modSave f).globalSerial = s.globalSerial ∧
    (s.modSave f).leg = s.leg ∧ (s.modSave f).works = s.works ∧ (s.modSave f).spill = s.spill ∧
    (s.modSave f).store = s.store ∧ (s.modSave f).retired = s.retired ∧ (s.modSave f).eeprom = s.eeprom ∧
    (s.modSave f).array = s.array ∧ (s.modSave f).pending = s.pending :=
  ⟨rfl, rfl, rfl, rfl, rfl, rfl, rfl, rfl, rfl, rfl, rfl, rfl, rfl, rfl, rfl, rfl, rfl, rfl, rfl, rfl, rfl, rfl⟩

@[simp] theorem notify_rest (k : Notice) (p : Port) :
    (s.notify k p).stage = s.stage ∧ (s.notify k p).clock = s.clock ∧ (s.notify k p).civil = s.civil ∧
    (s.notify k p).freeIndex = s.freeIndex ∧ (s.notify k p).lines = s.lines ∧ (s.notify k p).bundle = s.bundle ∧
    (s.notify k p).trigger = s.trigger ∧ (s.notify k p).channels = s.channels ∧ (s.notify k p).tanks = s.tanks ∧
    (s.notify k p).rain = s.rain ∧ (s.notify k p).allow = s.allow ∧ (s.notify k p).drainList = s.drainList ∧
    (s.notify k p).globalSerial = s.globalSerial ∧ (s.notify k p).leg = s.leg ∧ (s.notify k p).works = s.works ∧
    (s.notify k p).spill = s.spill ∧ (s.notify k p).store = s.store ∧ (s.notify k p).retired = s.retired ∧
    (s.notify k p).save = s.save ∧ (s.notify k p).eeprom = s.eeprom ∧ (s.notify k p).array = s.array ∧
    (s.notify k p).pending = s.pending :=
  ⟨rfl, rfl, rfl, rfl, rfl, rfl, rfl, rfl, rfl, rfl, rfl, rfl, rfl, rfl, rfl, rfl, rfl, rfl, rfl, rfl, rfl, rfl⟩

@[simp] theorem noteTrigger_rest :
    (s.noteTrigger).stage = s.stage ∧ (s.noteTrigger).clock = s.clock ∧ (s.noteTrigger).civil = s.civil ∧
    (s.noteTrigger).freeIndex = s.freeIndex ∧ (s.noteTrigger).lines = s.lines ∧ (s.noteTrigger).ports = s.ports ∧
    (s.noteTrigger).bundle = s.bundle ∧ (s.noteTrigger).channels = s.channels ∧ (s.noteTrigger).tanks = s.tanks ∧
    (s.noteTrigger).rain = s.rain ∧ (s.noteTrigger).allow = s.allow ∧ (s.noteTrigger).drainList = s.drainList ∧
    (s.noteTrigger).globalSerial = s.globalSerial ∧ (s.noteTrigger).leg = s.leg ∧ (s.noteTrigger).works = s.works ∧
    (s.noteTrigger).spill = s.spill ∧ (s.noteTrigger).store = s.store ∧ (s.noteTrigger).retired = s.retired ∧
    (s.noteTrigger).save = s.save ∧ (s.noteTrigger).eeprom = s.eeprom ∧ (s.noteTrigger).array = s.array ∧
    (s.noteTrigger).pending = s.pending :=
  ⟨rfl, rfl, rfl, rfl, rfl, rfl, rfl, rfl, rfl, rfl, rfl, rfl, rfl, rfl, rfl, rfl, rfl, rfl, rfl, rfl, rfl, rfl⟩

@[simp] theorem drawFree_rest :
    (s.drawFree).stage = s.stage ∧ (s.drawFree).clock = s.clock ∧ (s.drawFree).civil = s.civil ∧
    (s.drawFree).lines = s.lines ∧ (s.drawFree).ports = s.ports ∧ (s.drawFree).bundle = s.bundle ∧
    (s.drawFree).trigger = s.trigger ∧ (s.drawFree).channels = s.channels ∧ (s.drawFree).tanks = s.tanks ∧
    (s.drawFree).rain = s.rain ∧ (s.drawFree).allow = s.allow ∧ (s.drawFree).drainList = s.drainList ∧
    (s.drawFree).globalSerial = s.globalSerial ∧ (s.drawFree).leg = s.leg ∧ (s.drawFree).works = s.works ∧
    (s.drawFree).spill = s.spill ∧ (s.drawFree).store = s.store ∧ (s.drawFree).retired = s.retired ∧
    (s.drawFree).save = s.save ∧ (s.drawFree).eeprom = s.eeprom ∧ (s.drawFree).array = s.array ∧
    (s.drawFree).pending = s.pending :=
  ⟨rfl, rfl, rfl, rfl, rfl, rfl, rfl, rfl, rfl, rfl, rfl, rfl, rfl, rfl, rfl, rfl, rfl, rfl, rfl, rfl, rfl, rfl⟩

@[simp] theorem tank_modTank (t u : Fin 8) (f : Tank → Tank) :
    (s.modTank t f).tank u = if u = t then f (s.tank t) else s.tank u := by
  simp [tank, modTank]

@[simp] theorem tank_modGrant (t u : Fin 8) (f : Grant → Grant) :
    (s.modGrant t f).tank u = if u = t then { s.tank t with grant := f (s.tank t).grant } else s.tank u := by
  simp [modGrant]

@[simp] theorem tank_modDrain (t u : Fin 8) (f : Drain → Drain) :
    (s.modDrain t f).tank u = if u = t then { s.tank t with drain := f (s.tank t).drain } else s.tank u := by
  simp [modDrain]

@[simp] theorem tank_noteTrigger (u : Fin 8) : s.noteTrigger.tank u = s.tank u := rfl

/-- Two states with the same tanks have the same tank at each index. -/
theorem tank_congr {s t : State} (same : t.tanks = s.tanks) (u : Fin 8) : t.tank u = s.tank u := by
  simp [tank, same]

@[simp] theorem channel_modChannel (c d : Fin 16) (f : Channel → Channel) :
    (s.modChannel c f).channel d = if d = c then f (s.channel c) else s.channel d := by
  simp [channel, modChannel]

@[simp] theorem port_modPort (p q : Port) (f : PortState → PortState) :
    (s.modPort p f).port q = if q = p then f (s.port p) else s.port q := by
  have h : portIndex q = portIndex p ↔ q = p := by cases p <;> cases q <;> decide
  simp [port, modPort, h]

@[simp] theorem gauge_modGauge (g k : Fin 4) (f : Gauge → Gauge) :
    (s.modGauge g f).gauge k = if k = g then f (s.gauge g) else s.gauge k := by
  simp [gauge, modGauge]

@[simp] theorem outfall_modOutfall (o k : Fin 8) (f : Outfall → Outfall) :
    (s.modOutfall o f).outfall k = if k = o then f (s.outfall o) else s.outfall k := by
  simp [outfall, modOutfall]

@[simp] theorem entry_modEntry (e k : Fin 8) (f : Entry → Entry) :
    (s.modEntry e f).entry k = if k = e then f (s.entry e) else s.entry k := by
  simp [entry, modEntry, modAllow]

@[simp] theorem modStore_store (f : Store → Store) : (s.modStore f).store = f s.store := rfl

@[simp] theorem modSave_save (f : Save → Save) : (s.modSave f).save = f s.save := rfl

@[simp] theorem modAllow_allow (f : Allow → Allow) : (s.modAllow f).allow = f s.allow := rfl

end State

end Sys2Proof.Machine
end

