-- ==== Sys2Proof/Laws/Kept.lean ====
section
/-! SUPPORT. What the operations of the blocks leave as it is: one lemma per operation, over the areas of Safety,
cited instead of unfolding it. -/

namespace Sys2Proof.Machine

namespace State

variable (s : State)

@[simp] theorem outer_fields : (s.stage, s.clock, s.civil, s.lines, s.bundle, s.pending, s.eeprom) = s.outer := rfl

@[simp] theorem outer_mk (stage clock civil freeIndex lines ports bundle trigger channels tanks rain allow drainList serial leg
    works spill store retired save eeprom array pending) :
    (State.mk stage clock civil freeIndex lines ports bundle trigger channels tanks rain allow drainList serial leg works spill
      store retired save eeprom array pending).outer = (stage, clock, civil, lines, bundle, pending, eeprom) := rfl

@[simp] theorem transfers_map : s.ports.map (fun q => { q with notices := 0#16 }) = s.transfers := rfl

@[simp] theorem transfers_mk (stage clock civil freeIndex lines ports bundle trigger channels tanks rain allow drainList serial
    leg works spill store retired save eeprom array pending) :
    (State.mk stage clock civil freeIndex lines ports bundle trigger channels tanks rain allow drainList serial leg works spill
      store retired save eeprom array pending).transfers = ports.map (fun q => { q with notices := 0#16 }) := rfl

@[simp] theorem drains_fields : (s.drainList, s.globalSerial) = s.drains := rfl

@[simp] theorem drains_mk (stage clock civil freeIndex lines ports bundle trigger channels tanks rain allow drainList serial leg
    works spill store retired save eeprom array pending) :
    (State.mk stage clock civil freeIndex lines ports bundle trigger channels tanks rain allow drainList serial leg works spill
      store retired save eeprom array pending).drains = (drainList, serial) := rfl

@[simp] theorem media_fields : (s.array, s.retired, s.freeIndex) = s.media := rfl

@[simp] theorem media_mk (stage clock civil freeIndex lines ports bundle trigger channels tanks rain allow drainList serial leg
    works spill store retired save eeprom array pending) :
    (State.mk stage clock civil freeIndex lines ports bundle trigger channels tanks rain allow drainList serial leg works spill
      store retired save eeprom array pending).media = (array, retired, freeIndex) := rfl

@[simp] theorem areas_modPort (p : Port) (f : PortState → PortState) :
    (s.modPort p f).outer = s.outer ∧ (s.modPort p f).drains = s.drains ∧ (s.modPort p f).media = s.media :=
  ⟨rfl, rfl, rfl⟩

@[simp] theorem areas_modChannel (c : Fin 16) (f : Channel → Channel) :
    (s.modChannel c f).outer = s.outer ∧ (s.modChannel c f).transfers = s.transfers ∧ (s.modChannel c f).drains = s.drains ∧ (s.modChannel c f).media = s.media :=
  ⟨rfl, rfl, rfl, rfl⟩

@[simp] theorem areas_modTank (t : Fin 8) (f : Tank → Tank) :
    (s.modTank t f).outer = s.outer ∧ (s.modTank t f).transfers = s.transfers ∧ (s.modTank t f).drains = s.drains ∧ (s.modTank t f).media = s.media :=
  ⟨rfl, rfl, rfl, rfl⟩

@[simp] theorem areas_modGrant (t : Fin 8) (f : Grant → Grant) :
    (s.modGrant t f).outer = s.outer ∧ (s.modGrant t f).transfers = s.transfers ∧ (s.modGrant t f).drains = s.drains ∧ (s.modGrant t f).media = s.media :=
  ⟨rfl, rfl, rfl, rfl⟩

@[simp] theorem areas_modDrain (t : Fin 8) (f : Drain → Drain) :
    (s.modDrain t f).outer = s.outer ∧ (s.modDrain t f).transfers = s.transfers ∧ (s.modDrain t f).drains = s.drains ∧ (s.modDrain t f).media = s.media :=
  ⟨rfl, rfl, rfl, rfl⟩

@[simp] theorem areas_modCycle (t : Fin 8) (f : Cycle → Cycle) :
    (s.modCycle t f).outer = s.outer ∧ (s.modCycle t f).transfers = s.transfers ∧ (s.modCycle t f).drains = s.drains ∧ (s.modCycle t f).media = s.media :=
  ⟨rfl, rfl, rfl, rfl⟩

@[simp] theorem areas_modGauge (g : Fin 4) (f : Gauge → Gauge) :
    (s.modGauge g f).outer = s.outer ∧ (s.modGauge g f).transfers = s.transfers ∧ (s.modGauge g f).drains = s.drains ∧ (s.modGauge g f).media = s.media :=
  ⟨rfl, rfl, rfl, rfl⟩

@[simp] theorem areas_modAllow (f : Allow → Allow) :
    (s.modAllow f).outer = s.outer ∧ (s.modAllow f).transfers = s.transfers ∧ (s.modAllow f).drains = s.drains ∧ (s.modAllow f).media = s.media :=
  ⟨rfl, rfl, rfl, rfl⟩

@[simp] theorem areas_modEntry (e : Fin 8) (f : Entry → Entry) :
    (s.modEntry e f).outer = s.outer ∧ (s.modEntry e f).transfers = s.transfers ∧ (s.modEntry e f).drains = s.drains ∧ (s.modEntry e f).media = s.media :=
  ⟨rfl, rfl, rfl, rfl⟩

@[simp] theorem areas_modOutfall (o : Fin 8) (f : Outfall → Outfall) :
    (s.modOutfall o f).outer = s.outer ∧ (s.modOutfall o f).transfers = s.transfers ∧ (s.modOutfall o f).drains = s.drains ∧ (s.modOutfall o f).media = s.media :=
  ⟨rfl, rfl, rfl, rfl⟩

@[simp] theorem areas_modEvent (o : Fin 8) (f : SpillEvent → SpillEvent) :
    (s.modEvent o f).outer = s.outer ∧ (s.modEvent o f).transfers = s.transfers ∧ (s.modEvent o f).drains = s.drains ∧ (s.modEvent o f).media = s.media :=
  ⟨rfl, rfl, rfl, rfl⟩

@[simp] theorem areas_modStore (f : Store → Store) :
    (s.modStore f).outer = s.outer ∧ (s.modStore f).transfers = s.transfers ∧ (s.modStore f).drains = s.drains ∧ (s.modStore f).media = s.media :=
  ⟨rfl, rfl, rfl, rfl⟩

@[simp] theorem areas_modSave (f : Save → Save) :
    (s.modSave f).outer = s.outer ∧ (s.modSave f).transfers = s.transfers ∧ (s.modSave f).drains = s.drains ∧ (s.modSave f).media = s.media :=
  ⟨rfl, rfl, rfl, rfl⟩

@[simp] theorem areas_notify (k : Notice) (p : Port) :
    (s.notify k p).outer = s.outer ∧ (s.notify k p).drains = s.drains ∧ (s.notify k p).media = s.media :=
  ⟨rfl, rfl, rfl⟩

@[simp] theorem areas_noteTrigger :
    s.noteTrigger.outer = s.outer ∧ s.noteTrigger.transfers = s.transfers ∧ s.noteTrigger.drains = s.drains ∧ s.noteTrigger.media = s.media :=
  ⟨rfl, rfl, rfl, rfl⟩

@[simp] theorem areas_drawFree :
    s.drawFree.outer = s.outer ∧ s.drawFree.transfers = s.transfers ∧ s.drawFree.drains = s.drains :=
  ⟨rfl, rfl, rfl⟩

@[simp] theorem transfers_notify (k : Notice) (p : Port) : (s.notify k p).transfers = s.transfers := by
  apply Vector.ext
  intro i hi
  simp only [transfers, notify, modPort, port, put, Vector.getElem_map, Vector.getElem_set]
  split <;> simp_all [Vector.get_eq_getElem]

/-- A fold of operations that keep a projection keeps it. -/
theorem foldl_keeps {α β : Type} (π : State → β) (f : State → α → State) (h : ∀ s x, π (f s x) = π s) (l : List α) :
    π (l.foldl f s) = π s := by
  induction l generalizing s with
  | nil => rfl
  | cons x l ih => simp [ih, h]

theorem outer_foldl {α : Type} (f : State → α → State) (h : ∀ s x, (f s x).outer = s.outer) (l : List α) :
    (l.foldl f s).outer = s.outer := foldl_keeps s _ f h l

theorem transfers_foldl {α : Type} (f : State → α → State) (h : ∀ s x, (f s x).transfers = s.transfers) (l : List α) :
    (l.foldl f s).transfers = s.transfers := foldl_keeps s _ f h l

theorem allow_foldl {α : Type} (f : State → α → State) (h : ∀ s x, (f s x).allow = s.allow) (l : List α) :
    (l.foldl f s).allow = s.allow := foldl_keeps s _ f h l

theorem works_foldl {α : Type} (f : State → α → State) (h : ∀ s x, (f s x).works = s.works) (l : List α) :
    (l.foldl f s).works = s.works := foldl_keeps s _ f h l

theorem channels_foldl {α : Type} (f : State → α → State) (h : ∀ s x, (f s x).channels = s.channels) (l : List α) :
    (l.foldl f s).channels = s.channels := foldl_keeps s _ f h l

theorem rain_foldl {α : Type} (f : State → α → State) (h : ∀ s x, (f s x).rain = s.rain) (l : List α) :
    (l.foldl f s).rain = s.rain := foldl_keeps s _ f h l

theorem spill_foldl {α : Type} (f : State → α → State) (h : ∀ s x, (f s x).spill = s.spill) (l : List α) :
    (l.foldl f s).spill = s.spill := foldl_keeps s _ f h l

theorem tanks_foldl {α : Type} (f : State → α → State) (h : ∀ s x, (f s x).tanks = s.tanks) (l : List α) :
    (l.foldl f s).tanks = s.tanks := foldl_keeps s _ f h l

theorem drains_foldl {α : Type} (f : State → α → State) (h : ∀ s x, (f s x).drains = s.drains) (l : List α) :
    (l.foldl f s).drains = s.drains := foldl_keeps s _ f h l

theorem leg_foldl {α : Type} (f : State → α → State) (h : ∀ s x, (f s x).leg = s.leg) (l : List α) :
    (l.foldl f s).leg = s.leg := foldl_keeps s _ f h l

theorem store_foldl {α : Type} (f : State → α → State) (h : ∀ s x, (f s x).store = s.store) (l : List α) :
    (l.foldl f s).store = s.store := foldl_keeps s _ f h l

theorem save_foldl {α : Type} (f : State → α → State) (h : ∀ s x, (f s x).save = s.save) (l : List α) :
    (l.foldl f s).save = s.save := foldl_keeps s _ f h l

theorem media_foldl {α : Type} (f : State → α → State) (h : ∀ s x, (f s x).media = s.media) (l : List α) :
    (l.foldl f s).media = s.media := foldl_keeps s _ f h l

theorem trigger_foldl {α : Type} (f : State → α → State) (h : ∀ s x, (f s x).trigger = s.trigger) (l : List α) :
    (l.foldl f s).trigger = s.trigger := foldl_keeps s _ f h l

@[simp] theorem kept_notifyAll (k : Notice) (ps : List Port) :
    (s.notifyAll k ps).outer = s.outer ∧ (s.notifyAll k ps).transfers = s.transfers ∧
    (s.notifyAll k ps).allow = s.allow ∧ (s.notifyAll k ps).works = s.works ∧
    (s.notifyAll k ps).channels = s.channels ∧ (s.notifyAll k ps).rain = s.rain ∧
    (s.notifyAll k ps).spill = s.spill ∧ (s.notifyAll k ps).tanks = s.tanks ∧ (s.notifyAll k ps).drains = s.drains ∧
    (s.notifyAll k ps).leg = s.leg ∧ (s.notifyAll k ps).store = s.store ∧ (s.notifyAll k ps).save = s.save ∧
    (s.notifyAll k ps).media = s.media ∧ (s.notifyAll k ps).trigger = s.trigger := by
  refine ⟨?_, ?_, ?_, ?_, ?_, ?_, ?_, ?_, ?_, ?_, ?_, ?_, ?_, ?_⟩
  all_goals
    refine foldl_keeps s _ (fun s p => s.notify k p) (fun _ _ => ?_) ps
    simp

@[simp] theorem kept_notifyOwner (k : Notice) (t : Fin 8) :
    (s.notifyOwner k t).outer = s.outer ∧ (s.notifyOwner k t).transfers = s.transfers ∧
    (s.notifyOwner k t).allow = s.allow ∧ (s.notifyOwner k t).works = s.works ∧
    (s.notifyOwner k t).channels = s.channels ∧ (s.notifyOwner k t).rain = s.rain ∧
    (s.notifyOwner k t).spill = s.spill ∧ (s.notifyOwner k t).tanks = s.tanks ∧
    (s.notifyOwner k t).drains = s.drains ∧ (s.notifyOwner k t).leg = s.leg ∧ (s.notifyOwner k t).store = s.store ∧
    (s.notifyOwner k t).save = s.save ∧ (s.notifyOwner k t).media = s.media ∧
    (s.notifyOwner k t).trigger = s.trigger := by
  refine ⟨?_, ?_, ?_, ?_, ?_, ?_, ?_, ?_, ?_, ?_, ?_, ?_, ?_, ?_⟩
  all_goals simp [notifyOwner]

@[simp] theorem kept_saveStart (r : BitVec 4) :
    (s.saveStart r).outer = s.outer ∧ (s.saveStart r).transfers = s.transfers ∧ (s.saveStart r).allow = s.allow ∧
    (s.saveStart r).works = s.works ∧ (s.saveStart r).channels = s.channels ∧ (s.saveStart r).rain = s.rain ∧
    (s.saveStart r).spill = s.spill ∧ (s.saveStart r).tanks = s.tanks ∧ (s.saveStart r).drains = s.drains ∧
    (s.saveStart r).leg = s.leg ∧ (s.saveStart r).store = s.store ∧ (s.saveStart r).media = s.media ∧
    (s.saveStart r).trigger = s.trigger := by
  refine ⟨?_, ?_, ?_, ?_, ?_, ?_, ?_, ?_, ?_, ?_, ?_, ?_, ?_⟩
  all_goals simp [saveStart]

@[simp] theorem kept_joinFollowOn (p : Port) :
    (s.joinFollowOn p).outer = s.outer ∧ (s.joinFollowOn p).transfers = s.transfers ∧
    (s.joinFollowOn p).allow = s.allow ∧ (s.joinFollowOn p).works = s.works ∧
    (s.joinFollowOn p).channels = s.channels ∧ (s.joinFollowOn p).rain = s.rain ∧
    (s.joinFollowOn p).spill = s.spill ∧ (s.joinFollowOn p).tanks = s.tanks ∧ (s.joinFollowOn p).drains = s.drains ∧
    (s.joinFollowOn p).leg = s.leg ∧ (s.joinFollowOn p).store = s.store ∧ (s.joinFollowOn p).media = s.media ∧
    (s.joinFollowOn p).trigger = s.trigger := by
  refine ⟨?_, ?_, ?_, ?_, ?_, ?_, ?_, ?_, ?_, ?_, ?_, ?_, ?_⟩
  all_goals simp [joinFollowOn]

@[simp] theorem kept_storeRequest :
    s.storeRequest.outer = s.outer ∧ s.storeRequest.transfers = s.transfers ∧ s.storeRequest.allow = s.allow ∧
    s.storeRequest.works = s.works ∧ s.storeRequest.channels = s.channels ∧ s.storeRequest.rain = s.rain ∧
    s.storeRequest.spill = s.spill ∧ s.storeRequest.tanks = s.tanks ∧ s.storeRequest.drains = s.drains ∧
    s.storeRequest.leg = s.leg ∧ s.storeRequest.store = s.store ∧ s.storeRequest.media = s.media ∧
    s.storeRequest.trigger = s.trigger := by
  refine ⟨?_, ?_, ?_, ?_, ?_, ?_, ?_, ?_, ?_, ?_, ?_, ?_, ?_⟩
  all_goals
    unfold storeRequest
    repeat' split
  all_goals simp

@[simp] theorem kept_beginFollowOn :
    s.beginFollowOn.outer = s.outer ∧ s.beginFollowOn.transfers = s.transfers ∧ s.beginFollowOn.allow = s.allow ∧
    s.beginFollowOn.works = s.works ∧ s.beginFollowOn.channels = s.channels ∧ s.beginFollowOn.rain = s.rain ∧
    s.beginFollowOn.spill = s.spill ∧ s.beginFollowOn.tanks = s.tanks ∧ s.beginFollowOn.drains = s.drains ∧
    s.beginFollowOn.leg = s.leg ∧ s.beginFollowOn.store = s.store ∧ s.beginFollowOn.media = s.media ∧
    s.beginFollowOn.trigger = s.trigger := by
  refine ⟨?_, ?_, ?_, ?_, ?_, ?_, ?_, ?_, ?_, ?_, ?_, ?_, ?_⟩
  all_goals
    unfold beginFollowOn
    repeat' split
  all_goals simp

@[simp] theorem kept_saveEnd (v : SaveRun) (result : SaveResult) (failed : Bool) :
    (s.saveEnd v result failed).outer = s.outer ∧ (s.saveEnd v result failed).transfers = s.transfers ∧
    (s.saveEnd v result failed).allow = s.allow ∧ (s.saveEnd v result failed).works = s.works ∧
    (s.saveEnd v result failed).channels = s.channels ∧ (s.saveEnd v result failed).rain = s.rain ∧
    (s.saveEnd v result failed).spill = s.spill ∧ (s.saveEnd v result failed).tanks = s.tanks ∧
    (s.saveEnd v result failed).drains = s.drains ∧ (s.saveEnd v result failed).leg = s.leg ∧
    (s.saveEnd v result failed).store = s.store ∧ (s.saveEnd v result failed).media = s.media ∧
    (s.saveEnd v result failed).trigger = s.trigger := by
  refine ⟨?_, ?_, ?_, ?_, ?_, ?_, ?_, ?_, ?_, ?_, ?_, ?_, ?_⟩
  all_goals simp [saveEnd]

@[simp] theorem kept_saveFail (v : SaveRun) (cause : SaveCause) :
    (s.saveFail v cause).outer = s.outer ∧ (s.saveFail v cause).transfers = s.transfers ∧
    (s.saveFail v cause).allow = s.allow ∧ (s.saveFail v cause).works = s.works ∧
    (s.saveFail v cause).channels = s.channels ∧ (s.saveFail v cause).rain = s.rain ∧
    (s.saveFail v cause).spill = s.spill ∧ (s.saveFail v cause).tanks = s.tanks ∧
    (s.saveFail v cause).drains = s.drains ∧ (s.saveFail v cause).leg = s.leg ∧
    (s.saveFail v cause).store = s.store ∧ (s.saveFail v cause).media = s.media ∧
    (s.saveFail v cause).trigger = s.trigger := by
  refine ⟨?_, ?_, ?_, ?_, ?_, ?_, ?_, ?_, ?_, ?_, ?_, ?_, ?_⟩
  all_goals simp [saveFail]

@[simp] theorem kept_assemble (r : List Byte) (rest : List (List Byte)) :
    (s.assemble r rest).outer = s.outer ∧ (s.assemble r rest).transfers = s.transfers ∧
    (s.assemble r rest).allow = s.allow ∧ (s.assemble r rest).works = s.works ∧
    (s.assemble r rest).channels = s.channels ∧ (s.assemble r rest).rain = s.rain ∧
    (s.assemble r rest).spill = s.spill ∧ (s.assemble r rest).tanks = s.tanks ∧
    (s.assemble r rest).drains = s.drains ∧ (s.assemble r rest).leg = s.leg ∧ (s.assemble r rest).save = s.save ∧
    (s.assemble r rest).media = s.media ∧ (s.assemble r rest).trigger = s.trigger := by
  refine ⟨?_, ?_, ?_, ?_, ?_, ?_, ?_, ?_, ?_, ?_, ?_, ?_, ?_⟩
  all_goals simp [assemble]

@[simp] theorem kept_fillAssembly (n : Nat) :
    (fillAssembly n s).outer = s.outer ∧ (fillAssembly n s).transfers = s.transfers ∧
    (fillAssembly n s).allow = s.allow ∧ (fillAssembly n s).works = s.works ∧
    (fillAssembly n s).channels = s.channels ∧ (fillAssembly n s).rain = s.rain ∧
    (fillAssembly n s).spill = s.spill ∧ (fillAssembly n s).tanks = s.tanks ∧ (fillAssembly n s).drains = s.drains ∧
    (fillAssembly n s).leg = s.leg ∧ (fillAssembly n s).save = s.save ∧ (fillAssembly n s).media = s.media ∧
    (fillAssembly n s).trigger = s.trigger := by
  induction n generalizing s with
  | zero => simp [fillAssembly]
  | succ n ih =>
    unfold fillAssembly
    repeat' split
    all_goals simp [ih]

@[simp] theorem kept_loseRecord :
    s.loseRecord.outer = s.outer ∧ s.loseRecord.transfers = s.transfers ∧ s.loseRecord.allow = s.allow ∧
    s.loseRecord.works = s.works ∧ s.loseRecord.channels = s.channels ∧ s.loseRecord.rain = s.rain ∧
    s.loseRecord.spill = s.spill ∧ s.loseRecord.tanks = s.tanks ∧ s.loseRecord.drains = s.drains ∧
    s.loseRecord.leg = s.leg ∧ s.loseRecord.save = s.save ∧ s.loseRecord.media = s.media ∧
    s.loseRecord.trigger = s.trigger := by
  refine ⟨?_, ?_, ?_, ?_, ?_, ?_, ?_, ?_, ?_, ?_, ?_, ?_, ?_⟩
  all_goals simp [loseRecord]

@[simp] theorem kept_becomeWorn :
    s.becomeWorn.outer = s.outer ∧ s.becomeWorn.transfers = s.transfers ∧ s.becomeWorn.allow = s.allow ∧
    s.becomeWorn.works = s.works ∧ s.becomeWorn.channels = s.channels ∧ s.becomeWorn.rain = s.rain ∧
    s.becomeWorn.spill = s.spill ∧ s.becomeWorn.tanks = s.tanks ∧ s.becomeWorn.drains = s.drains ∧
    s.becomeWorn.leg = s.leg ∧ s.becomeWorn.save = s.save ∧ s.becomeWorn.media = s.media ∧
    s.becomeWorn.trigger = s.trigger := by
  refine ⟨?_, ?_, ?_, ?_, ?_, ?_, ?_, ?_, ?_, ?_, ?_, ?_, ?_⟩
  all_goals
    unfold becomeWorn
    repeat' split
  all_goals simp

@[simp] theorem kept_handOver (kind subject : Nat) (body : Nat → List Byte) :
    (s.handOver kind subject body).2.outer = s.outer ∧ (s.handOver kind subject body).2.transfers = s.transfers ∧
    (s.handOver kind subject body).2.allow = s.allow ∧ (s.handOver kind subject body).2.works = s.works ∧
    (s.handOver kind subject body).2.channels = s.channels ∧ (s.handOver kind subject body).2.rain = s.rain ∧
    (s.handOver kind subject body).2.spill = s.spill ∧ (s.handOver kind subject body).2.tanks = s.tanks ∧
    (s.handOver kind subject body).2.drains = s.drains ∧ (s.handOver kind subject body).2.leg = s.leg ∧
    (s.handOver kind subject body).2.save = s.save ∧ (s.handOver kind subject body).2.media = s.media ∧
    (s.handOver kind subject body).2.trigger = s.trigger := by
  refine ⟨?_, ?_, ?_, ?_, ?_, ?_, ?_, ?_, ?_, ?_, ?_, ?_, ?_⟩
  all_goals
    unfold handOver
    dsimp only
    repeat' split
  all_goals simp

@[simp] theorem kept_writeRecord (kind subject : Nat) (body : List Byte) :
    (s.writeRecord kind subject body).outer = s.outer ∧ (s.writeRecord kind subject body).transfers = s.transfers ∧
    (s.writeRecord kind subject body).allow = s.allow ∧ (s.writeRecord kind subject body).works = s.works ∧
    (s.writeRecord kind subject body).channels = s.channels ∧ (s.writeRecord kind subject body).rain = s.rain ∧
    (s.writeRecord kind subject body).spill = s.spill ∧ (s.writeRecord kind subject body).tanks = s.tanks ∧
    (s.writeRecord kind subject body).drains = s.drains ∧ (s.writeRecord kind subject body).leg = s.leg ∧
    (s.writeRecord kind subject body).save = s.save ∧ (s.writeRecord kind subject body).media = s.media ∧
    (s.writeRecord kind subject body).trigger = s.trigger := by
  refine ⟨?_, ?_, ?_, ?_, ?_, ?_, ?_, ?_, ?_, ?_, ?_, ?_, ?_⟩
  all_goals simp [writeRecord]

@[simp] theorem kept_reclaimTotals (o : Fin 8) :
    (s.reclaimTotals o).outer = s.outer ∧ (s.reclaimTotals o).transfers = s.transfers ∧
    (s.reclaimTotals o).allow = s.allow ∧ (s.reclaimTotals o).works = s.works ∧
    (s.reclaimTotals o).channels = s.channels ∧ (s.reclaimTotals o).rain = s.rain ∧
    (s.reclaimTotals o).spill = s.spill ∧ (s.reclaimTotals o).tanks = s.tanks ∧
    (s.reclaimTotals o).drains = s.drains ∧ (s.reclaimTotals o).leg = s.leg ∧ (s.reclaimTotals o).save = s.save ∧
    (s.reclaimTotals o).media = s.media ∧ (s.reclaimTotals o).trigger = s.trigger := by
  refine ⟨?_, ?_, ?_, ?_, ?_, ?_, ?_, ?_, ?_, ?_, ?_, ?_, ?_⟩
  all_goals simp [reclaimTotals]

@[simp] theorem kept_stretchTotals (o : Fin 8) (seconds : Nat) :
    (s.stretchTotals o seconds).outer = s.outer ∧ (s.stretchTotals o seconds).transfers = s.transfers ∧
    (s.stretchTotals o seconds).allow = s.allow ∧ (s.stretchTotals o seconds).works = s.works ∧
    (s.stretchTotals o seconds).channels = s.channels ∧ (s.stretchTotals o seconds).rain = s.rain ∧
    (s.stretchTotals o seconds).spill = s.spill ∧ (s.stretchTotals o seconds).tanks = s.tanks ∧
    (s.stretchTotals o seconds).drains = s.drains ∧ (s.stretchTotals o seconds).leg = s.leg ∧
    (s.stretchTotals o seconds).save = s.save ∧ (s.stretchTotals o seconds).media = s.media ∧
    (s.stretchTotals o seconds).trigger = s.trigger := by
  refine ⟨?_, ?_, ?_, ?_, ?_, ?_, ?_, ?_, ?_, ?_, ?_, ?_, ?_⟩
  all_goals simp [stretchTotals]

@[simp] theorem kept_dropOwed :
    s.dropOwed.ports = s.ports ∧ s.dropOwed.outer = s.outer ∧ s.dropOwed.transfers = s.transfers ∧
    s.dropOwed.allow = s.allow ∧ s.dropOwed.works = s.works ∧ s.dropOwed.channels = s.channels ∧
    s.dropOwed.rain = s.rain ∧ s.dropOwed.spill = s.spill ∧ s.dropOwed.tanks = s.tanks ∧
    s.dropOwed.drains = s.drains ∧ s.dropOwed.leg = s.leg ∧ s.dropOwed.save = s.save ∧ s.dropOwed.media = s.media ∧
    s.dropOwed.trigger = s.trigger := by
  refine ⟨?_, ?_, ?_, ?_, ?_, ?_, ?_, ?_, ?_, ?_, ?_, ?_, ?_, ?_⟩
  all_goals simp [dropOwed]

@[simp] theorem kept_channelRecord (c : Fin 16) (entered : Bool) (cause : FaultCause) :
    (s.channelRecord c entered cause).outer = s.outer ∧ (s.channelRecord c entered cause).transfers = s.transfers ∧
    (s.channelRecord c entered cause).allow = s.allow ∧ (s.channelRecord c entered cause).works = s.works ∧
    (s.channelRecord c entered cause).channels = s.channels ∧ (s.channelRecord c entered cause).rain = s.rain ∧
    (s.channelRecord c entered cause).spill = s.spill ∧ (s.channelRecord c entered cause).tanks = s.tanks ∧
    (s.channelRecord c entered cause).drains = s.drains ∧ (s.channelRecord c entered cause).leg = s.leg ∧
    (s.channelRecord c entered cause).save = s.save ∧ (s.channelRecord c entered cause).media = s.media ∧
    (s.channelRecord c entered cause).trigger = s.trigger := by
  refine ⟨?_, ?_, ?_, ?_, ?_, ?_, ?_, ?_, ?_, ?_, ?_, ?_, ?_⟩
  all_goals simp [channelRecord]

@[simp] theorem kept_cycleRecord (t : Fin 8) (v : Cycle) (reason : EndReason) :
    (s.cycleRecord t v reason).outer = s.outer ∧ (s.cycleRecord t v reason).transfers = s.transfers ∧
    (s.cycleRecord t v reason).allow = s.allow ∧ (s.cycleRecord t v reason).works = s.works ∧
    (s.cycleRecord t v reason).channels = s.channels ∧ (s.cycleRecord t v reason).rain = s.rain ∧
    (s.cycleRecord t v reason).spill = s.spill ∧ (s.cycleRecord t v reason).tanks = s.tanks ∧
    (s.cycleRecord t v reason).drains = s.drains ∧ (s.cycleRecord t v reason).leg = s.leg ∧
    (s.cycleRecord t v reason).save = s.save ∧ (s.cycleRecord t v reason).media = s.media ∧
    (s.cycleRecord t v reason).trigger = s.trigger := by
  refine ⟨?_, ?_, ?_, ?_, ?_, ?_, ?_, ?_, ?_, ?_, ?_, ?_, ?_⟩
  all_goals
    unfold cycleRecord
    repeat' split
  all_goals simp

@[simp] theorem kept_alertRecord (before after : AlertLevel) (lead : Option (Fin 4)) (i15 d60 available : Nat) :
    (s.alertRecord before after lead i15 d60 available).outer = s.outer ∧
    (s.alertRecord before after lead i15 d60 available).transfers = s.transfers ∧
    (s.alertRecord before after lead i15 d60 available).allow = s.allow ∧
    (s.alertRecord before after lead i15 d60 available).works = s.works ∧
    (s.alertRecord before after lead i15 d60 available).channels = s.channels ∧
    (s.alertRecord before after lead i15 d60 available).rain = s.rain ∧
    (s.alertRecord before after lead i15 d60 available).spill = s.spill ∧
    (s.alertRecord before after lead i15 d60 available).tanks = s.tanks ∧
    (s.alertRecord before after lead i15 d60 available).drains = s.drains ∧
    (s.alertRecord before after lead i15 d60 available).leg = s.leg ∧
    (s.alertRecord before after lead i15 d60 available).save = s.save ∧
    (s.alertRecord before after lead i15 d60 available).media = s.media ∧
    (s.alertRecord before after lead i15 d60 available).trigger = s.trigger := by
  refine ⟨?_, ?_, ?_, ?_, ?_, ?_, ?_, ?_, ?_, ?_, ?_, ?_, ?_⟩
  all_goals
    unfold alertRecord
    repeat' split
  all_goals simp

@[simp] theorem kept_overdueRecord (t : Fin 8) (cause : OverdueCause) (time : Nat) :
    (s.overdueRecord t cause time).outer = s.outer ∧ (s.overdueRecord t cause time).transfers = s.transfers ∧
    (s.overdueRecord t cause time).allow = s.allow ∧ (s.overdueRecord t cause time).works = s.works ∧
    (s.overdueRecord t cause time).channels = s.channels ∧ (s.overdueRecord t cause time).rain = s.rain ∧
    (s.overdueRecord t cause time).spill = s.spill ∧ (s.overdueRecord t cause time).tanks = s.tanks ∧
    (s.overdueRecord t cause time).drains = s.drains ∧ (s.overdueRecord t cause time).leg = s.leg ∧
    (s.overdueRecord t cause time).save = s.save ∧ (s.overdueRecord t cause time).media = s.media ∧
    (s.overdueRecord t cause time).trigger = s.trigger := by
  refine ⟨?_, ?_, ?_, ?_, ?_, ?_, ?_, ?_, ?_, ?_, ?_, ?_, ?_⟩
  all_goals simp [overdueRecord]

@[simp] theorem kept_allowanceRecord (cause : AllowanceCause) (returned : Option (Fin 8)) (before : Nat) :
    (s.allowanceRecord cause returned before).outer = s.outer ∧
    (s.allowanceRecord cause returned before).transfers = s.transfers ∧
    (s.allowanceRecord cause returned before).allow = s.allow ∧
    (s.allowanceRecord cause returned before).works = s.works ∧
    (s.allowanceRecord cause returned before).channels = s.channels ∧
    (s.allowanceRecord cause returned before).rain = s.rain ∧
    (s.allowanceRecord cause returned before).spill = s.spill ∧
    (s.allowanceRecord cause returned before).tanks = s.tanks ∧
    (s.allowanceRecord cause returned before).drains = s.drains ∧
    (s.allowanceRecord cause returned before).leg = s.leg ∧ (s.allowanceRecord cause returned before).save = s.save ∧
    (s.allowanceRecord cause returned before).media = s.media ∧
    (s.allowanceRecord cause returned before).trigger = s.trigger := by
  refine ⟨?_, ?_, ?_, ?_, ?_, ?_, ?_, ?_, ?_, ?_, ?_, ?_, ?_⟩
  all_goals simp [allowanceRecord]

@[simp] theorem kept_archiveRecord (old new : Nat) :
    (s.archiveRecord old new).outer = s.outer ∧ (s.archiveRecord old new).transfers = s.transfers ∧
    (s.archiveRecord old new).allow = s.allow ∧ (s.archiveRecord old new).works = s.works ∧
    (s.archiveRecord old new).channels = s.channels ∧ (s.archiveRecord old new).rain = s.rain ∧
    (s.archiveRecord old new).spill = s.spill ∧ (s.archiveRecord old new).tanks = s.tanks ∧
    (s.archiveRecord old new).drains = s.drains ∧ (s.archiveRecord old new).leg = s.leg ∧
    (s.archiveRecord old new).save = s.save ∧ (s.archiveRecord old new).media = s.media ∧
    (s.archiveRecord old new).trigger = s.trigger := by
  refine ⟨?_, ?_, ?_, ?_, ?_, ?_, ?_, ?_, ?_, ?_, ?_, ?_, ?_⟩
  all_goals simp [archiveRecord]

@[simp] theorem kept_clockRecord (before : Option Nat) :
    (s.clockRecord before).outer = s.outer ∧ (s.clockRecord before).transfers = s.transfers ∧
    (s.clockRecord before).allow = s.allow ∧ (s.clockRecord before).works = s.works ∧
    (s.clockRecord before).channels = s.channels ∧ (s.clockRecord before).rain = s.rain ∧
    (s.clockRecord before).spill = s.spill ∧ (s.clockRecord before).tanks = s.tanks ∧
    (s.clockRecord before).drains = s.drains ∧ (s.clockRecord before).leg = s.leg ∧
    (s.clockRecord before).save = s.save ∧ (s.clockRecord before).media = s.media ∧
    (s.clockRecord before).trigger = s.trigger := by
  refine ⟨?_, ?_, ?_, ?_, ?_, ?_, ?_, ?_, ?_, ?_, ?_, ?_, ?_⟩
  all_goals simp [clockRecord]

@[simp] theorem kept_setArrayPage (r : PageRef) (p : Page) :
    (s.setArrayPage r p).outer = s.outer ∧ (s.setArrayPage r p).transfers = s.transfers ∧
    (s.setArrayPage r p).allow = s.allow ∧ (s.setArrayPage r p).works = s.works ∧
    (s.setArrayPage r p).channels = s.channels ∧ (s.setArrayPage r p).rain = s.rain ∧
    (s.setArrayPage r p).spill = s.spill ∧ (s.setArrayPage r p).tanks = s.tanks ∧
    (s.setArrayPage r p).drains = s.drains ∧ (s.setArrayPage r p).leg = s.leg ∧
    (s.setArrayPage r p).store = s.store ∧ (s.setArrayPage r p).save = s.save ∧
    (s.setArrayPage r p).trigger = s.trigger := by
  refine ⟨?_, ?_, ?_, ?_, ?_, ?_, ?_, ?_, ?_, ?_, ?_, ?_, ?_⟩
  all_goals simp [setArrayPage]

@[simp] theorem kept_setArrayBlock (b : Fin 64) (p : Page) :
    (s.setArrayBlock b p).outer = s.outer ∧ (s.setArrayBlock b p).transfers = s.transfers ∧
    (s.setArrayBlock b p).allow = s.allow ∧ (s.setArrayBlock b p).works = s.works ∧
    (s.setArrayBlock b p).channels = s.channels ∧ (s.setArrayBlock b p).rain = s.rain ∧
    (s.setArrayBlock b p).spill = s.spill ∧ (s.setArrayBlock b p).tanks = s.tanks ∧
    (s.setArrayBlock b p).drains = s.drains ∧ (s.setArrayBlock b p).leg = s.leg ∧
    (s.setArrayBlock b p).store = s.store ∧ (s.setArrayBlock b p).save = s.save ∧
    (s.setArrayBlock b p).trigger = s.trigger := by
  refine ⟨?_, ?_, ?_, ?_, ?_, ?_, ?_, ?_, ?_, ?_, ?_, ?_, ?_⟩
  all_goals simp [setArrayBlock]

@[simp] theorem kept_tearPage (r : PageRef) (records : List (List Byte)) :
    (s.tearPage r records).outer = s.outer ∧ (s.tearPage r records).transfers = s.transfers ∧
    (s.tearPage r records).allow = s.allow ∧ (s.tearPage r records).works = s.works ∧
    (s.tearPage r records).channels = s.channels ∧ (s.tearPage r records).rain = s.rain ∧
    (s.tearPage r records).spill = s.spill ∧ (s.tearPage r records).tanks = s.tanks ∧
    (s.tearPage r records).drains = s.drains ∧ (s.tearPage r records).leg = s.leg ∧
    (s.tearPage r records).store = s.store ∧ (s.tearPage r records).save = s.save ∧
    (s.tearPage r records).trigger = s.trigger := by
  refine ⟨?_, ?_, ?_, ?_, ?_, ?_, ?_, ?_, ?_, ?_, ?_, ?_, ?_⟩
  all_goals simp [tearPage]

@[simp] theorem kept_setStatus (b : Fin 64) (x : BlockStatus) :
    (s.setStatus b x).outer = s.outer ∧ (s.setStatus b x).transfers = s.transfers ∧
    (s.setStatus b x).allow = s.allow ∧ (s.setStatus b x).works = s.works ∧ (s.setStatus b x).channels = s.channels ∧
    (s.setStatus b x).rain = s.rain ∧ (s.setStatus b x).spill = s.spill ∧ (s.setStatus b x).tanks = s.tanks ∧
    (s.setStatus b x).drains = s.drains ∧ (s.setStatus b x).leg = s.leg ∧ (s.setStatus b x).save = s.save ∧
    (s.setStatus b x).media = s.media ∧ (s.setStatus b x).trigger = s.trigger := by
  refine ⟨?_, ?_, ?_, ?_, ?_, ?_, ?_, ?_, ?_, ?_, ?_, ?_, ?_⟩
  all_goals simp [setStatus]

@[simp] theorem kept_setTableEntry (r : PageRef) (e : PageEntry) :
    (s.setTableEntry r e).outer = s.outer ∧ (s.setTableEntry r e).transfers = s.transfers ∧
    (s.setTableEntry r e).allow = s.allow ∧ (s.setTableEntry r e).works = s.works ∧
    (s.setTableEntry r e).channels = s.channels ∧ (s.setTableEntry r e).rain = s.rain ∧
    (s.setTableEntry r e).spill = s.spill ∧ (s.setTableEntry r e).tanks = s.tanks ∧
    (s.setTableEntry r e).drains = s.drains ∧ (s.setTableEntry r e).leg = s.leg ∧
    (s.setTableEntry r e).save = s.save ∧ (s.setTableEntry r e).media = s.media ∧
    (s.setTableEntry r e).trigger = s.trigger := by
  refine ⟨?_, ?_, ?_, ?_, ?_, ?_, ?_, ?_, ?_, ?_, ?_, ?_, ?_⟩
  all_goals simp [setTableEntry]

@[simp] theorem kept_clearTable (b : Fin 64) :
    (s.clearTable b).outer = s.outer ∧ (s.clearTable b).transfers = s.transfers ∧ (s.clearTable b).allow = s.allow ∧
    (s.clearTable b).works = s.works ∧ (s.clearTable b).channels = s.channels ∧ (s.clearTable b).rain = s.rain ∧
    (s.clearTable b).spill = s.spill ∧ (s.clearTable b).tanks = s.tanks ∧ (s.clearTable b).drains = s.drains ∧
    (s.clearTable b).leg = s.leg ∧ (s.clearTable b).save = s.save ∧ (s.clearTable b).media = s.media ∧
    (s.clearTable b).trigger = s.trigger := by
  refine ⟨?_, ?_, ?_, ?_, ?_, ?_, ?_, ?_, ?_, ?_, ?_, ?_, ?_⟩
  all_goals simp [clearTable]

@[simp] theorem kept_askTotals (os : List (Fin 8)) :
    (s.askTotals os).outer = s.outer ∧ (s.askTotals os).transfers = s.transfers ∧ (s.askTotals os).allow = s.allow ∧
    (s.askTotals os).works = s.works ∧ (s.askTotals os).channels = s.channels ∧ (s.askTotals os).rain = s.rain ∧
    (s.askTotals os).spill = s.spill ∧ (s.askTotals os).tanks = s.tanks ∧ (s.askTotals os).drains = s.drains ∧
    (s.askTotals os).leg = s.leg ∧ (s.askTotals os).save = s.save ∧ (s.askTotals os).media = s.media ∧
    (s.askTotals os).trigger = s.trigger := by
  refine ⟨?_, ?_, ?_, ?_, ?_, ?_, ?_, ?_, ?_, ?_, ?_, ?_, ?_⟩
  all_goals simp [askTotals, outer_foldl, transfers_foldl, allow_foldl, works_foldl, channels_foldl, rain_foldl, spill_foldl, tanks_foldl, drains_foldl, leg_foldl, save_foldl, media_foldl, trigger_foldl]

@[simp] theorem kept_prepare (b : Fin 64) :
    (s.prepare b).outer = s.outer ∧ (s.prepare b).transfers = s.transfers ∧ (s.prepare b).allow = s.allow ∧
    (s.prepare b).works = s.works ∧ (s.prepare b).channels = s.channels ∧ (s.prepare b).rain = s.rain ∧
    (s.prepare b).spill = s.spill ∧ (s.prepare b).tanks = s.tanks ∧ (s.prepare b).drains = s.drains ∧
    (s.prepare b).leg = s.leg ∧ (s.prepare b).save = s.save ∧ (s.prepare b).media = s.media ∧
    (s.prepare b).trigger = s.trigger := by
  refine ⟨?_, ?_, ?_, ?_, ?_, ?_, ?_, ?_, ?_, ?_, ?_, ?_, ?_⟩
  all_goals simp [prepare]

@[simp] theorem kept_reclaimCheck :
    s.reclaimCheck.outer = s.outer ∧ s.reclaimCheck.transfers = s.transfers ∧ s.reclaimCheck.allow = s.allow ∧
    s.reclaimCheck.works = s.works ∧ s.reclaimCheck.channels = s.channels ∧ s.reclaimCheck.rain = s.rain ∧
    s.reclaimCheck.spill = s.spill ∧ s.reclaimCheck.tanks = s.tanks ∧ s.reclaimCheck.drains = s.drains ∧
    s.reclaimCheck.leg = s.leg ∧ s.reclaimCheck.save = s.save ∧ s.reclaimCheck.media = s.media ∧
    s.reclaimCheck.trigger = s.trigger := by
  refine ⟨?_, ?_, ?_, ?_, ?_, ?_, ?_, ?_, ?_, ?_, ?_, ?_, ?_⟩
  all_goals
    unfold reclaimCheck
    repeat' split
  all_goals simp

@[simp] theorem kept_enterFull :
    s.enterFull.outer = s.outer ∧ s.enterFull.transfers = s.transfers ∧ s.enterFull.allow = s.allow ∧
    s.enterFull.works = s.works ∧ s.enterFull.channels = s.channels ∧ s.enterFull.rain = s.rain ∧
    s.enterFull.spill = s.spill ∧ s.enterFull.tanks = s.tanks ∧ s.enterFull.drains = s.drains ∧
    s.enterFull.leg = s.leg ∧ s.enterFull.save = s.save ∧ s.enterFull.media = s.media ∧
    s.enterFull.trigger = s.trigger := by
  refine ⟨?_, ?_, ?_, ?_, ?_, ?_, ?_, ?_, ?_, ?_, ?_, ?_, ?_⟩
  all_goals simp [enterFull]

@[simp] theorem kept_enterBlock (b : Fin 64) :
    (s.enterBlock b).outer = s.outer ∧ (s.enterBlock b).transfers = s.transfers ∧ (s.enterBlock b).allow = s.allow ∧
    (s.enterBlock b).works = s.works ∧ (s.enterBlock b).channels = s.channels ∧ (s.enterBlock b).rain = s.rain ∧
    (s.enterBlock b).spill = s.spill ∧ (s.enterBlock b).tanks = s.tanks ∧ (s.enterBlock b).drains = s.drains ∧
    (s.enterBlock b).leg = s.leg ∧ (s.enterBlock b).save = s.save ∧ (s.enterBlock b).media = s.media ∧
    (s.enterBlock b).trigger = s.trigger := by
  refine ⟨?_, ?_, ?_, ?_, ?_, ?_, ?_, ?_, ?_, ?_, ?_, ?_, ?_⟩
  all_goals
    unfold enterBlock
    repeat' split
  all_goals simp

@[simp] theorem kept_leaveBlock :
    s.leaveBlock.outer = s.outer ∧ s.leaveBlock.transfers = s.transfers ∧ s.leaveBlock.allow = s.allow ∧
    s.leaveBlock.works = s.works ∧ s.leaveBlock.channels = s.channels ∧ s.leaveBlock.rain = s.rain ∧
    s.leaveBlock.spill = s.spill ∧ s.leaveBlock.tanks = s.tanks ∧ s.leaveBlock.drains = s.drains ∧
    s.leaveBlock.leg = s.leg ∧ s.leaveBlock.save = s.save ∧ s.leaveBlock.media = s.media ∧
    s.leaveBlock.trigger = s.trigger := by
  refine ⟨?_, ?_, ?_, ?_, ?_, ?_, ?_, ?_, ?_, ?_, ?_, ?_, ?_⟩
  all_goals
    unfold leaveBlock
    repeat' split
  all_goals simp

@[simp] theorem kept_dropReads (b : Fin 64) :
    (s.dropReads b).outer = s.outer ∧ (s.dropReads b).transfers = s.transfers ∧ (s.dropReads b).allow = s.allow ∧
    (s.dropReads b).works = s.works ∧ (s.dropReads b).channels = s.channels ∧ (s.dropReads b).rain = s.rain ∧
    (s.dropReads b).spill = s.spill ∧ (s.dropReads b).tanks = s.tanks ∧ (s.dropReads b).drains = s.drains ∧
    (s.dropReads b).leg = s.leg ∧ (s.dropReads b).save = s.save ∧ (s.dropReads b).media = s.media ∧
    (s.dropReads b).trigger = s.trigger := by
  refine ⟨?_, ?_, ?_, ?_, ?_, ?_, ?_, ?_, ?_, ?_, ?_, ?_, ?_⟩
  all_goals simp [dropReads]

@[simp] theorem kept_clearNotes (b : Fin 64) :
    (s.clearNotes b).outer = s.outer ∧ (s.clearNotes b).transfers = s.transfers ∧ (s.clearNotes b).allow = s.allow ∧
    (s.clearNotes b).works = s.works ∧ (s.clearNotes b).channels = s.channels ∧ (s.clearNotes b).rain = s.rain ∧
    (s.clearNotes b).spill = s.spill ∧ (s.clearNotes b).tanks = s.tanks ∧ (s.clearNotes b).drains = s.drains ∧
    (s.clearNotes b).leg = s.leg ∧ (s.clearNotes b).save = s.save ∧ (s.clearNotes b).media = s.media ∧
    (s.clearNotes b).trigger = s.trigger := by
  refine ⟨?_, ?_, ?_, ?_, ?_, ?_, ?_, ?_, ?_, ?_, ?_, ?_, ?_⟩
  all_goals simp [clearNotes]

@[simp] theorem kept_setRetired (r : Retired) :
    (s.setRetired r).ports = s.ports ∧ (s.setRetired r).outer = s.outer ∧ (s.setRetired r).transfers = s.transfers ∧
    (s.setRetired r).allow = s.allow ∧ (s.setRetired r).works = s.works ∧ (s.setRetired r).channels = s.channels ∧
    (s.setRetired r).rain = s.rain ∧ (s.setRetired r).spill = s.spill ∧ (s.setRetired r).tanks = s.tanks ∧
    (s.setRetired r).drains = s.drains ∧ (s.setRetired r).leg = s.leg ∧ (s.setRetired r).store = s.store ∧
    (s.setRetired r).trigger = s.trigger := by
  refine ⟨?_, ?_, ?_, ?_, ?_, ?_, ?_, ?_, ?_, ?_, ?_, ?_, ?_⟩
  all_goals
    unfold setRetired
    split
  all_goals simp

@[simp] theorem kept_listRetired (b : Fin 64) :
    (s.listRetired b).outer = s.outer ∧ (s.listRetired b).transfers = s.transfers ∧
    (s.listRetired b).allow = s.allow ∧ (s.listRetired b).works = s.works ∧ (s.listRetired b).channels = s.channels ∧
    (s.listRetired b).rain = s.rain ∧ (s.listRetired b).spill = s.spill ∧ (s.listRetired b).tanks = s.tanks ∧
    (s.listRetired b).drains = s.drains ∧ (s.listRetired b).leg = s.leg ∧ (s.listRetired b).store = s.store ∧
    (s.listRetired b).trigger = s.trigger := by
  refine ⟨?_, ?_, ?_, ?_, ?_, ?_, ?_, ?_, ?_, ?_, ?_, ?_⟩
  all_goals
    unfold listRetired
    split
  all_goals simp

@[simp] theorem kept_retireBlock (b : Fin 64) (page : Option (Fin 16)) :
    (s.retireBlock b page).outer = s.outer ∧ (s.retireBlock b page).transfers = s.transfers ∧
    (s.retireBlock b page).allow = s.allow ∧ (s.retireBlock b page).works = s.works ∧
    (s.retireBlock b page).channels = s.channels ∧ (s.retireBlock b page).rain = s.rain ∧
    (s.retireBlock b page).spill = s.spill ∧ (s.retireBlock b page).tanks = s.tanks ∧
    (s.retireBlock b page).drains = s.drains ∧ (s.retireBlock b page).leg = s.leg ∧
    (s.retireBlock b page).trigger = s.trigger := by
  refine ⟨?_, ?_, ?_, ?_, ?_, ?_, ?_, ?_, ?_, ?_, ?_⟩
  all_goals
    unfold retireBlock
    repeat' split
  all_goals simp

@[simp] theorem kept_afterRetirement :
    s.afterRetirement.outer = s.outer ∧ s.afterRetirement.transfers = s.transfers ∧
    s.afterRetirement.allow = s.allow ∧ s.afterRetirement.works = s.works ∧ s.afterRetirement.channels = s.channels ∧
    s.afterRetirement.rain = s.rain ∧ s.afterRetirement.spill = s.spill ∧ s.afterRetirement.tanks = s.tanks ∧
    s.afterRetirement.drains = s.drains ∧ s.afterRetirement.leg = s.leg ∧ s.afterRetirement.save = s.save ∧
    s.afterRetirement.media = s.media ∧ s.afterRetirement.trigger = s.trigger := by
  refine ⟨?_, ?_, ?_, ?_, ?_, ?_, ?_, ?_, ?_, ?_, ?_, ?_, ?_⟩
  all_goals
    unfold afterRetirement
    repeat' split
  all_goals simp

@[simp] theorem kept_noteRecords (b : Fin 64) (records : List (List Byte)) :
    (s.noteRecords b records).outer = s.outer ∧ (s.noteRecords b records).transfers = s.transfers ∧
    (s.noteRecords b records).allow = s.allow ∧ (s.noteRecords b records).works = s.works ∧
    (s.noteRecords b records).channels = s.channels ∧ (s.noteRecords b records).rain = s.rain ∧
    (s.noteRecords b records).spill = s.spill ∧ (s.noteRecords b records).tanks = s.tanks ∧
    (s.noteRecords b records).drains = s.drains ∧ (s.noteRecords b records).leg = s.leg ∧
    (s.noteRecords b records).save = s.save ∧ (s.noteRecords b records).media = s.media ∧
    (s.noteRecords b records).trigger = s.trigger := by
  refine ⟨?_, ?_, ?_, ?_, ?_, ?_, ?_, ?_, ?_, ?_, ?_, ?_, ?_⟩
  all_goals simp [noteRecords]

@[simp] theorem kept_askAgain :
    s.askAgain.outer = s.outer ∧ s.askAgain.transfers = s.transfers ∧ s.askAgain.allow = s.allow ∧
    s.askAgain.works = s.works ∧ s.askAgain.channels = s.channels ∧ s.askAgain.rain = s.rain ∧
    s.askAgain.spill = s.spill ∧ s.askAgain.tanks = s.tanks ∧ s.askAgain.drains = s.drains ∧ s.askAgain.leg = s.leg ∧
    s.askAgain.save = s.save ∧ s.askAgain.media = s.media ∧ s.askAgain.trigger = s.trigger := by
  refine ⟨?_, ?_, ?_, ?_, ?_, ?_, ?_, ?_, ?_, ?_, ?_, ?_, ?_⟩
  all_goals simp [askAgain]

@[simp] theorem kept_pageProgrammed (r : PageRef) (records : List (List Byte)) :
    (s.pageProgrammed r records).outer = s.outer ∧ (s.pageProgrammed r records).transfers = s.transfers ∧
    (s.pageProgrammed r records).allow = s.allow ∧ (s.pageProgrammed r records).works = s.works ∧
    (s.pageProgrammed r records).channels = s.channels ∧ (s.pageProgrammed r records).rain = s.rain ∧
    (s.pageProgrammed r records).spill = s.spill ∧ (s.pageProgrammed r records).tanks = s.tanks ∧
    (s.pageProgrammed r records).drains = s.drains ∧ (s.pageProgrammed r records).leg = s.leg ∧
    (s.pageProgrammed r records).save = s.save ∧ (s.pageProgrammed r records).trigger = s.trigger := by
  refine ⟨?_, ?_, ?_, ?_, ?_, ?_, ?_, ?_, ?_, ?_, ?_, ?_⟩
  all_goals simp [pageProgrammed]

@[simp] theorem kept_seekRelocation :
    s.seekRelocation.outer = s.outer ∧ s.seekRelocation.transfers = s.transfers ∧ s.seekRelocation.allow = s.allow ∧
    s.seekRelocation.works = s.works ∧ s.seekRelocation.channels = s.channels ∧ s.seekRelocation.rain = s.rain ∧
    s.seekRelocation.spill = s.spill ∧ s.seekRelocation.tanks = s.tanks ∧ s.seekRelocation.drains = s.drains ∧
    s.seekRelocation.leg = s.leg ∧ s.seekRelocation.save = s.save ∧ s.seekRelocation.media = s.media ∧
    s.seekRelocation.trigger = s.trigger := by
  refine ⟨?_, ?_, ?_, ?_, ?_, ?_, ?_, ?_, ?_, ?_, ?_, ?_, ?_⟩
  all_goals
    unfold seekRelocation
    repeat' split
  all_goals simp

@[simp] theorem kept_programFailed (r : PageRef) :
    (s.programFailed r).outer = s.outer ∧ (s.programFailed r).transfers = s.transfers ∧
    (s.programFailed r).allow = s.allow ∧ (s.programFailed r).works = s.works ∧
    (s.programFailed r).channels = s.channels ∧ (s.programFailed r).rain = s.rain ∧
    (s.programFailed r).spill = s.spill ∧ (s.programFailed r).tanks = s.tanks ∧
    (s.programFailed r).drains = s.drains ∧ (s.programFailed r).leg = s.leg ∧ (s.programFailed r).save = s.save ∧
    (s.programFailed r).trigger = s.trigger := by
  refine ⟨?_, ?_, ?_, ?_, ?_, ?_, ?_, ?_, ?_, ?_, ?_, ?_⟩
  all_goals
    unfold programFailed
    dsimp only
    repeat' split
  all_goals simp

@[simp] theorem kept_relocationFailed (r : PageRef) (records : List (List Byte)) :
    (s.relocationFailed r records).outer = s.outer ∧ (s.relocationFailed r records).transfers = s.transfers ∧
    (s.relocationFailed r records).allow = s.allow ∧ (s.relocationFailed r records).works = s.works ∧
    (s.relocationFailed r records).channels = s.channels ∧ (s.relocationFailed r records).rain = s.rain ∧
    (s.relocationFailed r records).spill = s.spill ∧ (s.relocationFailed r records).tanks = s.tanks ∧
    (s.relocationFailed r records).drains = s.drains ∧ (s.relocationFailed r records).leg = s.leg ∧
    (s.relocationFailed r records).trigger = s.trigger := by
  refine ⟨?_, ?_, ?_, ?_, ?_, ?_, ?_, ?_, ?_, ?_, ?_⟩
  all_goals simp [relocationFailed]

@[simp] theorem kept_movePages (source target : Fin 64) (below : Nat) :
    (s.movePages source target below).outer = s.outer ∧ (s.movePages source target below).transfers = s.transfers ∧
    (s.movePages source target below).allow = s.allow ∧ (s.movePages source target below).works = s.works ∧
    (s.movePages source target below).channels = s.channels ∧ (s.movePages source target below).rain = s.rain ∧
    (s.movePages source target below).spill = s.spill ∧ (s.movePages source target below).tanks = s.tanks ∧
    (s.movePages source target below).drains = s.drains ∧ (s.movePages source target below).leg = s.leg ∧
    (s.movePages source target below).save = s.save ∧ (s.movePages source target below).media = s.media ∧
    (s.movePages source target below).trigger = s.trigger := by
  refine ⟨?_, ?_, ?_, ?_, ?_, ?_, ?_, ?_, ?_, ?_, ?_, ?_, ?_⟩
  all_goals simp [movePages]

@[simp] theorem kept_relocated (r : PageRef) (records : List (List Byte)) :
    (s.relocated r records).outer = s.outer ∧ (s.relocated r records).transfers = s.transfers ∧
    (s.relocated r records).allow = s.allow ∧ (s.relocated r records).works = s.works ∧
    (s.relocated r records).channels = s.channels ∧ (s.relocated r records).rain = s.rain ∧
    (s.relocated r records).spill = s.spill ∧ (s.relocated r records).tanks = s.tanks ∧
    (s.relocated r records).drains = s.drains ∧ (s.relocated r records).leg = s.leg ∧
    (s.relocated r records).trigger = s.trigger := by
  refine ⟨?_, ?_, ?_, ?_, ?_, ?_, ?_, ?_, ?_, ?_, ?_⟩
  all_goals
    unfold relocated
    repeat' split
  all_goals simp

@[simp] theorem kept_erased (b : Fin 64) :
    (s.erased b).outer = s.outer ∧ (s.erased b).transfers = s.transfers ∧ (s.erased b).allow = s.allow ∧
    (s.erased b).works = s.works ∧ (s.erased b).channels = s.channels ∧ (s.erased b).rain = s.rain ∧
    (s.erased b).spill = s.spill ∧ (s.erased b).tanks = s.tanks ∧ (s.erased b).drains = s.drains ∧
    (s.erased b).leg = s.leg ∧ (s.erased b).save = s.save ∧ (s.erased b).trigger = s.trigger := by
  refine ⟨?_, ?_, ?_, ?_, ?_, ?_, ?_, ?_, ?_, ?_, ?_, ?_⟩
  all_goals
    unfold erased
    dsimp only
    repeat' split
  all_goals simp

@[simp] theorem kept_eraseFailed (b : Fin 64) :
    (s.eraseFailed b).outer = s.outer ∧ (s.eraseFailed b).transfers = s.transfers ∧
    (s.eraseFailed b).allow = s.allow ∧ (s.eraseFailed b).works = s.works ∧ (s.eraseFailed b).channels = s.channels ∧
    (s.eraseFailed b).rain = s.rain ∧ (s.eraseFailed b).spill = s.spill ∧ (s.eraseFailed b).tanks = s.tanks ∧
    (s.eraseFailed b).drains = s.drains ∧ (s.eraseFailed b).leg = s.leg ∧ (s.eraseFailed b).trigger = s.trigger := by
  refine ⟨?_, ?_, ?_, ?_, ?_, ?_, ?_, ?_, ?_, ?_, ?_⟩
  all_goals simp [eraseFailed]

@[simp] theorem kept_beginOperation (o : ArrayOp) :
    (s.beginOperation o).outer = s.outer ∧ (s.beginOperation o).transfers = s.transfers ∧
    (s.beginOperation o).allow = s.allow ∧ (s.beginOperation o).works = s.works ∧
    (s.beginOperation o).channels = s.channels ∧ (s.beginOperation o).rain = s.rain ∧
    (s.beginOperation o).spill = s.spill ∧ (s.beginOperation o).tanks = s.tanks ∧
    (s.beginOperation o).drains = s.drains ∧ (s.beginOperation o).leg = s.leg ∧ (s.beginOperation o).save = s.save ∧
    (s.beginOperation o).media = s.media ∧ (s.beginOperation o).trigger = s.trigger := by
  refine ⟨?_, ?_, ?_, ?_, ?_, ?_, ?_, ?_, ?_, ?_, ?_, ?_, ?_⟩
  all_goals
    unfold beginOperation
    repeat' split
  all_goals simp

@[simp] theorem kept_operationEnds :
    s.operationEnds.outer = s.outer ∧ s.operationEnds.transfers = s.transfers ∧ s.operationEnds.allow = s.allow ∧
    s.operationEnds.works = s.works ∧ s.operationEnds.channels = s.channels ∧ s.operationEnds.rain = s.rain ∧
    s.operationEnds.spill = s.spill ∧ s.operationEnds.tanks = s.tanks ∧ s.operationEnds.drains = s.drains ∧
    s.operationEnds.leg = s.leg ∧ s.operationEnds.save = s.save ∧ s.operationEnds.media = s.media ∧
    s.operationEnds.trigger = s.trigger := by
  refine ⟨?_, ?_, ?_, ?_, ?_, ?_, ?_, ?_, ?_, ?_, ?_, ?_, ?_⟩
  all_goals simp [operationEnds]

@[simp] theorem kept_loadBuffer (r : PageRef) (i : Fin 2) (sound : Bool) :
    (s.loadBuffer r i sound).outer = s.outer ∧ (s.loadBuffer r i sound).transfers = s.transfers ∧
    (s.loadBuffer r i sound).allow = s.allow ∧ (s.loadBuffer r i sound).works = s.works ∧
    (s.loadBuffer r i sound).channels = s.channels ∧ (s.loadBuffer r i sound).rain = s.rain ∧
    (s.loadBuffer r i sound).spill = s.spill ∧ (s.loadBuffer r i sound).tanks = s.tanks ∧
    (s.loadBuffer r i sound).drains = s.drains ∧ (s.loadBuffer r i sound).leg = s.leg ∧
    (s.loadBuffer r i sound).save = s.save ∧ (s.loadBuffer r i sound).media = s.media ∧
    (s.loadBuffer r i sound).trigger = s.trigger := by
  refine ⟨?_, ?_, ?_, ?_, ?_, ?_, ?_, ?_, ?_, ?_, ?_, ?_, ?_⟩
  all_goals simp [loadBuffer]

@[simp] theorem kept_queuePrefetch (r : PageRef) (i : Fin 2) :
    (s.queuePrefetch r i).outer = s.outer ∧ (s.queuePrefetch r i).transfers = s.transfers ∧
    (s.queuePrefetch r i).allow = s.allow ∧ (s.queuePrefetch r i).works = s.works ∧
    (s.queuePrefetch r i).channels = s.channels ∧ (s.queuePrefetch r i).rain = s.rain ∧
    (s.queuePrefetch r i).spill = s.spill ∧ (s.queuePrefetch r i).tanks = s.tanks ∧
    (s.queuePrefetch r i).drains = s.drains ∧ (s.queuePrefetch r i).leg = s.leg ∧
    (s.queuePrefetch r i).save = s.save ∧ (s.queuePrefetch r i).media = s.media ∧
    (s.queuePrefetch r i).trigger = s.trigger := by
  refine ⟨?_, ?_, ?_, ?_, ?_, ?_, ?_, ?_, ?_, ?_, ?_, ?_, ?_⟩
  all_goals
    unfold queuePrefetch
    repeat' split
  all_goals simp

@[simp] theorem kept_queueDemand (r : PageRef) :
    (s.queueDemand r).outer = s.outer ∧ (s.queueDemand r).transfers = s.transfers ∧
    (s.queueDemand r).allow = s.allow ∧ (s.queueDemand r).works = s.works ∧ (s.queueDemand r).channels = s.channels ∧
    (s.queueDemand r).rain = s.rain ∧ (s.queueDemand r).spill = s.spill ∧ (s.queueDemand r).tanks = s.tanks ∧
    (s.queueDemand r).drains = s.drains ∧ (s.queueDemand r).leg = s.leg ∧ (s.queueDemand r).save = s.save ∧
    (s.queueDemand r).media = s.media ∧ (s.queueDemand r).trigger = s.trigger := by
  refine ⟨?_, ?_, ?_, ?_, ?_, ?_, ?_, ?_, ?_, ?_, ?_, ?_, ?_⟩
  all_goals
    unfold queueDemand
    repeat' split
  all_goals simp

@[simp] theorem kept_setCursor (n : Nat) :
    (s.setCursor n).outer = s.outer ∧ (s.setCursor n).transfers = s.transfers ∧ (s.setCursor n).allow = s.allow ∧
    (s.setCursor n).works = s.works ∧ (s.setCursor n).channels = s.channels ∧ (s.setCursor n).rain = s.rain ∧
    (s.setCursor n).spill = s.spill ∧ (s.setCursor n).tanks = s.tanks ∧ (s.setCursor n).drains = s.drains ∧
    (s.setCursor n).leg = s.leg ∧ (s.setCursor n).save = s.save ∧ (s.setCursor n).media = s.media ∧
    (s.setCursor n).trigger = s.trigger := by
  refine ⟨?_, ?_, ?_, ?_, ?_, ?_, ?_, ?_, ?_, ?_, ?_, ?_, ?_⟩
  all_goals simp [setCursor]

@[simp] theorem kept_watchSettled (before after : State) :
    (watchSettled before after).outer = after.outer ∧ (watchSettled before after).transfers = after.transfers ∧
    (watchSettled before after).allow = after.allow ∧ (watchSettled before after).works = after.works ∧
    (watchSettled before after).channels = after.channels ∧ (watchSettled before after).rain = after.rain ∧
    (watchSettled before after).spill = after.spill ∧ (watchSettled before after).tanks = after.tanks ∧
    (watchSettled before after).drains = after.drains ∧ (watchSettled before after).leg = after.leg ∧
    (watchSettled before after).store = after.store ∧ (watchSettled before after).save = after.save ∧
    (watchSettled before after).media = after.media ∧ (watchSettled before after).trigger = after.trigger := by
  refine ⟨?_, ?_, ?_, ?_, ?_, ?_, ?_, ?_, ?_, ?_, ?_, ?_, ?_, ?_⟩
  all_goals
    unfold watchSettled
    repeat' split
  all_goals simp

@[simp] theorem kept_publish (ts : List (Fin 8)) :
    (s.publish ts).outer = s.outer ∧ (s.publish ts).transfers = s.transfers ∧ (s.publish ts).allow = s.allow ∧
    (s.publish ts).works = s.works ∧ (s.publish ts).channels = s.channels ∧ (s.publish ts).rain = s.rain ∧
    (s.publish ts).spill = s.spill ∧ (s.publish ts).leg = s.leg ∧ (s.publish ts).store = s.store ∧
    (s.publish ts).save = s.save ∧ (s.publish ts).media = s.media ∧ (s.publish ts).trigger = s.trigger := by
  unfold publish
  split
  · simp
  · refine ⟨?_, ?_, ?_, ?_, ?_, ?_, ?_, ?_, ?_, ?_, ?_, ?_⟩
    all_goals
      refine (foldl_keeps _ _ (fun s t => s.notifyOwner .grantChanged t) (fun _ _ => by simp) ts).trans ?_
      refine (foldl_keeps _ _ _ ?_ ts).trans rfl
      intro _ _
      rfl

@[simp] theorem kept_clearOverdue (t : Fin 8) (cause : OverdueCause) :
    (s.clearOverdue t cause).outer = s.outer ∧ (s.clearOverdue t cause).transfers = s.transfers ∧
    (s.clearOverdue t cause).allow = s.allow ∧ (s.clearOverdue t cause).works = s.works ∧
    (s.clearOverdue t cause).channels = s.channels ∧ (s.clearOverdue t cause).rain = s.rain ∧
    (s.clearOverdue t cause).spill = s.spill ∧ (s.clearOverdue t cause).drains = s.drains ∧
    (s.clearOverdue t cause).leg = s.leg ∧ (s.clearOverdue t cause).save = s.save ∧
    (s.clearOverdue t cause).media = s.media := by
  refine ⟨?_, ?_, ?_, ?_, ?_, ?_, ?_, ?_, ?_, ?_, ?_⟩
  all_goals
    unfold clearOverdue
    dsimp only
    repeat' split
  all_goals simp

@[simp] theorem kept_acknowledge (t : Fin 8) (serial : Word) (rate : Nat) :
    (s.acknowledge t serial rate).outer = s.outer ∧ (s.acknowledge t serial rate).transfers = s.transfers ∧
    (s.acknowledge t serial rate).allow = s.allow ∧ (s.acknowledge t serial rate).works = s.works ∧
    (s.acknowledge t serial rate).channels = s.channels ∧ (s.acknowledge t serial rate).rain = s.rain ∧
    (s.acknowledge t serial rate).spill = s.spill ∧ (s.acknowledge t serial rate).drains = s.drains ∧
    (s.acknowledge t serial rate).leg = s.leg ∧ (s.acknowledge t serial rate).save = s.save ∧
    (s.acknowledge t serial rate).media = s.media := by
  refine ⟨?_, ?_, ?_, ?_, ?_, ?_, ?_, ?_, ?_, ?_, ?_⟩
  all_goals simp [acknowledge]

@[simp] theorem kept_siteZero (t : Fin 8) (cause : OverdueCause) :
    (s.siteZero t cause).outer = s.outer ∧ (s.siteZero t cause).transfers = s.transfers ∧
    (s.siteZero t cause).allow = s.allow ∧ (s.siteZero t cause).works = s.works ∧
    (s.siteZero t cause).channels = s.channels ∧ (s.siteZero t cause).rain = s.rain ∧
    (s.siteZero t cause).spill = s.spill ∧ (s.siteZero t cause).drains = s.drains ∧
    (s.siteZero t cause).leg = s.leg ∧ (s.siteZero t cause).save = s.save ∧ (s.siteZero t cause).media = s.media := by
  refine ⟨?_, ?_, ?_, ?_, ?_, ?_, ?_, ?_, ?_, ?_, ?_⟩
  all_goals simp [siteZero]

@[simp] theorem kept_stopZero (t : Fin 8) :
    (s.stopZero t).outer = s.outer ∧ (s.stopZero t).transfers = s.transfers ∧
    (s.stopZero t).allow = s.allow ∧ (s.stopZero t).works = s.works ∧
    (s.stopZero t).channels = s.channels ∧ (s.stopZero t).rain = s.rain ∧
    (s.stopZero t).spill = s.spill ∧ (s.stopZero t).drains = s.drains ∧
    (s.stopZero t).leg = s.leg ∧ (s.stopZero t).save = s.save ∧ (s.stopZero t).media = s.media := by
  refine ⟨?_, ?_, ?_, ?_, ?_, ?_, ?_, ?_, ?_, ?_, ?_⟩
  all_goals simp [stopZero]

@[simp] theorem kept_becomeOverdue (t : Fin 8) (d : Deadline) :
    (s.becomeOverdue t d).outer = s.outer ∧ (s.becomeOverdue t d).transfers = s.transfers ∧
    (s.becomeOverdue t d).allow = s.allow ∧ (s.becomeOverdue t d).works = s.works ∧
    (s.becomeOverdue t d).channels = s.channels ∧ (s.becomeOverdue t d).rain = s.rain ∧
    (s.becomeOverdue t d).spill = s.spill ∧ (s.becomeOverdue t d).drains = s.drains ∧
    (s.becomeOverdue t d).leg = s.leg ∧ (s.becomeOverdue t d).save = s.save ∧
    (s.becomeOverdue t d).media = s.media := by
  refine ⟨?_, ?_, ?_, ?_, ?_, ?_, ?_, ?_, ?_, ?_, ?_⟩
  all_goals
    unfold becomeOverdue
    dsimp only
    repeat' split
  all_goals simp

@[simp] theorem kept_overdrawCheck (t : Fin 8) (rate : Nat) :
    (s.overdrawCheck t rate).outer = s.outer ∧ (s.overdrawCheck t rate).transfers = s.transfers ∧
    (s.overdrawCheck t rate).allow = s.allow ∧ (s.overdrawCheck t rate).works = s.works ∧
    (s.overdrawCheck t rate).channels = s.channels ∧ (s.overdrawCheck t rate).rain = s.rain ∧
    (s.overdrawCheck t rate).spill = s.spill ∧ (s.overdrawCheck t rate).drains = s.drains ∧
    (s.overdrawCheck t rate).leg = s.leg ∧ (s.overdrawCheck t rate).store = s.store ∧
    (s.overdrawCheck t rate).save = s.save ∧ (s.overdrawCheck t rate).media = s.media ∧
    (s.overdrawCheck t rate).trigger = s.trigger := by
  refine ⟨?_, ?_, ?_, ?_, ?_, ?_, ?_, ?_, ?_, ?_, ?_, ?_, ?_⟩
  all_goals
    unfold overdrawCheck
    dsimp only
    repeat' split
  all_goals simp

@[simp] theorem kept_resetDrawCheck (t : Fin 8) :
    (s.resetDrawCheck t).outer = s.outer ∧ (s.resetDrawCheck t).transfers = s.transfers ∧
    (s.resetDrawCheck t).allow = s.allow ∧ (s.resetDrawCheck t).works = s.works ∧
    (s.resetDrawCheck t).channels = s.channels ∧ (s.resetDrawCheck t).rain = s.rain ∧
    (s.resetDrawCheck t).spill = s.spill ∧ (s.resetDrawCheck t).drains = s.drains ∧
    (s.resetDrawCheck t).leg = s.leg ∧ (s.resetDrawCheck t).store = s.store ∧ (s.resetDrawCheck t).save = s.save ∧
    (s.resetDrawCheck t).media = s.media ∧ (s.resetDrawCheck t).trigger = s.trigger := by
  refine ⟨?_, ?_, ?_, ?_, ?_, ?_, ?_, ?_, ?_, ?_, ?_, ?_, ?_⟩
  all_goals simp [resetDrawCheck]

@[simp] theorem kept_legCheck (rate : Nat) :
    (s.legCheck rate).outer = s.outer ∧ (s.legCheck rate).transfers = s.transfers ∧
    (s.legCheck rate).allow = s.allow ∧ (s.legCheck rate).works = s.works ∧ (s.legCheck rate).channels = s.channels ∧
    (s.legCheck rate).rain = s.rain ∧ (s.legCheck rate).spill = s.spill ∧ (s.legCheck rate).tanks = s.tanks ∧
    (s.legCheck rate).drains = s.drains ∧ (s.legCheck rate).store = s.store ∧ (s.legCheck rate).save = s.save ∧
    (s.legCheck rate).media = s.media ∧ (s.legCheck rate).trigger = s.trigger := by
  refine ⟨?_, ?_, ?_, ?_, ?_, ?_, ?_, ?_, ?_, ?_, ?_, ?_, ?_⟩
  all_goals
    unfold legCheck
    repeat' split
  all_goals simp

@[simp] theorem kept_resetLegCheck :
    s.resetLegCheck.outer = s.outer ∧ s.resetLegCheck.transfers = s.transfers ∧ s.resetLegCheck.allow = s.allow ∧
    s.resetLegCheck.works = s.works ∧ s.resetLegCheck.channels = s.channels ∧ s.resetLegCheck.rain = s.rain ∧
    s.resetLegCheck.spill = s.spill ∧ s.resetLegCheck.tanks = s.tanks ∧ s.resetLegCheck.drains = s.drains ∧
    s.resetLegCheck.store = s.store ∧ s.resetLegCheck.save = s.save ∧ s.resetLegCheck.media = s.media ∧
    s.resetLegCheck.trigger = s.trigger := by
  refine ⟨?_, ?_, ?_, ?_, ?_, ?_, ?_, ?_, ?_, ?_, ?_, ?_, ?_⟩
  all_goals simp [resetLegCheck]

@[simp] theorem kept_fixMode (t : Fin 8) :
    (s.fixMode t).outer = s.outer ∧ (s.fixMode t).transfers = s.transfers ∧ (s.fixMode t).allow = s.allow ∧
    (s.fixMode t).works = s.works ∧ (s.fixMode t).channels = s.channels ∧ (s.fixMode t).rain = s.rain ∧
    (s.fixMode t).spill = s.spill ∧ (s.fixMode t).drains = s.drains ∧ (s.fixMode t).leg = s.leg ∧
    (s.fixMode t).store = s.store ∧ (s.fixMode t).save = s.save ∧ (s.fixMode t).media = s.media ∧
    (s.fixMode t).trigger = s.trigger := by
  refine ⟨?_, ?_, ?_, ?_, ?_, ?_, ?_, ?_, ?_, ?_, ?_, ?_, ?_⟩
  all_goals
    unfold fixMode
    repeat' split
  all_goals simp

@[simp] theorem kept_allocateTank (gs : List (Fin 8 × Nat)) (t : Fin 8) :
    (allocateTank gs s t).outer = s.outer ∧ (allocateTank gs s t).transfers = s.transfers ∧
    (allocateTank gs s t).allow = s.allow ∧ (allocateTank gs s t).works = s.works ∧
    (allocateTank gs s t).channels = s.channels ∧ (allocateTank gs s t).rain = s.rain ∧
    (allocateTank gs s t).spill = s.spill ∧ (allocateTank gs s t).drains = s.drains ∧
    (allocateTank gs s t).leg = s.leg ∧ (allocateTank gs s t).store = s.store ∧ (allocateTank gs s t).save = s.save ∧
    (allocateTank gs s t).media = s.media ∧ (allocateTank gs s t).trigger = s.trigger := by
  refine ⟨?_, ?_, ?_, ?_, ?_, ?_, ?_, ?_, ?_, ?_, ?_, ?_, ?_⟩
  all_goals
    unfold allocateTank
    dsimp only
    repeat' split
  all_goals simp

@[simp] theorem kept_reallocate :
    s.reallocate.outer = s.outer ∧ s.reallocate.transfers = s.transfers ∧ s.reallocate.allow = s.allow ∧
    s.reallocate.works = s.works ∧ s.reallocate.channels = s.channels ∧ s.reallocate.rain = s.rain ∧
    s.reallocate.spill = s.spill ∧ s.reallocate.leg = s.leg ∧ s.reallocate.store = s.store ∧
    s.reallocate.save = s.save ∧ s.reallocate.media = s.media ∧ s.reallocate.trigger = s.trigger := by
  refine ⟨?_, ?_, ?_, ?_, ?_, ?_, ?_, ?_, ?_, ?_, ?_, ?_⟩
  all_goals simp [reallocate, outer_foldl, transfers_foldl, allow_foldl, works_foldl, channels_foldl, rain_foldl, spill_foldl, leg_foldl, store_foldl, save_foldl, media_foldl, trigger_foldl]

@[simp] theorem kept_finishEvent :
    s.finishEvent.outer = s.outer ∧ s.finishEvent.transfers = s.transfers ∧ s.finishEvent.allow = s.allow ∧
    s.finishEvent.works = s.works ∧ s.finishEvent.channels = s.channels ∧ s.finishEvent.rain = s.rain ∧
    s.finishEvent.spill = s.spill ∧ s.finishEvent.leg = s.leg ∧ s.finishEvent.save = s.save ∧
    s.finishEvent.media = s.media := by
  refine ⟨?_, ?_, ?_, ?_, ?_, ?_, ?_, ?_, ?_, ?_⟩
  all_goals
    unfold finishEvent
    repeat' split
  all_goals simp

@[simp] theorem kept_leaveList (t : Fin 8) (reason : DrainReason) :
    (s.leaveList t reason).outer = s.outer ∧ (s.leaveList t reason).transfers = s.transfers ∧
    (s.leaveList t reason).allow = s.allow ∧ (s.leaveList t reason).works = s.works ∧
    (s.leaveList t reason).channels = s.channels ∧ (s.leaveList t reason).rain = s.rain ∧
    (s.leaveList t reason).spill = s.spill ∧ (s.leaveList t reason).leg = s.leg ∧
    (s.leaveList t reason).store = s.store ∧ (s.leaveList t reason).save = s.save ∧
    (s.leaveList t reason).media = s.media := by
  refine ⟨?_, ?_, ?_, ?_, ?_, ?_, ?_, ?_, ?_, ?_, ?_⟩
  all_goals simp [leaveList]

@[simp] theorem kept_joinList (t : Fin 8) (m n : Nat) :
    (s.joinList t m n).outer = s.outer ∧ (s.joinList t m n).transfers = s.transfers ∧
    (s.joinList t m n).allow = s.allow ∧ (s.joinList t m n).works = s.works ∧
    (s.joinList t m n).channels = s.channels ∧ (s.joinList t m n).rain = s.rain ∧
    (s.joinList t m n).spill = s.spill ∧ (s.joinList t m n).leg = s.leg ∧ (s.joinList t m n).store = s.store ∧
    (s.joinList t m n).save = s.save ∧ (s.joinList t m n).media = s.media := by
  refine ⟨?_, ?_, ?_, ?_, ?_, ?_, ?_, ?_, ?_, ?_, ?_⟩
  all_goals simp [joinList]

@[simp] theorem kept_setRequest (t : Fin 8) (m n : Nat) :
    (s.setRequest t m n).outer = s.outer ∧ (s.setRequest t m n).transfers = s.transfers ∧
    (s.setRequest t m n).allow = s.allow ∧ (s.setRequest t m n).works = s.works ∧
    (s.setRequest t m n).channels = s.channels ∧ (s.setRequest t m n).rain = s.rain ∧
    (s.setRequest t m n).spill = s.spill ∧ (s.setRequest t m n).drains = s.drains ∧
    (s.setRequest t m n).leg = s.leg ∧ (s.setRequest t m n).store = s.store ∧ (s.setRequest t m n).save = s.save ∧
    (s.setRequest t m n).media = s.media := by
  refine ⟨?_, ?_, ?_, ?_, ?_, ?_, ?_, ?_, ?_, ?_, ?_, ?_⟩
  all_goals
    unfold setRequest
    repeat' split
  all_goals simp

@[simp] theorem kept_recomputeWeight (t : Fin 8) :
    (s.recomputeWeight t).outer = s.outer ∧ (s.recomputeWeight t).transfers = s.transfers ∧
    (s.recomputeWeight t).allow = s.allow ∧ (s.recomputeWeight t).works = s.works ∧
    (s.recomputeWeight t).channels = s.channels ∧ (s.recomputeWeight t).rain = s.rain ∧
    (s.recomputeWeight t).spill = s.spill ∧ (s.recomputeWeight t).drains = s.drains ∧
    (s.recomputeWeight t).leg = s.leg ∧ (s.recomputeWeight t).store = s.store ∧ (s.recomputeWeight t).save = s.save ∧
    (s.recomputeWeight t).media = s.media := by
  refine ⟨?_, ?_, ?_, ?_, ?_, ?_, ?_, ?_, ?_, ?_, ?_, ?_⟩
  all_goals
    unfold recomputeWeight
    dsimp only
    repeat' split
  all_goals simp

@[simp] theorem kept_setPhase (t : Fin 8) (p : Phase) :
    (s.setPhase t p).outer = s.outer ∧ (s.setPhase t p).transfers = s.transfers ∧ (s.setPhase t p).allow = s.allow ∧
    (s.setPhase t p).works = s.works ∧ (s.setPhase t p).channels = s.channels ∧ (s.setPhase t p).rain = s.rain ∧
    (s.setPhase t p).spill = s.spill ∧ (s.setPhase t p).leg = s.leg ∧ (s.setPhase t p).store = s.store ∧
    (s.setPhase t p).save = s.save ∧ (s.setPhase t p).media = s.media := by
  refine ⟨?_, ?_, ?_, ?_, ?_, ?_, ?_, ?_, ?_, ?_, ?_⟩
  all_goals
    unfold setPhase
    dsimp only
    repeat' split
  all_goals simp

@[simp] theorem kept_openCycle (t : Fin 8) (late : Bool) :
    (s.openCycle t late).outer = s.outer ∧ (s.openCycle t late).transfers = s.transfers ∧
    (s.openCycle t late).allow = s.allow ∧ (s.openCycle t late).works = s.works ∧
    (s.openCycle t late).channels = s.channels ∧ (s.openCycle t late).rain = s.rain ∧
    (s.openCycle t late).spill = s.spill ∧ (s.openCycle t late).drains = s.drains ∧
    (s.openCycle t late).leg = s.leg ∧ (s.openCycle t late).store = s.store ∧ (s.openCycle t late).save = s.save ∧
    (s.openCycle t late).media = s.media ∧ (s.openCycle t late).trigger = s.trigger := by
  refine ⟨?_, ?_, ?_, ?_, ?_, ?_, ?_, ?_, ?_, ?_, ?_, ?_, ?_⟩
  all_goals
    unfold openCycle
    dsimp only
    repeat' split
  all_goals simp

@[simp] theorem kept_closeCycle (t : Fin 8) (reason : EndReason) :
    (s.closeCycle t reason).outer = s.outer ∧ (s.closeCycle t reason).transfers = s.transfers ∧
    (s.closeCycle t reason).allow = s.allow ∧ (s.closeCycle t reason).works = s.works ∧
    (s.closeCycle t reason).channels = s.channels ∧ (s.closeCycle t reason).rain = s.rain ∧
    (s.closeCycle t reason).spill = s.spill ∧ (s.closeCycle t reason).drains = s.drains ∧
    (s.closeCycle t reason).leg = s.leg ∧ (s.closeCycle t reason).save = s.save ∧
    (s.closeCycle t reason).media = s.media ∧ (s.closeCycle t reason).trigger = s.trigger := by
  refine ⟨?_, ?_, ?_, ?_, ?_, ?_, ?_, ?_, ?_, ?_, ?_, ?_⟩
  all_goals
    unfold closeCycle
    repeat' split
  all_goals simp

@[simp] theorem kept_cyclePeak (t : Fin 8) (fill : Nat) :
    (s.cyclePeak t fill).outer = s.outer ∧ (s.cyclePeak t fill).transfers = s.transfers ∧
    (s.cyclePeak t fill).allow = s.allow ∧ (s.cyclePeak t fill).works = s.works ∧
    (s.cyclePeak t fill).channels = s.channels ∧ (s.cyclePeak t fill).rain = s.rain ∧
    (s.cyclePeak t fill).spill = s.spill ∧ (s.cyclePeak t fill).drains = s.drains ∧
    (s.cyclePeak t fill).leg = s.leg ∧ (s.cyclePeak t fill).store = s.store ∧ (s.cyclePeak t fill).save = s.save ∧
    (s.cyclePeak t fill).media = s.media ∧ (s.cyclePeak t fill).trigger = s.trigger := by
  refine ⟨?_, ?_, ?_, ?_, ?_, ?_, ?_, ?_, ?_, ?_, ?_, ?_, ?_⟩
  all_goals simp [cyclePeak]

@[simp] theorem kept_cycleFull (t : Fin 8) :
    (s.cycleFull t).outer = s.outer ∧ (s.cycleFull t).transfers = s.transfers ∧ (s.cycleFull t).allow = s.allow ∧
    (s.cycleFull t).works = s.works ∧ (s.cycleFull t).channels = s.channels ∧ (s.cycleFull t).rain = s.rain ∧
    (s.cycleFull t).spill = s.spill ∧ (s.cycleFull t).drains = s.drains ∧ (s.cycleFull t).leg = s.leg ∧
    (s.cycleFull t).store = s.store ∧ (s.cycleFull t).save = s.save ∧ (s.cycleFull t).media = s.media ∧
    (s.cycleFull t).trigger = s.trigger := by
  refine ⟨?_, ?_, ?_, ?_, ?_, ?_, ?_, ?_, ?_, ?_, ?_, ?_, ?_⟩
  all_goals simp [cycleFull]

@[simp] theorem kept_dryToWet (t : Fin 8) :
    (s.dryToWet t).outer = s.outer ∧ (s.dryToWet t).transfers = s.transfers ∧ (s.dryToWet t).allow = s.allow ∧
    (s.dryToWet t).works = s.works ∧ (s.dryToWet t).channels = s.channels ∧ (s.dryToWet t).rain = s.rain ∧
    (s.dryToWet t).spill = s.spill ∧ (s.dryToWet t).leg = s.leg ∧ (s.dryToWet t).store = s.store ∧
    (s.dryToWet t).save = s.save ∧ (s.dryToWet t).media = s.media := by
  refine ⟨?_, ?_, ?_, ?_, ?_, ?_, ?_, ?_, ?_, ?_, ?_⟩
  all_goals simp [dryToWet]

@[simp] theorem kept_wetToFull (t : Fin 8) :
    (s.wetToFull t).outer = s.outer ∧ (s.wetToFull t).transfers = s.transfers ∧ (s.wetToFull t).allow = s.allow ∧
    (s.wetToFull t).works = s.works ∧ (s.wetToFull t).channels = s.channels ∧ (s.wetToFull t).rain = s.rain ∧
    (s.wetToFull t).spill = s.spill ∧ (s.wetToFull t).leg = s.leg ∧ (s.wetToFull t).store = s.store ∧
    (s.wetToFull t).save = s.save ∧ (s.wetToFull t).media = s.media := by
  refine ⟨?_, ?_, ?_, ?_, ?_, ?_, ?_, ?_, ?_, ?_, ?_⟩
  all_goals simp [wetToFull]

@[simp] theorem kept_wetToDry (t : Fin 8) :
    (s.wetToDry t).outer = s.outer ∧ (s.wetToDry t).transfers = s.transfers ∧ (s.wetToDry t).allow = s.allow ∧
    (s.wetToDry t).works = s.works ∧ (s.wetToDry t).channels = s.channels ∧ (s.wetToDry t).rain = s.rain ∧
    (s.wetToDry t).spill = s.spill ∧ (s.wetToDry t).leg = s.leg ∧ (s.wetToDry t).save = s.save ∧
    (s.wetToDry t).media = s.media := by
  refine ⟨?_, ?_, ?_, ?_, ?_, ?_, ?_, ?_, ?_, ?_⟩
  all_goals simp [wetToDry]

@[simp] theorem kept_evaluatePhase (t : Fin 8) (fill : Nat) :
    (s.evaluatePhase t fill).outer = s.outer ∧ (s.evaluatePhase t fill).transfers = s.transfers ∧
    (s.evaluatePhase t fill).allow = s.allow ∧ (s.evaluatePhase t fill).works = s.works ∧
    (s.evaluatePhase t fill).channels = s.channels ∧ (s.evaluatePhase t fill).rain = s.rain ∧
    (s.evaluatePhase t fill).spill = s.spill ∧ (s.evaluatePhase t fill).leg = s.leg ∧
    (s.evaluatePhase t fill).save = s.save ∧ (s.evaluatePhase t fill).media = s.media := by
  refine ⟨?_, ?_, ?_, ?_, ?_, ?_, ?_, ?_, ?_, ?_⟩
  all_goals
    unfold evaluatePhase
    dsimp only
    repeat' split
  all_goals simp

@[simp] theorem kept_firstSample (t : Fin 8) (fill : Nat) :
    (s.firstSample t fill).outer = s.outer ∧ (s.firstSample t fill).transfers = s.transfers ∧
    (s.firstSample t fill).allow = s.allow ∧ (s.firstSample t fill).works = s.works ∧
    (s.firstSample t fill).channels = s.channels ∧ (s.firstSample t fill).rain = s.rain ∧
    (s.firstSample t fill).spill = s.spill ∧ (s.firstSample t fill).leg = s.leg ∧
    (s.firstSample t fill).save = s.save ∧ (s.firstSample t fill).media = s.media := by
  refine ⟨?_, ?_, ?_, ?_, ?_, ?_, ?_, ?_, ?_, ?_⟩
  all_goals
    unfold firstSample
    dsimp only
    repeat' split
  all_goals simp

@[simp] theorem kept_evaluateBand (t : Fin 8) (fill : Nat) :
    (s.evaluateBand t fill).outer = s.outer ∧ (s.evaluateBand t fill).transfers = s.transfers ∧
    (s.evaluateBand t fill).allow = s.allow ∧ (s.evaluateBand t fill).works = s.works ∧
    (s.evaluateBand t fill).channels = s.channels ∧ (s.evaluateBand t fill).rain = s.rain ∧
    (s.evaluateBand t fill).spill = s.spill ∧ (s.evaluateBand t fill).drains = s.drains ∧
    (s.evaluateBand t fill).leg = s.leg ∧ (s.evaluateBand t fill).store = s.store ∧
    (s.evaluateBand t fill).save = s.save ∧ (s.evaluateBand t fill).media = s.media ∧
    (s.evaluateBand t fill).trigger = s.trigger := by
  refine ⟨?_, ?_, ?_, ?_, ?_, ?_, ?_, ?_, ?_, ?_, ?_, ?_, ?_⟩
  all_goals simp [evaluateBand]

@[simp] theorem kept_evaluateFill (t : Fin 8) (fill : Nat) :
    (s.evaluateFill t fill).outer = s.outer ∧ (s.evaluateFill t fill).transfers = s.transfers ∧
    (s.evaluateFill t fill).allow = s.allow ∧ (s.evaluateFill t fill).works = s.works ∧
    (s.evaluateFill t fill).channels = s.channels ∧ (s.evaluateFill t fill).rain = s.rain ∧
    (s.evaluateFill t fill).spill = s.spill ∧ (s.evaluateFill t fill).leg = s.leg ∧
    (s.evaluateFill t fill).save = s.save ∧ (s.evaluateFill t fill).media = s.media := by
  refine ⟨?_, ?_, ?_, ?_, ?_, ?_, ?_, ?_, ?_, ?_⟩
  all_goals
    unfold evaluateFill
    repeat' split
  all_goals simp

@[simp] theorem kept_tankSample (t : Fin 8) (level : Nat) (clamped : Bool) :
    (s.tankSample t level clamped).outer = s.outer ∧ (s.tankSample t level clamped).transfers = s.transfers ∧
    (s.tankSample t level clamped).allow = s.allow ∧ (s.tankSample t level clamped).works = s.works ∧
    (s.tankSample t level clamped).channels = s.channels ∧ (s.tankSample t level clamped).rain = s.rain ∧
    (s.tankSample t level clamped).spill = s.spill ∧ (s.tankSample t level clamped).leg = s.leg ∧
    (s.tankSample t level clamped).save = s.save ∧ (s.tankSample t level clamped).media = s.media := by
  refine ⟨?_, ?_, ?_, ?_, ?_, ?_, ?_, ?_, ?_, ?_⟩
  all_goals simp [tankSample]

@[simp] theorem kept_reevaluate (t : Fin 8) :
    (s.reevaluate t).outer = s.outer ∧ (s.reevaluate t).transfers = s.transfers ∧ (s.reevaluate t).allow = s.allow ∧
    (s.reevaluate t).works = s.works ∧ (s.reevaluate t).channels = s.channels ∧ (s.reevaluate t).rain = s.rain ∧
    (s.reevaluate t).spill = s.spill ∧ (s.reevaluate t).leg = s.leg ∧ (s.reevaluate t).save = s.save ∧
    (s.reevaluate t).media = s.media := by
  refine ⟨?_, ?_, ?_, ?_, ?_, ?_, ?_, ?_, ?_, ?_⟩
  all_goals
    unfold reevaluate
    repeat' split
  all_goals simp

@[simp] theorem kept_leaveOffline (t : Fin 8) :
    (s.leaveOffline t).outer = s.outer ∧ (s.leaveOffline t).transfers = s.transfers ∧
    (s.leaveOffline t).allow = s.allow ∧ (s.leaveOffline t).works = s.works ∧
    (s.leaveOffline t).channels = s.channels ∧ (s.leaveOffline t).rain = s.rain ∧
    (s.leaveOffline t).spill = s.spill ∧ (s.leaveOffline t).leg = s.leg ∧ (s.leaveOffline t).store = s.store ∧
    (s.leaveOffline t).save = s.save ∧ (s.leaveOffline t).media = s.media := by
  refine ⟨?_, ?_, ?_, ?_, ?_, ?_, ?_, ?_, ?_, ?_, ?_⟩
  all_goals
    unfold leaveOffline
    repeat' split
  all_goals simp

@[simp] theorem kept_disableTank (t : Fin 8) :
    (s.disableTank t).outer = s.outer ∧ (s.disableTank t).transfers = s.transfers ∧
    (s.disableTank t).allow = s.allow ∧ (s.disableTank t).works = s.works ∧ (s.disableTank t).channels = s.channels ∧
    (s.disableTank t).rain = s.rain ∧ (s.disableTank t).spill = s.spill ∧ (s.disableTank t).leg = s.leg ∧
    (s.disableTank t).save = s.save ∧ (s.disableTank t).media = s.media := by
  refine ⟨?_, ?_, ?_, ?_, ?_, ?_, ?_, ?_, ?_, ?_⟩
  all_goals
    unfold disableTank
    dsimp only
    repeat' split
  all_goals simp

@[simp] theorem kept_lowerRequest (t : Fin 8) :
    (s.lowerRequest t).outer = s.outer ∧ (s.lowerRequest t).transfers = s.transfers ∧
    (s.lowerRequest t).allow = s.allow ∧ (s.lowerRequest t).works = s.works ∧
    (s.lowerRequest t).channels = s.channels ∧ (s.lowerRequest t).rain = s.rain ∧
    (s.lowerRequest t).spill = s.spill ∧ (s.lowerRequest t).drains = s.drains ∧ (s.lowerRequest t).leg = s.leg ∧
    (s.lowerRequest t).store = s.store ∧ (s.lowerRequest t).save = s.save ∧ (s.lowerRequest t).media = s.media := by
  refine ⟨?_, ?_, ?_, ?_, ?_, ?_, ?_, ?_, ?_, ?_, ?_, ?_⟩
  all_goals
    unfold lowerRequest
    repeat' split
  all_goals simp

@[simp] theorem kept_applyTankSet (t : Fin 8) (v : TankSettings) :
    (s.applyTankSet t v).outer = s.outer ∧ (s.applyTankSet t v).transfers = s.transfers ∧
    (s.applyTankSet t v).allow = s.allow ∧ (s.applyTankSet t v).works = s.works ∧
    (s.applyTankSet t v).channels = s.channels ∧ (s.applyTankSet t v).rain = s.rain ∧
    (s.applyTankSet t v).spill = s.spill ∧ (s.applyTankSet t v).leg = s.leg ∧ (s.applyTankSet t v).save = s.save ∧
    (s.applyTankSet t v).media = s.media := by
  refine ⟨?_, ?_, ?_, ?_, ?_, ?_, ?_, ?_, ?_, ?_⟩
  all_goals
    unfold applyTankSet
    dsimp only
    repeat' split
  all_goals simp

@[simp] theorem kept_applyShape (t : Fin 8) (ps : List Point) :
    (s.applyShape t ps).outer = s.outer ∧ (s.applyShape t ps).transfers = s.transfers ∧
    (s.applyShape t ps).allow = s.allow ∧ (s.applyShape t ps).works = s.works ∧
    (s.applyShape t ps).channels = s.channels ∧ (s.applyShape t ps).rain = s.rain ∧
    (s.applyShape t ps).spill = s.spill ∧ (s.applyShape t ps).leg = s.leg ∧ (s.applyShape t ps).save = s.save ∧
    (s.applyShape t ps).media = s.media := by
  refine ⟨?_, ?_, ?_, ?_, ?_, ?_, ?_, ?_, ?_, ?_⟩
  all_goals
    unfold applyShape
    dsimp only
    repeat' split
  all_goals simp

@[simp] theorem kept_reportSpilling (t : Fin 8) (yes : Bool) :
    (s.reportSpilling t yes).outer = s.outer ∧ (s.reportSpilling t yes).transfers = s.transfers ∧
    (s.reportSpilling t yes).allow = s.allow ∧ (s.reportSpilling t yes).works = s.works ∧
    (s.reportSpilling t yes).channels = s.channels ∧ (s.reportSpilling t yes).rain = s.rain ∧
    (s.reportSpilling t yes).spill = s.spill ∧ (s.reportSpilling t yes).drains = s.drains ∧
    (s.reportSpilling t yes).leg = s.leg ∧ (s.reportSpilling t yes).store = s.store ∧
    (s.reportSpilling t yes).save = s.save ∧ (s.reportSpilling t yes).media = s.media := by
  refine ⟨?_, ?_, ?_, ?_, ?_, ?_, ?_, ?_, ?_, ?_, ?_, ?_⟩
  all_goals
    unfold reportSpilling
    dsimp only
    repeat' split
  all_goals simp

@[simp] theorem kept_takeSpillRef (t : Fin 8) (opening : Nat) :
    (s.takeSpillRef t opening).outer = s.outer ∧ (s.takeSpillRef t opening).transfers = s.transfers ∧
    (s.takeSpillRef t opening).allow = s.allow ∧ (s.takeSpillRef t opening).works = s.works ∧
    (s.takeSpillRef t opening).channels = s.channels ∧ (s.takeSpillRef t opening).rain = s.rain ∧
    (s.takeSpillRef t opening).spill = s.spill ∧ (s.takeSpillRef t opening).drains = s.drains ∧
    (s.takeSpillRef t opening).leg = s.leg ∧ (s.takeSpillRef t opening).store = s.store ∧
    (s.takeSpillRef t opening).save = s.save ∧ (s.takeSpillRef t opening).media = s.media ∧
    (s.takeSpillRef t opening).trigger = s.trigger := by
  refine ⟨?_, ?_, ?_, ?_, ?_, ?_, ?_, ?_, ?_, ?_, ?_, ?_, ?_⟩
  all_goals simp [takeSpillRef]

@[simp] theorem kept_alertChanged (before : AlertLevel) :
    (s.alertChanged before).outer = s.outer ∧ (s.alertChanged before).transfers = s.transfers ∧
    (s.alertChanged before).allow = s.allow ∧ (s.alertChanged before).works = s.works ∧
    (s.alertChanged before).channels = s.channels ∧ (s.alertChanged before).rain = s.rain ∧
    (s.alertChanged before).spill = s.spill ∧ (s.alertChanged before).drains = s.drains ∧
    (s.alertChanged before).leg = s.leg ∧ (s.alertChanged before).store = s.store ∧
    (s.alertChanged before).save = s.save ∧ (s.alertChanged before).media = s.media := by
  refine ⟨?_, ?_, ?_, ?_, ?_, ?_, ?_, ?_, ?_, ?_, ?_, ?_⟩
  all_goals
    unfold alertChanged
    dsimp only
    repeat' split
  all_goals simp [outer_foldl, transfers_foldl, allow_foldl, works_foldl, channels_foldl, rain_foldl, spill_foldl, drains_foldl, leg_foldl, store_foldl, save_foldl, media_foldl]

@[simp] theorem kept_addLitres (t : Fin 8) (litres : Nat) :
    (s.addLitres t litres).outer = s.outer ∧ (s.addLitres t litres).transfers = s.transfers ∧
    (s.addLitres t litres).allow = s.allow ∧ (s.addLitres t litres).works = s.works ∧
    (s.addLitres t litres).channels = s.channels ∧ (s.addLitres t litres).rain = s.rain ∧
    (s.addLitres t litres).spill = s.spill ∧ (s.addLitres t litres).drains = s.drains ∧
    (s.addLitres t litres).leg = s.leg ∧ (s.addLitres t litres).store = s.store ∧
    (s.addLitres t litres).save = s.save ∧ (s.addLitres t litres).media = s.media ∧
    (s.addLitres t litres).trigger = s.trigger := by
  refine ⟨?_, ?_, ?_, ?_, ?_, ?_, ?_, ?_, ?_, ?_, ?_, ?_, ?_⟩
  all_goals
    unfold addLitres
    repeat' split
  all_goals simp

@[simp] theorem kept_noteAdmission (t : Fin 8) :
    (s.noteAdmission t).outer = s.outer ∧ (s.noteAdmission t).transfers = s.transfers ∧
    (s.noteAdmission t).allow = s.allow ∧ (s.noteAdmission t).works = s.works ∧
    (s.noteAdmission t).channels = s.channels ∧ (s.noteAdmission t).rain = s.rain ∧
    (s.noteAdmission t).spill = s.spill ∧ (s.noteAdmission t).drains = s.drains ∧ (s.noteAdmission t).leg = s.leg ∧
    (s.noteAdmission t).store = s.store ∧ (s.noteAdmission t).save = s.save ∧ (s.noteAdmission t).media = s.media ∧
    (s.noteAdmission t).trigger = s.trigger := by
  refine ⟨?_, ?_, ?_, ?_, ?_, ?_, ?_, ?_, ?_, ?_, ?_, ?_, ?_⟩
  all_goals simp [noteAdmission]

@[simp] theorem kept_changeLevel (level : AlertLevel) (lead : Option (Fin 4)) :
    (s.changeLevel level lead).outer = s.outer ∧ (s.changeLevel level lead).transfers = s.transfers ∧
    (s.changeLevel level lead).allow = s.allow ∧ (s.changeLevel level lead).works = s.works ∧
    (s.changeLevel level lead).channels = s.channels ∧ (s.changeLevel level lead).spill = s.spill ∧
    (s.changeLevel level lead).drains = s.drains ∧ (s.changeLevel level lead).leg = s.leg ∧
    (s.changeLevel level lead).save = s.save ∧ (s.changeLevel level lead).media = s.media := by
  refine ⟨?_, ?_, ?_, ?_, ?_, ?_, ?_, ?_, ?_, ?_⟩
  all_goals simp [changeLevel]

@[simp] theorem kept_rise :
    s.rise.outer = s.outer ∧ s.rise.transfers = s.transfers ∧ s.rise.allow = s.allow ∧ s.rise.works = s.works ∧
    s.rise.channels = s.channels ∧ s.rise.spill = s.spill ∧ s.rise.drains = s.drains ∧ s.rise.leg = s.leg ∧
    s.rise.save = s.save ∧ s.rise.media = s.media := by
  refine ⟨?_, ?_, ?_, ?_, ?_, ?_, ?_, ?_, ?_, ?_⟩
  all_goals
    unfold rise
    dsimp only
    repeat' split
  all_goals simp

@[simp] theorem kept_decideTimer :
    s.decideTimer.outer = s.outer ∧ s.decideTimer.transfers = s.transfers ∧ s.decideTimer.allow = s.allow ∧
    s.decideTimer.works = s.works ∧ s.decideTimer.channels = s.channels ∧ s.decideTimer.spill = s.spill ∧
    s.decideTimer.tanks = s.tanks ∧ s.decideTimer.drains = s.drains ∧ s.decideTimer.leg = s.leg ∧
    s.decideTimer.store = s.store ∧ s.decideTimer.save = s.save ∧ s.decideTimer.media = s.media ∧
    s.decideTimer.trigger = s.trigger := by
  refine ⟨?_, ?_, ?_, ?_, ?_, ?_, ?_, ?_, ?_, ?_, ?_, ?_, ?_⟩
  all_goals
    unfold decideTimer
    repeat' split
  all_goals simp

@[simp] theorem kept_evaluate :
    s.evaluate.outer = s.outer ∧ s.evaluate.transfers = s.transfers ∧ s.evaluate.allow = s.allow ∧
    s.evaluate.works = s.works ∧ s.evaluate.channels = s.channels ∧ s.evaluate.spill = s.spill ∧
    s.evaluate.drains = s.drains ∧ s.evaluate.leg = s.leg ∧ s.evaluate.save = s.save ∧
    s.evaluate.media = s.media := by
  refine ⟨?_, ?_, ?_, ?_, ?_, ?_, ?_, ?_, ?_, ?_⟩
  all_goals simp [evaluate]

@[simp] theorem kept_tip (g : Fin 4) :
    (s.tip g).outer = s.outer ∧ (s.tip g).transfers = s.transfers ∧ (s.tip g).allow = s.allow ∧
    (s.tip g).works = s.works ∧ (s.tip g).channels = s.channels ∧ (s.tip g).spill = s.spill ∧
    (s.tip g).drains = s.drains ∧ (s.tip g).leg = s.leg ∧ (s.tip g).save = s.save ∧ (s.tip g).media = s.media := by
  refine ⟨?_, ?_, ?_, ?_, ?_, ?_, ?_, ?_, ?_, ?_⟩
  all_goals simp [tip]

@[simp] theorem kept_rejectTip (g : Fin 4) :
    (s.rejectTip g).outer = s.outer ∧ (s.rejectTip g).transfers = s.transfers ∧ (s.rejectTip g).allow = s.allow ∧
    (s.rejectTip g).works = s.works ∧ (s.rejectTip g).channels = s.channels ∧ (s.rejectTip g).spill = s.spill ∧
    (s.rejectTip g).tanks = s.tanks ∧ (s.rejectTip g).drains = s.drains ∧ (s.rejectTip g).leg = s.leg ∧
    (s.rejectTip g).store = s.store ∧ (s.rejectTip g).save = s.save ∧ (s.rejectTip g).media = s.media ∧
    (s.rejectTip g).trigger = s.trigger := by
  refine ⟨?_, ?_, ?_, ?_, ?_, ?_, ?_, ?_, ?_, ?_, ?_, ?_, ?_⟩
  all_goals simp [rejectTip]

@[simp] theorem kept_setAvailability (g : Fin 4) (a : Availability) :
    (s.setAvailability g a).outer = s.outer ∧ (s.setAvailability g a).transfers = s.transfers ∧
    (s.setAvailability g a).allow = s.allow ∧ (s.setAvailability g a).works = s.works ∧
    (s.setAvailability g a).channels = s.channels ∧ (s.setAvailability g a).spill = s.spill ∧
    (s.setAvailability g a).drains = s.drains ∧ (s.setAvailability g a).leg = s.leg ∧
    (s.setAvailability g a).save = s.save ∧ (s.setAvailability g a).media = s.media := by
  refine ⟨?_, ?_, ?_, ?_, ?_, ?_, ?_, ?_, ?_, ?_⟩
  all_goals
    unfold setAvailability
    repeat' split
  all_goals simp

@[simp] theorem kept_rollBins :
    s.rollBins.outer = s.outer ∧ s.rollBins.transfers = s.transfers ∧ s.rollBins.allow = s.allow ∧
    s.rollBins.works = s.works ∧ s.rollBins.channels = s.channels ∧ s.rollBins.spill = s.spill ∧
    s.rollBins.drains = s.drains ∧ s.rollBins.leg = s.leg ∧ s.rollBins.save = s.save ∧
    s.rollBins.media = s.media := by
  refine ⟨?_, ?_, ?_, ?_, ?_, ?_, ?_, ?_, ?_, ?_⟩
  all_goals simp [rollBins]

@[simp] theorem kept_stepDown :
    s.stepDown.outer = s.outer ∧ s.stepDown.transfers = s.transfers ∧ s.stepDown.allow = s.allow ∧
    s.stepDown.works = s.works ∧ s.stepDown.channels = s.channels ∧ s.stepDown.spill = s.spill ∧
    s.stepDown.drains = s.drains ∧ s.stepDown.leg = s.leg ∧ s.stepDown.save = s.save ∧
    s.stepDown.media = s.media := by
  refine ⟨?_, ?_, ?_, ?_, ?_, ?_, ?_, ?_, ?_, ?_⟩
  all_goals simp [stepDown]

@[simp] theorem kept_applyGaugeSet (v : GaugeSettings) :
    (s.applyGaugeSet v).outer = s.outer ∧ (s.applyGaugeSet v).transfers = s.transfers ∧
    (s.applyGaugeSet v).allow = s.allow ∧ (s.applyGaugeSet v).works = s.works ∧
    (s.applyGaugeSet v).channels = s.channels ∧ (s.applyGaugeSet v).spill = s.spill ∧
    (s.applyGaugeSet v).drains = s.drains ∧ (s.applyGaugeSet v).leg = s.leg ∧ (s.applyGaugeSet v).save = s.save ∧
    (s.applyGaugeSet v).media = s.media := by
  refine ⟨?_, ?_, ?_, ?_, ?_, ?_, ?_, ?_, ?_, ?_⟩
  all_goals
    unfold applyGaugeSet
    dsimp only
    repeat' split
  all_goals simp

@[simp] theorem kept_announceSpill (o : Fin 8) :
    (s.announceSpill o).outer = s.outer ∧ (s.announceSpill o).transfers = s.transfers ∧
    (s.announceSpill o).allow = s.allow ∧ (s.announceSpill o).works = s.works ∧
    (s.announceSpill o).channels = s.channels ∧ (s.announceSpill o).rain = s.rain ∧
    (s.announceSpill o).spill = s.spill ∧ (s.announceSpill o).tanks = s.tanks ∧
    (s.announceSpill o).drains = s.drains ∧ (s.announceSpill o).leg = s.leg ∧ (s.announceSpill o).store = s.store ∧
    (s.announceSpill o).save = s.save ∧ (s.announceSpill o).media = s.media ∧
    (s.announceSpill o).trigger = s.trigger := by
  refine ⟨?_, ?_, ?_, ?_, ?_, ?_, ?_, ?_, ?_, ?_, ?_, ?_, ?_, ?_⟩
  all_goals simp [announceSpill]

@[simp] theorem kept_countPeriod (o : Fin 8) :
    (s.countPeriod o).outer = s.outer ∧ (s.countPeriod o).transfers = s.transfers ∧
    (s.countPeriod o).allow = s.allow ∧ (s.countPeriod o).works = s.works ∧ (s.countPeriod o).channels = s.channels ∧
    (s.countPeriod o).rain = s.rain ∧ (s.countPeriod o).tanks = s.tanks ∧ (s.countPeriod o).drains = s.drains ∧
    (s.countPeriod o).leg = s.leg ∧ (s.countPeriod o).store = s.store ∧ (s.countPeriod o).save = s.save ∧
    (s.countPeriod o).media = s.media ∧ (s.countPeriod o).trigger = s.trigger := by
  refine ⟨?_, ?_, ?_, ?_, ?_, ?_, ?_, ?_, ?_, ?_, ?_, ?_, ?_⟩
  all_goals simp [countPeriod]

@[simp] theorem kept_openEvent (o : Fin 8) (start : Nat) :
    (s.openEvent o start).outer = s.outer ∧ (s.openEvent o start).transfers = s.transfers ∧
    (s.openEvent o start).allow = s.allow ∧ (s.openEvent o start).works = s.works ∧
    (s.openEvent o start).channels = s.channels ∧ (s.openEvent o start).rain = s.rain ∧
    (s.openEvent o start).tanks = s.tanks ∧ (s.openEvent o start).drains = s.drains ∧
    (s.openEvent o start).leg = s.leg ∧ (s.openEvent o start).save = s.save ∧ (s.openEvent o start).media = s.media ∧
    (s.openEvent o start).trigger = s.trigger := by
  refine ⟨?_, ?_, ?_, ?_, ?_, ?_, ?_, ?_, ?_, ?_, ?_, ?_⟩
  all_goals
    unfold openEvent
    dsimp only
    repeat' split
  all_goals simp

@[simp] theorem kept_countInterval (o : Fin 8) (atStart : Bool) :
    (s.countInterval o atStart).outer = s.outer ∧ (s.countInterval o atStart).transfers = s.transfers ∧
    (s.countInterval o atStart).allow = s.allow ∧ (s.countInterval o atStart).works = s.works ∧
    (s.countInterval o atStart).channels = s.channels ∧ (s.countInterval o atStart).rain = s.rain ∧
    (s.countInterval o atStart).tanks = s.tanks ∧ (s.countInterval o atStart).drains = s.drains ∧
    (s.countInterval o atStart).leg = s.leg ∧ (s.countInterval o atStart).save = s.save ∧
    (s.countInterval o atStart).media = s.media ∧ (s.countInterval o atStart).trigger = s.trigger := by
  refine ⟨?_, ?_, ?_, ?_, ?_, ?_, ?_, ?_, ?_, ?_, ?_, ?_⟩
  all_goals
    unfold countInterval
    dsimp only
    repeat' split
  all_goals simp

@[simp] theorem kept_enterSpilling (o : Fin 8) (stretch : Nat) (announce : Bool) :
    (s.enterSpilling o stretch announce).outer = s.outer ∧
    (s.enterSpilling o stretch announce).transfers = s.transfers ∧
    (s.enterSpilling o stretch announce).allow = s.allow ∧ (s.enterSpilling o stretch announce).works = s.works ∧
    (s.enterSpilling o stretch announce).channels = s.channels ∧ (s.enterSpilling o stretch announce).rain = s.rain ∧
    (s.enterSpilling o stretch announce).drains = s.drains ∧ (s.enterSpilling o stretch announce).leg = s.leg ∧
    (s.enterSpilling o stretch announce).save = s.save ∧ (s.enterSpilling o stretch announce).media = s.media := by
  refine ⟨?_, ?_, ?_, ?_, ?_, ?_, ?_, ?_, ?_, ?_⟩
  all_goals
    unfold enterSpilling
    dsimp only
    repeat' split
  all_goals simp

@[simp] theorem kept_becomeQuiet (o : Fin 8) :
    (s.becomeQuiet o).outer = s.outer ∧ (s.becomeQuiet o).transfers = s.transfers ∧
    (s.becomeQuiet o).allow = s.allow ∧ (s.becomeQuiet o).works = s.works ∧ (s.becomeQuiet o).channels = s.channels ∧
    (s.becomeQuiet o).rain = s.rain ∧ (s.becomeQuiet o).tanks = s.tanks ∧ (s.becomeQuiet o).drains = s.drains ∧
    (s.becomeQuiet o).leg = s.leg ∧ (s.becomeQuiet o).store = s.store ∧ (s.becomeQuiet o).save = s.save ∧
    (s.becomeQuiet o).media = s.media ∧ (s.becomeQuiet o).trigger = s.trigger := by
  refine ⟨?_, ?_, ?_, ?_, ?_, ?_, ?_, ?_, ?_, ?_, ?_, ?_, ?_⟩
  all_goals simp [becomeQuiet]

@[simp] theorem kept_endStretch (o : Fin 8) (stretch : Nat) :
    (s.endStretch o stretch).outer = s.outer ∧ (s.endStretch o stretch).transfers = s.transfers ∧
    (s.endStretch o stretch).allow = s.allow ∧ (s.endStretch o stretch).works = s.works ∧
    (s.endStretch o stretch).channels = s.channels ∧ (s.endStretch o stretch).rain = s.rain ∧
    (s.endStretch o stretch).drains = s.drains ∧ (s.endStretch o stretch).leg = s.leg ∧
    (s.endStretch o stretch).save = s.save ∧ (s.endStretch o stretch).media = s.media := by
  refine ⟨?_, ?_, ?_, ?_, ?_, ?_, ?_, ?_, ?_, ?_⟩
  all_goals
    unfold endStretch
    dsimp only
    repeat' split
  all_goals simp

@[simp] theorem kept_spillEdge (o : Fin 8) (active : Bool) :
    (s.spillEdge o active).outer = s.outer ∧ (s.spillEdge o active).transfers = s.transfers ∧
    (s.spillEdge o active).allow = s.allow ∧ (s.spillEdge o active).works = s.works ∧
    (s.spillEdge o active).channels = s.channels ∧ (s.spillEdge o active).rain = s.rain ∧
    (s.spillEdge o active).drains = s.drains ∧ (s.spillEdge o active).leg = s.leg ∧
    (s.spillEdge o active).save = s.save ∧ (s.spillEdge o active).media = s.media := by
  refine ⟨?_, ?_, ?_, ?_, ?_, ?_, ?_, ?_, ?_, ?_⟩
  all_goals
    unfold spillEdge
    dsimp only
    repeat' split
  all_goals simp

@[simp] theorem kept_nextBlock (o : Fin 8) :
    (s.nextBlock o).outer = s.outer ∧ (s.nextBlock o).transfers = s.transfers ∧ (s.nextBlock o).allow = s.allow ∧
    (s.nextBlock o).works = s.works ∧ (s.nextBlock o).channels = s.channels ∧ (s.nextBlock o).rain = s.rain ∧
    (s.nextBlock o).tanks = s.tanks ∧ (s.nextBlock o).drains = s.drains ∧ (s.nextBlock o).leg = s.leg ∧
    (s.nextBlock o).save = s.save ∧ (s.nextBlock o).media = s.media ∧ (s.nextBlock o).trigger = s.trigger := by
  refine ⟨?_, ?_, ?_, ?_, ?_, ?_, ?_, ?_, ?_, ?_, ?_, ?_⟩
  all_goals
    unfold nextBlock
    dsimp only
    repeat' split
  all_goals simp

@[simp] theorem kept_closeEvent (o : Fin 8) (v : SpillEvent) :
    (s.closeEvent o v).outer = s.outer ∧ (s.closeEvent o v).transfers = s.transfers ∧
    (s.closeEvent o v).allow = s.allow ∧ (s.closeEvent o v).works = s.works ∧
    (s.closeEvent o v).channels = s.channels ∧ (s.closeEvent o v).rain = s.rain ∧
    (s.closeEvent o v).tanks = s.tanks ∧ (s.closeEvent o v).drains = s.drains ∧ (s.closeEvent o v).leg = s.leg ∧
    (s.closeEvent o v).save = s.save ∧ (s.closeEvent o v).media = s.media ∧
    (s.closeEvent o v).trigger = s.trigger := by
  refine ⟨?_, ?_, ?_, ?_, ?_, ?_, ?_, ?_, ?_, ?_, ?_, ?_⟩
  all_goals simp [closeEvent]

@[simp] theorem kept_endInterval (o : Fin 8) (v : SpillEvent) :
    (s.endInterval o v).outer = s.outer ∧ (s.endInterval o v).transfers = s.transfers ∧
    (s.endInterval o v).allow = s.allow ∧ (s.endInterval o v).works = s.works ∧
    (s.endInterval o v).channels = s.channels ∧ (s.endInterval o v).rain = s.rain ∧
    (s.endInterval o v).tanks = s.tanks ∧ (s.endInterval o v).drains = s.drains ∧ (s.endInterval o v).leg = s.leg ∧
    (s.endInterval o v).save = s.save ∧ (s.endInterval o v).media = s.media ∧
    (s.endInterval o v).trigger = s.trigger := by
  refine ⟨?_, ?_, ?_, ?_, ?_, ?_, ?_, ?_, ?_, ?_, ?_, ?_⟩
  all_goals
    unfold endInterval
    repeat' split
  all_goals simp

@[simp] theorem kept_reachOn (o : Fin 8) :
    (s.reachOn o).outer = s.outer ∧ (s.reachOn o).transfers = s.transfers ∧ (s.reachOn o).allow = s.allow ∧
    (s.reachOn o).works = s.works ∧ (s.reachOn o).channels = s.channels ∧ (s.reachOn o).rain = s.rain ∧
    (s.reachOn o).drains = s.drains ∧ (s.reachOn o).leg = s.leg ∧ (s.reachOn o).save = s.save ∧
    (s.reachOn o).media = s.media := by
  refine ⟨?_, ?_, ?_, ?_, ?_, ?_, ?_, ?_, ?_, ?_⟩
  all_goals
    unfold reachOn
    repeat' split
  all_goals simp

@[simp] theorem kept_reachOff (o : Fin 8) :
    (s.reachOff o).outer = s.outer ∧ (s.reachOff o).transfers = s.transfers ∧ (s.reachOff o).allow = s.allow ∧
    (s.reachOff o).works = s.works ∧ (s.reachOff o).channels = s.channels ∧ (s.reachOff o).rain = s.rain ∧
    (s.reachOff o).tanks = s.tanks ∧ (s.reachOff o).drains = s.drains ∧ (s.reachOff o).leg = s.leg ∧
    (s.reachOff o).store = s.store ∧ (s.reachOff o).save = s.save ∧ (s.reachOff o).media = s.media ∧
    (s.reachOff o).trigger = s.trigger := by
  refine ⟨?_, ?_, ?_, ?_, ?_, ?_, ?_, ?_, ?_, ?_, ?_, ?_, ?_⟩
  all_goals
    unfold reachOff
    repeat' split
  all_goals simp

@[simp] theorem kept_applySpillSet (v : SpillSettings) :
    (s.applySpillSet v).outer = s.outer ∧ (s.applySpillSet v).transfers = s.transfers ∧
    (s.applySpillSet v).allow = s.allow ∧ (s.applySpillSet v).works = s.works ∧
    (s.applySpillSet v).channels = s.channels ∧ (s.applySpillSet v).rain = s.rain ∧
    (s.applySpillSet v).drains = s.drains ∧ (s.applySpillSet v).leg = s.leg ∧ (s.applySpillSet v).save = s.save ∧
    (s.applySpillSet v).media = s.media := by
  refine ⟨?_, ?_, ?_, ?_, ?_, ?_, ?_, ?_, ?_, ?_⟩
  all_goals
    unfold applySpillSet
    dsimp only
    repeat' split
  all_goals simp [outer_foldl, transfers_foldl, allow_foldl, works_foldl, channels_foldl, rain_foldl, drains_foldl, leg_foldl, save_foldl, media_foldl]

@[simp] theorem kept_periodRecord (o : Fin 8) :
    (s.periodRecord o).outer = s.outer ∧ (s.periodRecord o).transfers = s.transfers ∧
    (s.periodRecord o).allow = s.allow ∧ (s.periodRecord o).works = s.works ∧
    (s.periodRecord o).channels = s.channels ∧ (s.periodRecord o).rain = s.rain ∧
    (s.periodRecord o).spill = s.spill ∧ (s.periodRecord o).tanks = s.tanks ∧ (s.periodRecord o).drains = s.drains ∧
    (s.periodRecord o).leg = s.leg ∧ (s.periodRecord o).save = s.save ∧ (s.periodRecord o).media = s.media ∧
    (s.periodRecord o).trigger = s.trigger := by
  refine ⟨?_, ?_, ?_, ?_, ?_, ?_, ?_, ?_, ?_, ?_, ?_, ?_, ?_⟩
  all_goals simp [periodRecord]

@[simp] theorem kept_closePeriod :
    s.closePeriod.outer = s.outer ∧ s.closePeriod.transfers = s.transfers ∧ s.closePeriod.allow = s.allow ∧
    s.closePeriod.works = s.works ∧ s.closePeriod.channels = s.channels ∧ s.closePeriod.rain = s.rain ∧
    s.closePeriod.tanks = s.tanks ∧ s.closePeriod.drains = s.drains ∧ s.closePeriod.leg = s.leg ∧
    s.closePeriod.save = s.save ∧ s.closePeriod.media = s.media ∧ s.closePeriod.trigger = s.trigger := by
  have h {β : Type} (π : State → β) (a : ∀ s o (f : Outfall → Outfall), π (modOutfall s o f) = π s)
      (b : ∀ s o, π (periodRecord s o) = π s) (c : ∀ s x, π { s with spill := x } = π s)
      (d : ∀ s, π (dropOwed s) = π s) : π s.closePeriod = π s := by
    unfold closePeriod
    dsimp only
    rw [d, c]
    exact (foldl_keeps _ π _ (fun _ _ => a _ _ _) _).trans (foldl_keeps _ π _ b _)
  refine ⟨h _ ?_ ?_ ?_ ?_, h _ ?_ ?_ ?_ ?_, h _ ?_ ?_ ?_ ?_, h _ ?_ ?_ ?_ ?_, h _ ?_ ?_ ?_ ?_, h _ ?_ ?_ ?_ ?_,
    h _ ?_ ?_ ?_ ?_, h _ ?_ ?_ ?_ ?_, h _ ?_ ?_ ?_ ?_, h _ ?_ ?_ ?_ ?_, h _ ?_ ?_ ?_ ?_, h _ ?_ ?_ ?_ ?_⟩
  all_goals intros
  all_goals first
    | rfl
    | simp

@[simp] theorem kept_startChannel (c : Fin 16) :
    (s.startChannel c).outer = s.outer ∧ (s.startChannel c).transfers = s.transfers ∧
    (s.startChannel c).allow = s.allow ∧ (s.startChannel c).works = s.works ∧ (s.startChannel c).rain = s.rain ∧
    (s.startChannel c).spill = s.spill ∧ (s.startChannel c).tanks = s.tanks ∧ (s.startChannel c).drains = s.drains ∧
    (s.startChannel c).leg = s.leg ∧ (s.startChannel c).store = s.store ∧ (s.startChannel c).save = s.save ∧
    (s.startChannel c).media = s.media ∧ (s.startChannel c).trigger = s.trigger := by
  refine ⟨?_, ?_, ?_, ?_, ?_, ?_, ?_, ?_, ?_, ?_, ?_, ?_, ?_⟩
  all_goals simp [startChannel]

@[simp] theorem kept_notifyChannel (b : Binder) :
    (s.notifyChannel b).outer = s.outer ∧ (s.notifyChannel b).transfers = s.transfers ∧
    (s.notifyChannel b).allow = s.allow ∧ (s.notifyChannel b).works = s.works ∧
    (s.notifyChannel b).channels = s.channels ∧ (s.notifyChannel b).rain = s.rain ∧
    (s.notifyChannel b).spill = s.spill ∧ (s.notifyChannel b).tanks = s.tanks ∧
    (s.notifyChannel b).drains = s.drains ∧ (s.notifyChannel b).leg = s.leg ∧ (s.notifyChannel b).store = s.store ∧
    (s.notifyChannel b).save = s.save ∧ (s.notifyChannel b).media = s.media ∧
    (s.notifyChannel b).trigger = s.trigger := by
  refine ⟨?_, ?_, ?_, ?_, ?_, ?_, ?_, ?_, ?_, ?_, ?_, ?_, ?_, ?_⟩
  all_goals simp [notifyChannel]

@[simp] theorem kept_faultChange (c : Fin 16) (entered : Bool) (cause : FaultCause) :
    (s.faultChange c entered cause).outer = s.outer ∧ (s.faultChange c entered cause).transfers = s.transfers ∧
    (s.faultChange c entered cause).allow = s.allow ∧ (s.faultChange c entered cause).works = s.works ∧
    (s.faultChange c entered cause).rain = s.rain ∧ (s.faultChange c entered cause).spill = s.spill ∧
    (s.faultChange c entered cause).tanks = s.tanks ∧ (s.faultChange c entered cause).drains = s.drains ∧
    (s.faultChange c entered cause).leg = s.leg ∧ (s.faultChange c entered cause).save = s.save ∧
    (s.faultChange c entered cause).media = s.media ∧ (s.faultChange c entered cause).trigger = s.trigger := by
  refine ⟨?_, ?_, ?_, ?_, ?_, ?_, ?_, ?_, ?_, ?_, ?_, ?_⟩
  all_goals
    unfold faultChange
    repeat' split
  all_goals simp

@[simp] theorem kept_tellReleased (b : Binder) :
    (s.tellReleased b).outer = s.outer ∧ (s.tellReleased b).transfers = s.transfers ∧
    (s.tellReleased b).allow = s.allow ∧ (s.tellReleased b).works = s.works ∧
    (s.tellReleased b).channels = s.channels ∧ (s.tellReleased b).spill = s.spill ∧
    (s.tellReleased b).save = s.save ∧ (s.tellReleased b).media = s.media := by
  refine ⟨?_, ?_, ?_, ?_, ?_, ?_, ?_, ?_⟩
  all_goals
    unfold tellReleased
    repeat' split
  all_goals simp

@[simp] theorem kept_tellBound (b : Binder) :
    (s.tellBound b).outer = s.outer ∧ (s.tellBound b).transfers = s.transfers ∧ (s.tellBound b).allow = s.allow ∧
    (s.tellBound b).works = s.works ∧ (s.tellBound b).channels = s.channels ∧ (s.tellBound b).spill = s.spill ∧
    (s.tellBound b).save = s.save ∧ (s.tellBound b).media = s.media := by
  refine ⟨?_, ?_, ?_, ?_, ?_, ?_, ?_, ?_⟩
  all_goals
    unfold tellBound
    repeat' split
  all_goals simp

@[simp] theorem kept_closingEdge (c : Fin 16) :
    (s.closingEdge c).outer = s.outer ∧ (s.closingEdge c).transfers = s.transfers ∧
    (s.closingEdge c).allow = s.allow ∧ (s.closingEdge c).works = s.works ∧ (s.closingEdge c).channels = s.channels ∧
    (s.closingEdge c).rain = s.rain ∧ (s.closingEdge c).drains = s.drains ∧ (s.closingEdge c).leg = s.leg ∧
    (s.closingEdge c).save = s.save ∧ (s.closingEdge c).media = s.media := by
  refine ⟨?_, ?_, ?_, ?_, ?_, ?_, ?_, ?_, ?_, ?_⟩
  all_goals
    unfold closingEdge
    repeat' split
  all_goals simp

@[simp] theorem kept_releaseChannel (c : Fin 16) :
    (s.releaseChannel c).outer = s.outer ∧ (s.releaseChannel c).transfers = s.transfers ∧
    (s.releaseChannel c).allow = s.allow ∧ (s.releaseChannel c).works = s.works ∧
    (s.releaseChannel c).save = s.save ∧ (s.releaseChannel c).media = s.media := by
  refine ⟨?_, ?_, ?_, ?_, ?_, ?_⟩
  all_goals
    unfold releaseChannel
    dsimp only
    repeat' split
  all_goals simp

@[simp] theorem kept_changeParams (c : Fin 16) (p : ChannelParams) :
    (s.changeParams c p).outer = s.outer ∧ (s.changeParams c p).transfers = s.transfers ∧
    (s.changeParams c p).allow = s.allow ∧ (s.changeParams c p).works = s.works ∧
    (s.changeParams c p).rain = s.rain ∧ (s.changeParams c p).spill = s.spill ∧
    (s.changeParams c p).tanks = s.tanks ∧ (s.changeParams c p).drains = s.drains ∧
    (s.changeParams c p).leg = s.leg ∧ (s.changeParams c p).store = s.store ∧ (s.changeParams c p).save = s.save ∧
    (s.changeParams c p).media = s.media ∧ (s.changeParams c p).trigger = s.trigger := by
  refine ⟨?_, ?_, ?_, ?_, ?_, ?_, ?_, ?_, ?_, ?_, ?_, ?_, ?_⟩
  all_goals
    unfold changeParams
    dsimp only
    repeat' split
  all_goals simp

@[simp] theorem kept_takeChannel (b : Binder) (c : Fin 16) (sent : ChannelParams) :
    (s.takeChannel b c sent).outer = s.outer ∧ (s.takeChannel b c sent).transfers = s.transfers ∧
    (s.takeChannel b c sent).allow = s.allow ∧ (s.takeChannel b c sent).works = s.works ∧
    (s.takeChannel b c sent).save = s.save ∧ (s.takeChannel b c sent).media = s.media := by
  refine ⟨?_, ?_, ?_, ?_, ?_, ?_⟩
  all_goals
    unfold takeChannel
    repeat' split
  all_goals simp

@[simp] theorem kept_applyBinding (b : Binder) (target : Option (Fin 16)) (sent : ChannelParams) :
    (s.applyBinding b target sent).outer = s.outer ∧ (s.applyBinding b target sent).transfers = s.transfers ∧
    (s.applyBinding b target sent).allow = s.allow ∧ (s.applyBinding b target sent).works = s.works ∧
    (s.applyBinding b target sent).save = s.save ∧ (s.applyBinding b target sent).media = s.media := by
  refine ⟨?_, ?_, ?_, ?_, ?_, ?_⟩
  all_goals
    unfold applyBinding
    repeat' split
  all_goals simp

@[simp] theorem kept_rainReleased (c : Fin 16) :
    (s.rainReleased c).outer = s.outer ∧ (s.rainReleased c).transfers = s.transfers ∧
    (s.rainReleased c).allow = s.allow ∧ (s.rainReleased c).works = s.works ∧ (s.rainReleased c).spill = s.spill ∧
    (s.rainReleased c).drains = s.drains ∧ (s.rainReleased c).leg = s.leg ∧ (s.rainReleased c).save = s.save ∧
    (s.rainReleased c).media = s.media := by
  refine ⟨?_, ?_, ?_, ?_, ?_, ?_, ?_, ?_, ?_⟩
  all_goals
    unfold rainReleased
    dsimp only
    repeat' split
  all_goals simp

@[simp] theorem kept_rainRise (c : Fin 16) (g : Fin 4) :
    (s.rainRise c g).outer = s.outer ∧ (s.rainRise c g).transfers = s.transfers ∧ (s.rainRise c g).allow = s.allow ∧
    (s.rainRise c g).works = s.works ∧ (s.rainRise c g).spill = s.spill ∧ (s.rainRise c g).drains = s.drains ∧
    (s.rainRise c g).leg = s.leg ∧ (s.rainRise c g).save = s.save ∧ (s.rainRise c g).media = s.media := by
  refine ⟨?_, ?_, ?_, ?_, ?_, ?_, ?_, ?_, ?_⟩
  all_goals
    unfold rainRise
    dsimp only
    repeat' split
  all_goals simp

@[simp] theorem kept_stopStuck (c : Fin 16) :
    (s.stopStuck c).outer = s.outer ∧ (s.stopStuck c).transfers = s.transfers ∧ (s.stopStuck c).allow = s.allow ∧
    (s.stopStuck c).works = s.works ∧ (s.stopStuck c).rain = s.rain ∧ (s.stopStuck c).spill = s.spill ∧
    (s.stopStuck c).tanks = s.tanks ∧ (s.stopStuck c).drains = s.drains ∧ (s.stopStuck c).leg = s.leg ∧
    (s.stopStuck c).store = s.store ∧ (s.stopStuck c).save = s.save ∧ (s.stopStuck c).media = s.media ∧
    (s.stopStuck c).trigger = s.trigger := by
  refine ⟨?_, ?_, ?_, ?_, ?_, ?_, ?_, ?_, ?_, ?_, ?_, ?_, ?_⟩
  all_goals simp [stopStuck]

@[simp] theorem kept_rainFall (c : Fin 16) :
    (s.rainFall c).outer = s.outer ∧ (s.rainFall c).transfers = s.transfers ∧ (s.rainFall c).allow = s.allow ∧
    (s.rainFall c).works = s.works ∧ (s.rainFall c).spill = s.spill ∧ (s.rainFall c).drains = s.drains ∧
    (s.rainFall c).leg = s.leg ∧ (s.rainFall c).save = s.save ∧ (s.rainFall c).media = s.media := by
  refine ⟨?_, ?_, ?_, ?_, ?_, ?_, ?_, ?_, ?_⟩
  all_goals
    unfold rainFall
    dsimp only
    repeat' split
  all_goals simp

@[simp] theorem kept_actOnEdge (c : Fin 16) (at_ : Nat) (active : Bool) :
    (s.actOnEdge c at_ active).outer = s.outer ∧ (s.actOnEdge c at_ active).transfers = s.transfers ∧
    (s.actOnEdge c at_ active).allow = s.allow ∧ (s.actOnEdge c at_ active).works = s.works ∧
    (s.actOnEdge c at_ active).drains = s.drains ∧ (s.actOnEdge c at_ active).leg = s.leg ∧
    (s.actOnEdge c at_ active).save = s.save ∧ (s.actOnEdge c at_ active).media = s.media := by
  refine ⟨?_, ?_, ?_, ?_, ?_, ?_, ?_, ?_⟩
  all_goals
    unfold actOnEdge
    repeat' split
  all_goals simp

@[simp] theorem kept_acceptEdge (c : Fin 16) :
    (s.acceptEdge c).outer = s.outer ∧ (s.acceptEdge c).transfers = s.transfers ∧ (s.acceptEdge c).allow = s.allow ∧
    (s.acceptEdge c).works = s.works ∧ (s.acceptEdge c).drains = s.drains ∧ (s.acceptEdge c).leg = s.leg ∧
    (s.acceptEdge c).save = s.save ∧ (s.acceptEdge c).media = s.media := by
  refine ⟨?_, ?_, ?_, ?_, ?_, ?_, ?_, ?_⟩
  all_goals simp [acceptEdge]

@[simp] theorem kept_settleChannel (c : Fin 16) :
    (s.settleChannel c).outer = s.outer ∧ (s.settleChannel c).transfers = s.transfers ∧
    (s.settleChannel c).allow = s.allow ∧ (s.settleChannel c).works = s.works ∧
    (s.settleChannel c).drains = s.drains ∧ (s.settleChannel c).leg = s.leg ∧ (s.settleChannel c).save = s.save ∧
    (s.settleChannel c).media = s.media := by
  refine ⟨?_, ?_, ?_, ?_, ?_, ?_, ?_, ?_⟩
  all_goals
    unfold settleChannel
    dsimp only
    repeat' split
  all_goals simp

@[simp] theorem kept_becomeStuck (c : Fin 16) :
    (s.becomeStuck c).outer = s.outer ∧ (s.becomeStuck c).transfers = s.transfers ∧
    (s.becomeStuck c).allow = s.allow ∧ (s.becomeStuck c).works = s.works ∧ (s.becomeStuck c).spill = s.spill ∧
    (s.becomeStuck c).drains = s.drains ∧ (s.becomeStuck c).leg = s.leg ∧ (s.becomeStuck c).save = s.save ∧
    (s.becomeStuck c).media = s.media := by
  refine ⟨?_, ?_, ?_, ?_, ?_, ?_, ?_, ?_, ?_⟩
  all_goals
    unfold becomeStuck
    dsimp only
    repeat' split
  all_goals simp

@[simp] theorem kept_levelReturns (c : Fin 16) (t : Fin 8) :
    (s.levelReturns c t).outer = s.outer ∧ (s.levelReturns c t).transfers = s.transfers ∧
    (s.levelReturns c t).allow = s.allow ∧ (s.levelReturns c t).works = s.works ∧
    (s.levelReturns c t).rain = s.rain ∧ (s.levelReturns c t).spill = s.spill ∧ (s.levelReturns c t).leg = s.leg ∧
    (s.levelReturns c t).save = s.save ∧ (s.levelReturns c t).media = s.media := by
  refine ⟨?_, ?_, ?_, ?_, ?_, ?_, ?_, ?_, ?_⟩
  all_goals
    unfold levelReturns
    repeat' split
  all_goals simp

@[simp] theorem kept_levelSample (c : Fin 16) (t : Fin 8) (duty : Nat) :
    (s.levelSample c t duty).outer = s.outer ∧ (s.levelSample c t duty).transfers = s.transfers ∧
    (s.levelSample c t duty).allow = s.allow ∧ (s.levelSample c t duty).works = s.works ∧
    (s.levelSample c t duty).rain = s.rain ∧ (s.levelSample c t duty).spill = s.spill ∧
    (s.levelSample c t duty).leg = s.leg ∧ (s.levelSample c t duty).save = s.save ∧
    (s.levelSample c t duty).media = s.media := by
  refine ⟨?_, ?_, ?_, ?_, ?_, ?_, ?_, ?_, ?_⟩
  all_goals
    unfold levelSample
    repeat' split
  all_goals simp

@[simp] theorem kept_levelSecond (c : Fin 16) (t : Fin 8) :
    (s.levelSecond c t).outer = s.outer ∧ (s.levelSecond c t).transfers = s.transfers ∧
    (s.levelSecond c t).allow = s.allow ∧ (s.levelSecond c t).works = s.works ∧ (s.levelSecond c t).rain = s.rain ∧
    (s.levelSecond c t).spill = s.spill ∧ (s.levelSecond c t).leg = s.leg ∧ (s.levelSecond c t).save = s.save ∧
    (s.levelSecond c t).media = s.media := by
  refine ⟨?_, ?_, ?_, ?_, ?_, ?_, ?_, ?_, ?_⟩
  all_goals
    unfold levelSecond
    dsimp only
    repeat' split
  all_goals simp

@[simp] theorem kept_levelFault (c : Fin 16) (t : Fin 8) :
    (s.levelFault c t).outer = s.outer ∧ (s.levelFault c t).transfers = s.transfers ∧
    (s.levelFault c t).allow = s.allow ∧ (s.levelFault c t).works = s.works ∧ (s.levelFault c t).rain = s.rain ∧
    (s.levelFault c t).spill = s.spill ∧ (s.levelFault c t).leg = s.leg ∧ (s.levelFault c t).save = s.save ∧
    (s.levelFault c t).media = s.media := by
  refine ⟨?_, ?_, ?_, ?_, ?_, ?_, ?_, ?_, ?_⟩
  all_goals simp [levelFault]

@[simp] theorem kept_handGate (b : Binder) (rate litres : Nat) :
    (s.handGate b rate litres).outer = s.outer ∧ (s.handGate b rate litres).transfers = s.transfers ∧
    (s.handGate b rate litres).allow = s.allow ∧ (s.handGate b rate litres).works = s.works ∧
    (s.handGate b rate litres).channels = s.channels ∧ (s.handGate b rate litres).rain = s.rain ∧
    (s.handGate b rate litres).spill = s.spill ∧ (s.handGate b rate litres).drains = s.drains ∧
    (s.handGate b rate litres).store = s.store ∧ (s.handGate b rate litres).save = s.save ∧
    (s.handGate b rate litres).media = s.media ∧ (s.handGate b rate litres).trigger = s.trigger := by
  refine ⟨?_, ?_, ?_, ?_, ?_, ?_, ?_, ?_, ?_, ?_, ?_, ?_⟩
  all_goals
    unfold handGate
    repeat' split
  all_goals simp

@[simp] theorem kept_endGate (c : Fin 16) :
    (s.endGate c).outer = s.outer ∧ (s.endGate c).transfers = s.transfers ∧ (s.endGate c).allow = s.allow ∧
    (s.endGate c).works = s.works ∧ (s.endGate c).rain = s.rain ∧ (s.endGate c).spill = s.spill ∧
    (s.endGate c).drains = s.drains ∧ (s.endGate c).store = s.store ∧ (s.endGate c).save = s.save ∧
    (s.endGate c).media = s.media ∧ (s.endGate c).trigger = s.trigger := by
  refine ⟨?_, ?_, ?_, ?_, ?_, ?_, ?_, ?_, ?_, ?_, ?_⟩
  all_goals simp [endGate]

@[simp] theorem kept_formAllowance :
    s.formAllowance.outer = s.outer ∧ s.formAllowance.transfers = s.transfers ∧ s.formAllowance.works = s.works ∧
    s.formAllowance.channels = s.channels ∧ s.formAllowance.rain = s.rain ∧ s.formAllowance.spill = s.spill ∧
    s.formAllowance.tanks = s.tanks ∧ s.formAllowance.drains = s.drains ∧ s.formAllowance.leg = s.leg ∧
    s.formAllowance.store = s.store ∧ s.formAllowance.save = s.save ∧ s.formAllowance.media = s.media := by
  refine ⟨?_, ?_, ?_, ?_, ?_, ?_, ?_, ?_, ?_, ?_, ?_, ?_⟩
  all_goals
    unfold formAllowance
    repeat' split
  all_goals simp

@[simp] theorem kept_allowanceEvent (cause : AllowanceCause) (returned : Option (Fin 8)) :
    (s.allowanceEvent cause returned).outer = s.outer ∧ (s.allowanceEvent cause returned).transfers = s.transfers ∧
    (s.allowanceEvent cause returned).works = s.works ∧ (s.allowanceEvent cause returned).channels = s.channels ∧
    (s.allowanceEvent cause returned).rain = s.rain ∧ (s.allowanceEvent cause returned).spill = s.spill ∧
    (s.allowanceEvent cause returned).tanks = s.tanks ∧ (s.allowanceEvent cause returned).drains = s.drains ∧
    (s.allowanceEvent cause returned).leg = s.leg ∧ (s.allowanceEvent cause returned).save = s.save ∧
    (s.allowanceEvent cause returned).media = s.media := by
  refine ⟨?_, ?_, ?_, ?_, ?_, ?_, ?_, ?_, ?_, ?_, ?_⟩
  all_goals simp [allowanceEvent]

@[simp] theorem kept_freezeActive :
    s.freezeActive.outer = s.outer ∧ s.freezeActive.transfers = s.transfers ∧ s.freezeActive.works = s.works ∧
    s.freezeActive.channels = s.channels ∧ s.freezeActive.rain = s.rain ∧ s.freezeActive.spill = s.spill ∧
    s.freezeActive.tanks = s.tanks ∧ s.freezeActive.drains = s.drains ∧ s.freezeActive.leg = s.leg ∧
    s.freezeActive.store = s.store ∧ s.freezeActive.save = s.save ∧ s.freezeActive.media = s.media ∧
    s.freezeActive.trigger = s.trigger := by
  refine ⟨?_, ?_, ?_, ?_, ?_, ?_, ?_, ?_, ?_, ?_, ?_, ?_, ?_⟩
  all_goals
    unfold freezeActive
    repeat' split
  all_goals simp

@[simp] theorem kept_renewLease :
    s.renewLease.outer = s.outer ∧ s.renewLease.transfers = s.transfers ∧ s.renewLease.works = s.works ∧
    s.renewLease.channels = s.channels ∧ s.renewLease.rain = s.rain ∧ s.renewLease.spill = s.spill ∧
    s.renewLease.tanks = s.tanks ∧ s.renewLease.drains = s.drains ∧ s.renewLease.leg = s.leg ∧
    s.renewLease.store = s.store ∧ s.renewLease.save = s.save ∧ s.renewLease.media = s.media ∧
    s.renewLease.trigger = s.trigger := by
  refine ⟨?_, ?_, ?_, ?_, ?_, ?_, ?_, ?_, ?_, ?_, ?_, ?_, ?_⟩
  all_goals
    unfold renewLease
    repeat' split
  all_goals simp

@[simp] theorem kept_advance (e f : Fin 8) :
    (s.advance e f).outer = s.outer ∧ (s.advance e f).transfers = s.transfers ∧ (s.advance e f).works = s.works ∧
    (s.advance e f).channels = s.channels ∧ (s.advance e f).rain = s.rain ∧ (s.advance e f).spill = s.spill ∧
    (s.advance e f).tanks = s.tanks ∧ (s.advance e f).drains = s.drains ∧ (s.advance e f).leg = s.leg ∧
    (s.advance e f).save = s.save ∧ (s.advance e f).media = s.media := by
  refine ⟨?_, ?_, ?_, ?_, ?_, ?_, ?_, ?_, ?_, ?_, ?_⟩
  all_goals simp [advance]

@[simp] theorem kept_expireEntry (e : Fin 8) :
    (s.expireEntry e).outer = s.outer ∧ (s.expireEntry e).transfers = s.transfers ∧
    (s.expireEntry e).works = s.works ∧ (s.expireEntry e).channels = s.channels ∧ (s.expireEntry e).rain = s.rain ∧
    (s.expireEntry e).spill = s.spill ∧ (s.expireEntry e).tanks = s.tanks ∧ (s.expireEntry e).drains = s.drains ∧
    (s.expireEntry e).leg = s.leg ∧ (s.expireEntry e).save = s.save ∧ (s.expireEntry e).media = s.media := by
  refine ⟨?_, ?_, ?_, ?_, ?_, ?_, ?_, ?_, ?_, ?_, ?_⟩
  all_goals
    unfold expireEntry
    dsimp only
    repeat' split
  all_goals simp

@[simp] theorem kept_startSchedule (e : Fin 8) :
    (s.startSchedule e).outer = s.outer ∧ (s.startSchedule e).transfers = s.transfers ∧
    (s.startSchedule e).works = s.works ∧ (s.startSchedule e).channels = s.channels ∧
    (s.startSchedule e).rain = s.rain ∧ (s.startSchedule e).spill = s.spill ∧ (s.startSchedule e).tanks = s.tanks ∧
    (s.startSchedule e).drains = s.drains ∧ (s.startSchedule e).leg = s.leg ∧ (s.startSchedule e).save = s.save ∧
    (s.startSchedule e).media = s.media := by
  refine ⟨?_, ?_, ?_, ?_, ?_, ?_, ?_, ?_, ?_, ?_, ?_⟩
  all_goals simp [startSchedule]

@[simp] theorem kept_resumeSchedule :
    s.resumeSchedule.outer = s.outer ∧ s.resumeSchedule.transfers = s.transfers ∧ s.resumeSchedule.works = s.works ∧
    s.resumeSchedule.channels = s.channels ∧ s.resumeSchedule.rain = s.rain ∧ s.resumeSchedule.spill = s.spill ∧
    s.resumeSchedule.tanks = s.tanks ∧ s.resumeSchedule.drains = s.drains ∧ s.resumeSchedule.leg = s.leg ∧
    s.resumeSchedule.save = s.save ∧ s.resumeSchedule.media = s.media := by
  refine ⟨?_, ?_, ?_, ?_, ?_, ?_, ?_, ?_, ?_, ?_, ?_⟩
  all_goals
    unfold resumeSchedule
    dsimp only
    repeat' split
  all_goals simp

@[simp] theorem kept_stopSchedule :
    s.stopSchedule.outer = s.outer ∧ s.stopSchedule.transfers = s.transfers ∧ s.stopSchedule.works = s.works ∧
    s.stopSchedule.channels = s.channels ∧ s.stopSchedule.rain = s.rain ∧ s.stopSchedule.spill = s.spill ∧
    s.stopSchedule.tanks = s.tanks ∧ s.stopSchedule.drains = s.drains ∧ s.stopSchedule.leg = s.leg ∧
    s.stopSchedule.save = s.save ∧ s.stopSchedule.media = s.media := by
  refine ⟨?_, ?_, ?_, ?_, ?_, ?_, ?_, ?_, ?_, ?_, ?_⟩
  all_goals
    unfold stopSchedule
    dsimp only
    repeat' split
  all_goals simp [outer_foldl, transfers_foldl, works_foldl, channels_foldl, rain_foldl, spill_foldl, tanks_foldl, drains_foldl, leg_foldl, save_foldl, media_foldl]

@[simp] theorem kept_lapseLease :
    s.lapseLease.outer = s.outer ∧ s.lapseLease.transfers = s.transfers ∧ s.lapseLease.works = s.works ∧
    s.lapseLease.channels = s.channels ∧ s.lapseLease.rain = s.rain ∧ s.lapseLease.spill = s.spill ∧
    s.lapseLease.tanks = s.tanks ∧ s.lapseLease.drains = s.drains ∧ s.lapseLease.leg = s.leg ∧
    s.lapseLease.save = s.save ∧ s.lapseLease.media = s.media := by
  refine ⟨?_, ?_, ?_, ?_, ?_, ?_, ?_, ?_, ?_, ?_, ?_⟩
  all_goals simp [lapseLease]

@[simp] theorem kept_startHold (minutes : Nat) :
    (s.startHold minutes).outer = s.outer ∧ (s.startHold minutes).transfers = s.transfers ∧
    (s.startHold minutes).works = s.works ∧ (s.startHold minutes).channels = s.channels ∧
    (s.startHold minutes).rain = s.rain ∧ (s.startHold minutes).spill = s.spill ∧
    (s.startHold minutes).tanks = s.tanks ∧ (s.startHold minutes).drains = s.drains ∧
    (s.startHold minutes).leg = s.leg ∧ (s.startHold minutes).save = s.save ∧
    (s.startHold minutes).media = s.media := by
  refine ⟨?_, ?_, ?_, ?_, ?_, ?_, ?_, ?_, ?_, ?_, ?_⟩
  all_goals
    unfold startHold
    dsimp only
    repeat' split
  all_goals simp

@[simp] theorem kept_endHold (cause : AllowanceCause) :
    (s.endHold cause).outer = s.outer ∧ (s.endHold cause).transfers = s.transfers ∧
    (s.endHold cause).works = s.works ∧ (s.endHold cause).channels = s.channels ∧ (s.endHold cause).rain = s.rain ∧
    (s.endHold cause).spill = s.spill ∧ (s.endHold cause).tanks = s.tanks ∧ (s.endHold cause).drains = s.drains ∧
    (s.endHold cause).leg = s.leg ∧ (s.endHold cause).save = s.save ∧ (s.endHold cause).media = s.media := by
  refine ⟨?_, ?_, ?_, ?_, ?_, ?_, ?_, ?_, ?_, ?_, ?_⟩
  all_goals simp [endHold]

@[simp] theorem kept_applyWorksSet (v : WorksSettings) :
    (s.applyWorksSet v).outer = s.outer ∧ (s.applyWorksSet v).transfers = s.transfers ∧
    (s.applyWorksSet v).channels = s.channels ∧ (s.applyWorksSet v).rain = s.rain ∧
    (s.applyWorksSet v).spill = s.spill ∧ (s.applyWorksSet v).tanks = s.tanks ∧
    (s.applyWorksSet v).drains = s.drains ∧ (s.applyWorksSet v).leg = s.leg ∧ (s.applyWorksSet v).save = s.save ∧
    (s.applyWorksSet v).media = s.media := by
  refine ⟨?_, ?_, ?_, ?_, ?_, ?_, ?_, ?_, ?_, ?_⟩
  all_goals
    unfold applyWorksSet
    dsimp only
    repeat' split
  all_goals simp

@[simp] theorem kept_releaseBinder (b : Binder) :
    (s.releaseBinder b).outer = s.outer ∧ (s.releaseBinder b).transfers = s.transfers ∧
    (s.releaseBinder b).allow = s.allow ∧ (s.releaseBinder b).works = s.works ∧ (s.releaseBinder b).save = s.save ∧
    (s.releaseBinder b).media = s.media := by
  refine ⟨?_, ?_, ?_, ?_, ?_, ?_⟩
  all_goals
    unfold releaseBinder
    repeat' split
  all_goals simp

@[simp] theorem kept_unclaim (t : Fin 8) :
    (s.unclaim t).outer = s.outer ∧ (s.unclaim t).transfers = s.transfers ∧ (s.unclaim t).allow = s.allow ∧
    (s.unclaim t).works = s.works ∧ (s.unclaim t).channels = s.channels ∧ (s.unclaim t).rain = s.rain ∧
    (s.unclaim t).spill = s.spill ∧ (s.unclaim t).leg = s.leg ∧ (s.unclaim t).store = s.store ∧
    (s.unclaim t).save = s.save ∧ (s.unclaim t).media = s.media := by
  refine ⟨?_, ?_, ?_, ?_, ?_, ?_, ?_, ?_, ?_, ?_, ?_⟩
  all_goals simp [unclaim]

@[simp] theorem kept_releaseTank (t : Fin 8) :
    (s.releaseTank t).outer = s.outer ∧ (s.releaseTank t).transfers = s.transfers ∧
    (s.releaseTank t).allow = s.allow ∧ (s.releaseTank t).works = s.works ∧ (s.releaseTank t).save = s.save ∧
    (s.releaseTank t).media = s.media := by
  refine ⟨?_, ?_, ?_, ?_, ?_, ?_⟩
  all_goals simp [releaseTank]

@[simp] theorem kept_takeRequest (t : Fin 8) (m n : Nat) :
    (s.takeRequest t m n).outer = s.outer ∧ (s.takeRequest t m n).transfers = s.transfers ∧
    (s.takeRequest t m n).allow = s.allow ∧ (s.takeRequest t m n).works = s.works ∧
    (s.takeRequest t m n).channels = s.channels ∧ (s.takeRequest t m n).rain = s.rain ∧
    (s.takeRequest t m n).spill = s.spill ∧ (s.takeRequest t m n).leg = s.leg ∧
    (s.takeRequest t m n).store = s.store ∧ (s.takeRequest t m n).save = s.save ∧
    (s.takeRequest t m n).media = s.media := by
  refine ⟨?_, ?_, ?_, ?_, ?_, ?_, ?_, ?_, ?_, ?_, ?_⟩
  all_goals
    unfold takeRequest
    repeat' split
  all_goals simp

@[simp] theorem kept_keepDemand (n : Nat) :
    (s.keepDemand n).outer = s.outer ∧ (s.keepDemand n).transfers = s.transfers ∧ (s.keepDemand n).allow = s.allow ∧
    (s.keepDemand n).works = s.works ∧ (s.keepDemand n).channels = s.channels ∧ (s.keepDemand n).rain = s.rain ∧
    (s.keepDemand n).spill = s.spill ∧ (s.keepDemand n).tanks = s.tanks ∧ (s.keepDemand n).drains = s.drains ∧
    (s.keepDemand n).leg = s.leg ∧ (s.keepDemand n).save = s.save ∧ (s.keepDemand n).media = s.media ∧
    (s.keepDemand n).trigger = s.trigger := by
  refine ⟨?_, ?_, ?_, ?_, ?_, ?_, ?_, ?_, ?_, ?_, ?_, ?_, ?_⟩
  all_goals simp [keepDemand]

@[simp] theorem kept_raiseMark (n : Nat) :
    (s.raiseMark n).outer = s.outer ∧ (s.raiseMark n).transfers = s.transfers ∧ (s.raiseMark n).allow = s.allow ∧
    (s.raiseMark n).works = s.works ∧ (s.raiseMark n).channels = s.channels ∧ (s.raiseMark n).rain = s.rain ∧
    (s.raiseMark n).spill = s.spill ∧ (s.raiseMark n).tanks = s.tanks ∧ (s.raiseMark n).drains = s.drains ∧
    (s.raiseMark n).leg = s.leg ∧ (s.raiseMark n).save = s.save ∧ (s.raiseMark n).media = s.media ∧
    (s.raiseMark n).trigger = s.trigger := by
  refine ⟨?_, ?_, ?_, ?_, ?_, ?_, ?_, ?_, ?_, ?_, ?_, ?_, ?_⟩
  all_goals
    unfold raiseMark
    repeat' split
  all_goals simp

@[simp] theorem kept_handPage :
    s.handPage.outer = s.outer ∧ s.handPage.transfers = s.transfers ∧ s.handPage.allow = s.allow ∧
    s.handPage.works = s.works ∧ s.handPage.channels = s.channels ∧ s.handPage.rain = s.rain ∧
    s.handPage.spill = s.spill ∧ s.handPage.tanks = s.tanks ∧ s.handPage.drains = s.drains ∧ s.handPage.leg = s.leg ∧
    s.handPage.save = s.save ∧ s.handPage.media = s.media ∧ s.handPage.trigger = s.trigger := by
  refine ⟨?_, ?_, ?_, ?_, ?_, ?_, ?_, ?_, ?_, ?_, ?_, ?_, ?_⟩
  all_goals simp [handPage]

@[simp] theorem kept_movePoint (r : PageRef) :
    (s.movePoint r).outer = s.outer ∧ (s.movePoint r).transfers = s.transfers ∧ (s.movePoint r).allow = s.allow ∧
    (s.movePoint r).works = s.works ∧ (s.movePoint r).channels = s.channels ∧ (s.movePoint r).rain = s.rain ∧
    (s.movePoint r).spill = s.spill ∧ (s.movePoint r).tanks = s.tanks ∧ (s.movePoint r).drains = s.drains ∧
    (s.movePoint r).leg = s.leg ∧ (s.movePoint r).save = s.save ∧ (s.movePoint r).media = s.media ∧
    (s.movePoint r).trigger = s.trigger := by
  refine ⟨?_, ?_, ?_, ?_, ?_, ?_, ?_, ?_, ?_, ?_, ?_, ?_, ?_⟩
  all_goals
    unfold movePoint
    repeat' split
  all_goals simp

@[simp] theorem kept_programEnds (r : PageRef) (relocating ok : Bool) :
    (s.programEnds r relocating ok).outer = s.outer ∧ (s.programEnds r relocating ok).transfers = s.transfers ∧
    (s.programEnds r relocating ok).allow = s.allow ∧ (s.programEnds r relocating ok).works = s.works ∧
    (s.programEnds r relocating ok).channels = s.channels ∧ (s.programEnds r relocating ok).rain = s.rain ∧
    (s.programEnds r relocating ok).spill = s.spill ∧ (s.programEnds r relocating ok).tanks = s.tanks ∧
    (s.programEnds r relocating ok).drains = s.drains ∧ (s.programEnds r relocating ok).leg = s.leg ∧
    (s.programEnds r relocating ok).trigger = s.trigger := by
  refine ⟨?_, ?_, ?_, ?_, ?_, ?_, ?_, ?_, ?_, ?_, ?_⟩
  all_goals
    unfold programEnds
    repeat' split
  all_goals simp

@[simp] theorem kept_copyEnds (page : Fin 16) (source target : Fin 64) (ok : Bool) :
    (s.copyEnds page source target ok).outer = s.outer ∧ (s.copyEnds page source target ok).transfers = s.transfers ∧
    (s.copyEnds page source target ok).allow = s.allow ∧ (s.copyEnds page source target ok).works = s.works ∧
    (s.copyEnds page source target ok).channels = s.channels ∧ (s.copyEnds page source target ok).rain = s.rain ∧
    (s.copyEnds page source target ok).spill = s.spill ∧ (s.copyEnds page source target ok).tanks = s.tanks ∧
    (s.copyEnds page source target ok).drains = s.drains ∧ (s.copyEnds page source target ok).leg = s.leg ∧
    (s.copyEnds page source target ok).trigger = s.trigger := by
  refine ⟨?_, ?_, ?_, ?_, ?_, ?_, ?_, ?_, ?_, ?_, ?_⟩
  all_goals
    unfold copyEnds
    repeat' split
  all_goals simp

@[simp] theorem kept_readEnds (r : PageRef) (target : Option (Fin 2)) (sound : Bool) :
    (s.readEnds r target sound).outer = s.outer ∧ (s.readEnds r target sound).transfers = s.transfers ∧
    (s.readEnds r target sound).allow = s.allow ∧ (s.readEnds r target sound).works = s.works ∧
    (s.readEnds r target sound).channels = s.channels ∧ (s.readEnds r target sound).rain = s.rain ∧
    (s.readEnds r target sound).spill = s.spill ∧ (s.readEnds r target sound).tanks = s.tanks ∧
    (s.readEnds r target sound).drains = s.drains ∧ (s.readEnds r target sound).leg = s.leg ∧
    (s.readEnds r target sound).save = s.save ∧ (s.readEnds r target sound).media = s.media ∧
    (s.readEnds r target sound).trigger = s.trigger := by
  refine ⟨?_, ?_, ?_, ?_, ?_, ?_, ?_, ?_, ?_, ?_, ?_, ?_, ?_⟩
  all_goals
    unfold readEnds
    repeat' split
  all_goals simp

end State

end Sys2Proof.Machine
end

