-- ==== Sys2Proof/Laws/Orders.lean ====
section
/-! SUPPORT. What the checks of an order and the form of an event do, once each: an order's exec is cited
through these and not unfolded again (R96, R170 to R176). -/

namespace Sys2Proof.Machine

variable {i : Instr} {h : Head} {s : State} {b : Bundle}

/-- RUNNING is neither a start-up stage nor RESET. -/
theorem not_startingUp (r : s.stage = .running) : startingUp s = false := by simp [startingUp, r]

/-- An order at its place is checked in the state of its bundle, and its answer joins the response. -/
theorem takeWith_of_stands (st : Stands i h s b) (check : State → Answer) :
    takeWith i h check s = placeAnswer (check (s.during b)) b := by
  simp [takeWith, not_startingUp st.running, st.running, st.frame, st.place, State.during]

/-- In RUNNING, a command whose frame does not hold it, or out of its turn, changes nothing (log entries 3, 4). -/
theorem takeWith_of_out_of_place (r : s.stage = .running)
    (out : frameHolds s i h = false ∨ nextBundle s h = none) (check : State → Answer) : takeWith i h check s = s := by
  unfold takeWith
  rcases out with o | o <;> simp [not_startingUp r, r, o]

/-- Steps 3 to 7 of the checks, with the guard valid and true and room enough (R172). -/
theorem checkGuard_passes {room : Nat} {body : State → Answer} (valid : guardValid h.guard = true)
    (value : guardValue s h.guard = true) (fits : room ≤ spaceLeft s h) : checkGuard s h room body = body s := by
  simp [checkGuard, valid, value, Nat.not_lt.mpr fits]

/-- An order that passes steps 1 to 5 is decided by its own rule (R172). -/
theorem takeOrder_of_admitted {f : OrderForm} {body : State → Answer} (st : Stands i h s b) (clear : f.reserved = false)
    (role : h.port ∈ f.ports) (valid : guardValid h.guard = true) (value : guardValue (s.during b) h.guard = true)
    (fits : f.room ≤ spaceLeft (s.during b) h) : takeOrder i h f body s = placeAnswer (body (s.during b)) b := by
  unfold takeOrder
  rw [takeWith_of_stands st]
  simp [checkOrder, clear, role, checkGuard_passes valid value fits]

/-- An event that is due is taken whole, with its end (R96). -/
theorem takeEvent_of_due {f : State → State} (o : Open s) : takeEvent true f s = (f s).finishEvent := by
  simp [takeEvent, o.running, o.between]

/-- An event that is not due does not arise (log entry 3). -/
theorem takeEvent_of_not_due {f : State → State} : takeEvent false f s = s := by simp [takeEvent]

/-- What an event and its end keep, the event keeps (R96). -/
theorem takeEvent_keeps {β : Type} (π : State → β) (ends : ∀ t : State, π t.finishEvent = π t) {due : Bool} {f : State → State}
    (keeps : π (f s) = π s) : π (takeEvent due f s) = π s := by
  unfold takeEvent
  split <;> simp [ends, keeps]

/-- What the places of an answer keep, the answer's placing keeps (R170). -/
theorem placeAnswer_keeps {β : Type} (π : State → β) (ends : ∀ t : State, π t.finishEvent = π t)
    (port : ∀ (t : State) p f, π (t.modPort p f) = π t) (bundle : ∀ (t : State) x, π { t with bundle := x } = π t) (a : Answer) :
    π (placeAnswer a b) = π a.state := by
  unfold placeAnswer respond
  dsimp only
  split <;> simp [ends, port, bundle]

/-- What an order's rule and the checks around it keep, the order keeps (R170). -/
theorem takeWith_keeps {β : Type} (π : State → β) (ends : ∀ t : State, π t.finishEvent = π t)
    (port : ∀ (t : State) p f, π (t.modPort p f) = π t) (bundle : ∀ (t : State) x, π { t with bundle := x } = π t)
    {check : State → Answer} (keeps : ∀ t, π (check t).state = π t) : π (takeWith i h check s) = π s := by
  unfold takeWith respondShort respond
  repeat' split
  all_goals simp [placeAnswer_keeps π ends port bundle, keeps, port, bundle]

/-- A rule that keeps something keeps it whatever the checks decide (R172). -/
theorem checkOrder_keeps {β : Type} (π : State → β) {f : OrderForm} {body : State → Answer}
    (keeps : ∀ t, π (body t).state = π t) (t : State) : π (checkOrder t h f body).state = π t := by
  unfold checkOrder checkGuard answer
  repeat' split
  all_goals simp [keeps]

end Sys2Proof.Machine
end

