-- ==== Sys2Proof/Laws/Commands.lean ====
section
/-! SUPPORT. What the rule of each order leaves of the base: one lemma per rule. -/

namespace Sys2Proof.Machine

variable (s : State)


@[simp] theorem kept_answer (c : Code) :
    (answer s c).state.outer = s.outer ∧ (answer s c).state.allow = s.allow ∧ (answer s c).state.works = s.works := by
  exact ⟨rfl, rfl, rfl⟩

@[simp] theorem kept_doneOr (c : Bool) :
    (doneOr s c).state.outer = s.outer ∧ (doneOr s c).state.allow = s.allow ∧ (doneOr s c).state.works = s.works := by
  exact ⟨rfl, rfl, rfl⟩

@[simp] theorem kept_doneData (n : Nat) (d : List Byte) :
    (doneData s n d).state.outer = s.outer ∧ (doneData s n d).state.allow = s.allow ∧
    (doneData s n d).state.works = s.works := by
  exact ⟨rfl, rfl, rfl⟩

@[simp] theorem kept_marking (f : State → Answer) :
    (marking f s).state.outer = (f s).state.outer ∧ (marking f s).state.allow = (f s).state.allow
      ∧ (marking f s).state.works = (f s).state.works := by
  unfold marking
  dsimp only
  split <;> simp

@[simp] theorem kept_statusAnswer (g : Byte) :
    (statusAnswer g s).state.outer = s.outer ∧ (statusAnswer g s).state.allow = s.allow
      ∧ (statusAnswer g s).state.works = s.works := by
  refine ⟨?_, ?_, ?_⟩
  all_goals
    unfold statusAnswer
    split <;> simp

@[simp] theorem kept_noticesAnswer (p : Port) :
    (noticesAnswer p s).state.outer = s.outer ∧ (noticesAnswer p s).state.allow = s.allow ∧
    (noticesAnswer p s).state.works = s.works := by
  refine ⟨?_, ?_, ?_⟩
  all_goals simp [noticesAnswer]

@[simp] theorem kept_saveAnswer (p : Port) :
    (saveAnswer p s).state.outer = s.outer ∧ (saveAnswer p s).state.allow = s.allow ∧
    (saveAnswer p s).state.works = s.works := by
  refine ⟨?_, ?_, ?_⟩
  all_goals
    unfold saveAnswer
    split <;> simp

@[simp] theorem kept_tankReadAnswer (t p : Byte) :
    (tankReadAnswer t p s).state.outer = s.outer ∧ (tankReadAnswer t p s).state.allow = s.allow ∧
    (tankReadAnswer t p s).state.works = s.works := by
  refine ⟨?_, ?_, ?_⟩
  all_goals
    unfold tankReadAnswer
    repeat' split
    all_goals simp

@[simp] theorem kept_alertReadAnswer (g : Byte) :
    (alertReadAnswer g s).state.outer = s.outer ∧ (alertReadAnswer g s).state.allow = s.allow ∧
    (alertReadAnswer g s).state.works = s.works := by
  refine ⟨?_, ?_, ?_⟩
  all_goals
    unfold alertReadAnswer
    split <;> simp

@[simp] theorem kept_entryReadAnswer (e : Byte) :
    (entryReadAnswer e s).state.outer = s.outer ∧ (entryReadAnswer e s).state.allow = s.allow ∧
    (entryReadAnswer e s).state.works = s.works := by
  refine ⟨?_, ?_, ?_⟩
  all_goals
    unfold entryReadAnswer
    split <;> simp

theorem withTank_keeps {β : Type} (π : State → β) (t : Byte) (f : Fin 8 → State → Answer) (h : ∀ t, π (f t s).state = π s) :
    π (withTank t f s).state = π s := by
  unfold withTank
  split <;> simp [h, answer]

theorem ownTank_keeps {β : Type} (π : State → β) (p : Port) (t : Byte) (f : Fin 8 → State → Answer)
    (h : ∀ t, π (f t s).state = π s) : π (ownTank p t f s).state = π s := by
  unfold ownTank
  refine withTank_keeps s π t _ (fun t => ?_)
  split <;> simp [h, answer]

@[simp] theorem kept_ownTank (p : Port) (t : Byte) (f : Fin 8 → State → Answer)
    (h : ∀ t, (f t s).state.outer = s.outer ∧ (f t s).state.allow = s.allow ∧ (f t s).state.works = s.works) :
    (ownTank p t f s).state.outer = s.outer ∧ (ownTank p t f s).state.allow = s.allow
      ∧ (ownTank p t f s).state.works = s.works :=
  ⟨ownTank_keeps s _ p t f (fun t => (h t).1), ownTank_keeps s _ p t f (fun t => (h t).2.1),
    ownTank_keeps s _ p t f (fun t => (h t).2.2)⟩

@[simp] theorem kept_tankClaimAnswer (p : Port) (t : Fin 8) :
    (tankClaimAnswer p t s).state.outer = s.outer ∧ (tankClaimAnswer p t s).state.allow = s.allow ∧
    (tankClaimAnswer p t s).state.works = s.works := by
  refine ⟨?_, ?_, ?_⟩
  all_goals
    unfold tankClaimAnswer
    split <;> simp

@[simp] theorem kept_tankReleaseAnswer (t : Fin 8) :
    (tankReleaseAnswer t s).state.outer = s.outer ∧ (tankReleaseAnswer t s).state.allow = s.allow ∧
    (tankReleaseAnswer t s).state.works = s.works := by
  refine ⟨?_, ?_, ?_⟩
  all_goals
    unfold tankReleaseAnswer
    split <;> simp

@[simp] theorem kept_tankSetAnswer (v : TankOperands) (t : Fin 8) :
    (tankSetAnswer v t s).state.outer = s.outer ∧ (tankSetAnswer v t s).state.allow = s.allow ∧
    (tankSetAnswer v t s).state.works = s.works := by
  refine ⟨?_, ?_, ?_⟩
  all_goals simp [tankSetAnswer]

@[simp] theorem kept_shapeSetAnswer (v : ShapeOperands) (t : Fin 8) :
    (shapeSetAnswer v t s).state.outer = s.outer ∧ (shapeSetAnswer v t s).state.allow = s.allow ∧
    (shapeSetAnswer v t s).state.works = s.works := by
  refine ⟨?_, ?_, ?_⟩
  all_goals
    unfold shapeSetAnswer
    repeat' split
    all_goals simp

@[simp] theorem kept_bindAnswer (b : Binder) (target : Option (Fin 16)) (p : ChannelParams) :
    (bindAnswer b target p s).state.outer = s.outer ∧ (bindAnswer b target p s).state.allow = s.allow ∧
    (bindAnswer b target p s).state.works = s.works := by
  refine ⟨?_, ?_, ?_⟩
  all_goals
    unfold bindAnswer
    split <;> simp

@[simp] theorem kept_channelBindAnswer (r : Role) (v : BindOperands) (t : Fin 8) :
    (channelBindAnswer r v t s).state.outer = s.outer ∧ (channelBindAnswer r v t s).state.allow = s.allow ∧
    (channelBindAnswer r v t s).state.works = s.works := by
  refine ⟨?_, ?_, ?_⟩
  all_goals
    unfold channelBindAnswer
    repeat' split
    all_goals simp

@[simp] theorem kept_channelBindRule (p : Port) (t r : Byte) (v : BindOperands) :
    (channelBindRule p t r v s).state.outer = s.outer ∧ (channelBindRule p t r v s).state.allow = s.allow ∧
    (channelBindRule p t r v s).state.works = s.works := by
  refine ⟨?_, ?_, ?_⟩
  all_goals
    unfold channelBindRule
    split <;> simp

@[simp] theorem kept_drainRequestAnswer (m n : Word) (t : Fin 8) :
    (drainRequestAnswer m n t s).state.outer = s.outer ∧ (drainRequestAnswer m n t s).state.allow = s.allow ∧
    (drainRequestAnswer m n t s).state.works = s.works := by
  refine ⟨?_, ?_, ?_⟩
  all_goals
    unfold drainRequestAnswer
    dsimp only
    repeat' split
    all_goals simp

@[simp] theorem kept_drainStopAnswer (t : Fin 8) :
    (drainStopAnswer t s).state.outer = s.outer ∧ (drainStopAnswer t s).state.allow = s.allow ∧
    (drainStopAnswer t s).state.works = s.works := by
  refine ⟨?_, ?_, ?_⟩
  all_goals
    unfold drainStopAnswer
    split <;> simp

@[simp] theorem kept_grantAckAnswer (n r : Word) (t : Fin 8) :
    (grantAckAnswer n r t s).state.outer = s.outer ∧ (grantAckAnswer n r t s).state.allow = s.allow ∧
    (grantAckAnswer n r t s).state.works = s.works := by
  refine ⟨?_, ?_, ?_⟩
  all_goals
    unfold grantAckAnswer
    dsimp only
    repeat' split
    all_goals simp

@[simp] theorem kept_readFromAnswer (n : Long) :
    (readFromAnswer n s).state.outer = s.outer ∧ (readFromAnswer n s).state.allow = s.allow ∧
    (readFromAnswer n s).state.works = s.works := by
  refine ⟨?_, ?_, ?_⟩
  all_goals simp [readFromAnswer, State.keepDemand]

@[simp] theorem kept_readNext (n : Nat) :
    (State.readNext n s).2.outer = s.outer ∧ (State.readNext n s).2.allow = s.allow ∧
    (State.readNext n s).2.works = s.works := by
  induction n generalizing s with
  | zero => exact ⟨rfl, rfl, rfl⟩
  | succ n ih =>
    refine ⟨?_, ?_, ?_⟩
    all_goals
      unfold State.readNext
      dsimp only
      repeat' split
    all_goals simp [ih]

@[simp] theorem kept_readNextAnswer :
    (readNextAnswer s).state.outer = s.outer ∧ (readNextAnswer s).state.allow = s.allow ∧
    (readNextAnswer s).state.works = s.works := by
  refine ⟨?_, ?_, ?_⟩
  all_goals
    unfold readNextAnswer readNextReply
    dsimp only
    split <;> simp

@[simp] theorem kept_archiveUptoAnswer (n : Long) :
    (archiveUptoAnswer n s).state.outer = s.outer ∧ (archiveUptoAnswer n s).state.allow = s.allow ∧
    (archiveUptoAnswer n s).state.works = s.works := by
  refine ⟨?_, ?_, ?_⟩
  all_goals
    unfold archiveUptoAnswer
    repeat' split
    all_goals simp

@[simp] theorem kept_closePeriodAnswer :
    (closePeriodAnswer s).state.outer = s.outer ∧ (closePeriodAnswer s).state.allow = s.allow ∧
    (closePeriodAnswer s).state.works = s.works := by
  refine ⟨?_, ?_, ?_⟩
  all_goals
    unfold closePeriodAnswer
    dsimp only
    repeat' split
    all_goals simp

@[simp] theorem kept_countReadAnswer (o : Byte) :
    (countReadAnswer o s).state.outer = s.outer ∧ (countReadAnswer o s).state.allow = s.allow ∧
    (countReadAnswer o s).state.works = s.works := by
  refine ⟨?_, ?_, ?_⟩
  all_goals
    unfold countReadAnswer
    split <;> simp

@[simp] theorem kept_spillSetAnswer (v : SpillOperands) :
    (spillSetAnswer v s).state.outer = s.outer ∧ (spillSetAnswer v s).state.allow = s.allow ∧
    (spillSetAnswer v s).state.works = s.works := by
  refine ⟨?_, ?_, ?_⟩
  all_goals
    unfold spillSetAnswer
    split <;> simp

@[simp] theorem kept_gaugeSetAnswer (v : GaugeOperands) :
    (gaugeSetAnswer v s).state.outer = s.outer ∧ (gaugeSetAnswer v s).state.allow = s.allow ∧
    (gaugeSetAnswer v s).state.works = s.works := by
  refine ⟨?_, ?_, ?_⟩
  all_goals
    unfold gaugeSetAnswer
    dsimp only
    split <;> simp

@[simp] theorem kept_gaugeBindAnswer (g : Byte) (v : GaugeBindOperands) :
    (gaugeBindAnswer g v s).state.outer = s.outer ∧ (gaugeBindAnswer g v s).state.allow = s.allow ∧
    (gaugeBindAnswer g v s).state.works = s.works := by
  refine ⟨?_, ?_, ?_⟩
  all_goals
    unfold gaugeBindAnswer
    split <;> simp

@[simp] theorem kept_storeReadAnswer (p : Byte) :
    (storeReadAnswer p s).state.outer = s.outer ∧ (storeReadAnswer p s).state.allow = s.allow ∧
    (storeReadAnswer p s).state.works = s.works := by
  refine ⟨?_, ?_, ?_⟩
  all_goals
    unfold storeReadAnswer
    repeat' split
    all_goals simp

@[simp] theorem restart_keeps (x : Stage) :
    (s.restart x).pending = s.pending ∧ (s.restart x).eeprom = s.eeprom ∧ (s.restart x).lines = s.lines := by
  refine ⟨?_, ?_, ?_⟩
  all_goals
    unfold State.restart State.tearOperation
    dsimp only
    repeat' split
  all_goals rfl

end Sys2Proof.Machine
end

