-- ==== Sys2Proof/Laws/Frames.lean ====
section
/-! SUPPORT. The areas of a state are all of it, so a frame over them leaves nothing out. -/

namespace Sys2Proof.Machine

/-- A port is its notices and the rest of it. -/
theorem ports_eq {s t : State} (rest : t.transfers = s.transfers) (sets : t.noticeSets = s.noticeSets) : t.ports = s.ports := by
  apply Vector.ext
  intro i hi
  have r : t.transfers[i] = s.transfers[i] := by rw [rest]
  have n : t.noticeSets[i] = s.noticeSets[i] := by rw [sets]
  simp only [State.transfers, State.noticeSets, Vector.getElem_map, PortState.mk.injEq] at r n
  generalize t.ports[i] = p at r n ⊢
  generalize s.ports[i] = q at r n ⊢
  cases p
  cases q
  simp_all

/-- Two states that agree in every area are one. -/
theorem eq_of_unchanged {s t : State} (all : ∀ a, unchanged s t a) : t = s := by
  have ports := ports_eq (all .transfers) (all .notices)
  have outer : t.outer = s.outer := all .outer
  have drains : t.drains = s.drains := all .drains
  have media : t.media = s.media := all .media
  have trigger : t.trigger = s.trigger := all .trigger
  have channels : t.channels = s.channels := all .channels
  have tanks : t.tanks = s.tanks := all .tanks
  have rain : t.rain = s.rain := all .rain
  have allow : t.allow = s.allow := all .allow
  have leg : t.leg = s.leg := all .leg
  have works : t.works = s.works := all .works
  have spill : t.spill = s.spill := all .spill
  have store : t.store = s.store := all .store
  have save : t.save = s.save := all .save
  cases s
  cases t
  simp only [State.outer, State.drains, State.media, Prod.mk.injEq] at outer drains media
  simp_all

/-- A state changes nothing of itself. -/
theorem onlyChanges_refl (areas : List Area) (s : State) : onlyChanges areas s s := by
  intro a _
  cases a <;> rfl

/-- What changes nothing is the same state. -/
theorem onlyChanges_nil {s t : State} : onlyChanges [] s t ↔ t = s :=
  ⟨fun h => eq_of_unchanged (fun a => h a (by simp)), fun h => h ▸ onlyChanges_refl [] s⟩

/-- Frames follow one another. -/
theorem onlyChanges_trans {areas : List Area} {s t u : State} (first : onlyChanges areas s t) (second : onlyChanges areas t u) :
    onlyChanges areas s u := by
  intro a n
  have f := first a n
  have g := second a n
  cases a <;> exact g.trans f

end Sys2Proof.Machine
end

