-- ==== Sys2Proof/Laws/Memory.lean ====
section
/-! SUPPORT. The EEPROM's byte operations: what a write changes, and that it keeps the canonical form (R184). -/

namespace Sys2Proof.Machine

namespace Memory

variable {m : List Host.Cell} {low a : Nat} {b : Byte}

theorem rises_mono {lower : Nat} (le : lower ≤ low) (r : rises low m = true) : rises lower m = true := by
  cases m with
  | nil => rfl
  | cons c rest =>
    simp only [rises, Bool.and_eq_true, decide_eq_true_eq] at r ⊢
    exact ⟨⟨le.trans r.1.1, r.1.2⟩, r.2⟩

/-- Below the first listed address every byte reads as unlisted. -/
theorem read_of_lt (r : rises low m = true) (lt : a < low) : read m a = unlisted := by
  induction m generalizing low with
  | nil => rfl
  | cons c rest ih =>
    simp only [rises, Bool.and_eq_true, decide_eq_true_eq] at r
    have ne : a ≠ c.1 := by omega
    simp [read, ne, ih r.2 (by omega)]

/-- A write keeps the addresses rising. -/
theorem rises_write (r : rises low m = true) (le : low ≤ a) : rises low (write m a b) = true := by
  induction m generalizing low with
  | nil =>
    simp only [write]
    split <;> simp_all [rises]
  | cons c rest ih =>
    obtain ⟨x, y⟩ := c
    simp only [rises, Bool.and_eq_true, decide_eq_true_eq] at r
    obtain ⟨⟨lx, ny⟩, rr⟩ := r
    simp only [write]
    split
    · split
      · simp [rises, lx, ny, rr]
      · simp only [rises, Bool.and_eq_true, decide_eq_true_eq]
        exact ⟨⟨le, by assumption⟩, ⟨by omega, ny⟩, rr⟩
    · split
      · split
        · exact rises_mono (by omega) rr
        · simp only [rises, Bool.and_eq_true, decide_eq_true_eq]
          subst a
          exact ⟨⟨lx, by assumption⟩, rr⟩
      · simp only [rises, Bool.and_eq_true, decide_eq_true_eq]
        exact ⟨⟨lx, ny⟩, ih rr (by omega)⟩

/-- What reads after a write: the byte written at its address, every other byte as before. -/
theorem read_write (r : rises low m = true) (x : Nat) : read (write m a b) x = if x = a then b else read m x := by
  induction m generalizing low with
  | nil =>
    simp only [write]
    split
    · split <;> simp_all [read]
    · simp [read]
  | cons c rest ih =>
    obtain ⟨k, y⟩ := c
    simp only [rises, Bool.and_eq_true, decide_eq_true_eq] at r
    obtain ⟨_, rr⟩ := r
    simp only [write]
    split
    · split
      · split
        · subst x
          have lt : a < k + 1 := by omega
          simp only [read, read_of_lt rr lt, *]
          exact if_neg (by omega)
        · rfl
      · simp [read]
    · split
      · subst a
        split
        · by_cases e : x = k
          · subst e
            simp [read_of_lt rr (Nat.lt_succ_self _), *]
          · simp [read, e]
        · by_cases e : x = k <;> simp [read, e]
      · by_cases e : x = k
        · subst e
          have ne : x ≠ a := by omega
          simp [read, ne]
        · simp [read, e, ih rr]

theorem mem_write {c : Host.Cell} (h : c ∈ write m a b) : c ∈ m ∨ c.1 = a := by
  induction m with
  | nil =>
    simp only [write] at h
    split at h <;> simp_all
  | cons d rest ih =>
    obtain ⟨x, y⟩ := d
    simp only [write] at h
    split at h
    · split at h <;> simp_all
      rcases h with rfl | h <;> simp_all
    · split at h
      · split at h <;> simp_all
        rcases h with rfl | h <;> simp_all
      · simp only [List.mem_cons] at h
        rcases h with rfl | h
        · simp
        · rcases ih h with k | k <;> simp_all

/-- A write inside the EEPROM keeps the canonical form. -/
theorem wf_write (w : wf m = true) (lt : a < 4096) : wf (write m a b) = true := by
  simp only [wf, Bool.and_eq_true, List.all_eq_true, decide_eq_true_eq] at w ⊢
  refine ⟨rises_write w.1 (Nat.zero_le a), fun c h => ?_⟩
  rcases mem_write h with k | k
  · exact w.2 c k
  · omega

/-- Bytes stored inside the EEPROM keep the canonical form. -/
theorem wf_writeAll {bs : List Byte} (w : wf m = true) (le : a + bs.length ≤ 4096) : wf (writeAll m a bs) = true := by
  induction bs generalizing m a with
  | nil => exact w
  | cons b bs ih =>
    simp only [List.length_cons] at le
    exact ih (wf_write w (by omega)) (by omega)

/-- Outside the bytes stored every byte reads as before. -/
theorem read_writeAll_of_outside {bs : List Byte} {x : Nat} (r : rises 0 m = true) (out : x < a ∨ a + bs.length ≤ x) :
    read (writeAll m a bs) x = read m x := by
  induction bs generalizing m a with
  | nil => rfl
  | cons b bs ih =>
    simp only [List.length_cons] at out
    have ne : x ≠ a := by omega
    simp only [writeAll]
    rw [ih (rises_write r (Nat.zero_le a)) (by omega), read_write r]
    simp [ne]

/-- Inside them, the byte stored. -/
theorem read_writeAll_of_inside {bs : List Byte} {k : Nat} (r : rises 0 m = true) (lt : k < bs.length) :
    read (writeAll m a bs) (a + k) = bs.getD k 0#8 := by
  induction bs generalizing m a k with
  | nil => simp at lt
  | cons b bs ih =>
    simp only [List.length_cons] at lt
    simp only [writeAll]
    have s : rises 0 (write m a b) = true := rises_write r (Nat.zero_le a)
    cases k with
    | zero =>
      rw [read_writeAll_of_outside s (by omega), read_write r]
      simp
    | succ k =>
      have e : a + (k + 1) = a + 1 + k := by omega
      rw [e, ih s (by omega)]
      simp

end Memory

/-- The EEPROM's canonical form holds at reset. -/
theorem wf_reset : Memory.wf State.reset.eeprom = true := rfl

end Sys2Proof.Machine
end

