-- ==== Sys2Proof/Laws/Operations.lean ====
section
/-! SUPPORT. What the shared operations do, beside what they keep: A_eff formed afresh, notices set, a record handed
over, the assembly buffer filled, a leave of the drain list and a site's own zeroing, what a page programmed whole or
half-written reads as, how long the settings image is (R75, R77, R82 to R84, R107, R109, R142 to R146, R177, 11.5). -/

namespace Sys2Proof.Machine

namespace State

variable (s : State)

/-- Forming A_eff writes A_eff alone of the allowance unit (R75). -/
@[simp] theorem formAllowance_allow : s.formAllowance.allow = { s.allow with aEff := s.formedAllowance } := by
  unfold formAllowance
  split
  · rename_i same
    rw [same]
  · rfl

/-- An allowance event forms A_eff and hands its record over (R75, R77). -/
@[simp] theorem allowanceEvent_allow (cause : AllowanceCause) (returned : Option (Fin 8)) :
    (s.allowanceEvent cause returned).allow = { s.allow with aEff := s.formedAllowance } := by
  simp [allowanceEvent]

/-- A notice joins the set of its port, and no other set (R177). -/
@[simp] theorem port_notify (k : Notice) (p q : Port) :
    (s.notify k p).port q = if q = p then { s.port p with notices := (s.port p).notices ||| noticeWord k } else s.port q := by
  simp [notify]

/-- Filling the assembly buffer moves records from the head of the queue to its end, and no more (R144). -/
theorem fillAssembly_moves (n : Nat) :
    (fillAssembly n s).store.assembly ++ (fillAssembly n s).store.queue = s.store.assembly ++ s.store.queue
      ∧ (fillAssembly n s).store.nextSeq = s.store.nextSeq ∧ (fillAssembly n s).store.lost = s.store.lost
      ∧ (fillAssembly n s).store.program = s.store.program ∧ (fillAssembly n s).store.cursor = s.store.cursor
      ∧ (fillAssembly n s).store.archiveMark = s.store.archiveMark := by
  induction n generalizing s with
  | zero => simp [fillAssembly]
  | succ n ih =>
    unfold fillAssembly
    split
    · simp
    · rename_i queue
      split
      · obtain ⟨moves, rest⟩ := ih (s.assemble _ _)
        refine ⟨?_, rest⟩
        rw [moves, queue]
        simp [assemble]
      · simp

/-- With numbers left and room in the queue a record is held, last, under the next number; with no room it is numbered and
lost (R142, R143). -/
theorem handOver_holds (kind subject : Nat) (body : Nat → List Byte) (left : s.store.nextSeq < 4294967295) :
    (s.handOver kind subject body).1 = s.store.nextSeq
      ∧ (s.handOver kind subject body).2.store.nextSeq = s.store.nextSeq + 1
      ∧ (s.handOver kind subject body).2.heldRecords =
          s.heldRecords ++ (if s.store.queue.length < 32 then [s.recordBytes s.store.nextSeq kind subject (body s.store.nextSeq)]
            else [])
      ∧ (s.handOver kind subject body).2.store.lost =
          if s.store.queue.length < 32 then s.store.lost else satAdd 4294967295 s.store.lost 1 := by
  unfold handOver
  rw [if_pos left]
  by_cases room : s.store.queue.length < 32
  · simp only [modStore_store, room, if_true]
    obtain ⟨moves, number, lost, program, _⟩ := fillAssembly_moves
      (((s.modStore (fun v => { v with nextSeq := s.store.nextSeq + 1 })).modStore (fun v =>
        { v with queue := v.queue ++ [(s.modStore (fun v => { v with nextSeq := s.store.nextSeq + 1 })).recordBytes
          s.store.nextSeq kind subject (body s.store.nextSeq)] }))) 16
    refine ⟨trivial, number, ?_, lost⟩
    unfold heldRecords
    rw [List.append_assoc, moves, program]
    simp [recordBytes, civilTime, partTime]
  · simp [room, loseRecord, heldRecords, notify]

/-- The bytes of a record are those that 11.4 lays out (R142). -/
theorem recordBytes_eq (sequence kind subject : Nat) (body : List Byte) :
    s.recordBytes sequence kind subject body = recordOf s sequence kind subject body := by
  have limit : fieldMax 4 = 4294967295 := rfl
  unfold recordBytes recordOf padTo cappedBytes byteOf bit civilTime
  cases s.civil <;> simp [limit]

/-- A record handed over with room in the queue joins those held (R142, R143). -/
theorem handOver_joined (kind subject : Nat) (body : Nat → List Byte) (left : s.store.nextSeq < 4294967295)
    (room : s.store.queue.length < 32) :
    joined s (s.handOver kind subject body).2 (recordOf s s.store.nextSeq kind subject (body s.store.nextSeq)) := by
  have holds := (s.handOver_holds kind subject body left).2.2.1
  rw [if_pos room, recordBytes_eq] at holds
  exact holds

/-- The good blocks are those whose status is not RETIRED (R145). -/
theorem goodCount_eq : s.goodCount = goodBlocks s := by
  unfold goodCount goodBlocks isRetired
  congr 2
  funext b
  simp

/-- A notice set on several ports joins the set of each and of no other (R177). -/
theorem port_notifyAll (k : Notice) (ps : List Port) (p : Port) :
    (s.notifyAll k ps).port p =
      { s.port p with notices := if p ∈ ps then (s.port p).notices ||| noticeWord k else (s.port p).notices } := by
  induction ps generalizing s with
  | nil => simp [notifyAll]
  | cons a l ih =>
    simp only [notifyAll, List.foldl_cons] at ih ⊢
    rw [ih]
    by_cases e : p = a
    · subst e
      by_cases m : p ∈ l <;> simp [m, BitVec.or_assoc]
    · simp [e]

/-- Setting notices writes the ports alone (R177). -/
theorem notifyAll_rest (k : Notice) (ps : List Port) : s.notifyAll k ps = { s with ports := (s.notifyAll k ps).ports } := by
  induction ps generalizing s with
  | nil => rfl
  | cons a l ih =>
    simp only [notifyAll, List.foldl_cons] at ih ⊢
    rw [ih]
    rfl

/-- A leave takes its tank out of the list with its grant 0 at once, and touches no other (R83, R84, R96). -/
@[simp] theorem tank_leaveList (t k : Fin 8) (reason : DrainReason) :
    (s.leaveList t reason).tank k = if k = t then outOfList (s.tank t) reason else s.tank k := by
  have others : ∀ l : List (Fin 8), ({ s with drainList := l } : State).tank = s.tank := fun _ => rfl
  unfold leaveList outOfList
  by_cases e : k = t
  · subst e
    simp only [tank_noteTrigger, tank_modGrant, tank_modDrain, if_true, others]
  · simp only [tank_noteTrigger, tank_modGrant, tank_modDrain, if_neg e, others]

/-- Clearing the overdue flag writes that flag of its tank alone (R107). -/
@[simp] theorem tank_clearOverdue (t k : Fin 8) (cause : OverdueCause) :
    (s.clearOverdue t cause).tank k =
      if k = t then { s.tank t with grant := { (s.tank t).grant with overdueSince := none } } else s.tank k := by
  unfold clearOverdue
  split
  · rename_i clear
    by_cases e : k = t
    · subst e
      rw [if_pos rfl, ← clear]
    · rw [if_neg e]
  · rename_i since _
    have written : ((s.modGrant t (fun g => { g with overdueSince := none })).overdueRecord t cause since).tanks
        = (s.modGrant t (fun g => { g with overdueSince := none })).tanks := by simp
    refine Eq.trans ?_ (tank_modGrant s t k (fun g => { g with overdueSince := none }))
    dsimp only
    split
    · exact tank_congr written k
    · exact tank_congr written k

/-- A watch of the set of R110 sets a notice at most (R111). -/
@[simp] theorem tank_watchSettled (before after : State) (k : Fin 8) : (watchSettled before after).tank k = after.tank k := by
  unfold watchSettled
  split <;> rfl

/-- A site's own zeroing leaves its tank settled at nothing granted or confirmed, what was published as it was (R109). -/
@[simp] theorem tank_siteZero (t k : Fin 8) (cause : OverdueCause) :
    (s.siteZero t cause).tank k =
      if k = t then { s.tank t with grant := { (s.tank t).grant with
        granted := 0, confirmed := 0, unsettled := false, deadline := none, overdueSince := none } }
      else s.tank k := by
  unfold siteZero
  by_cases e : k = t <;> simp [e]

/-- A stop's zeroing counts as published (R82, R97). -/
@[simp] theorem tank_stopZero (t k : Fin 8) :
    (s.stopZero t).tank k =
      if k = t then { s.tank t with grant := { (s.tank t).grant with
        granted := 0, published := 0, confirmed := 0, unsettled := false, deadline := none, overdueSince := none } }
      else s.tank k := by
  unfold stopZero
  by_cases e : k = t <;> simp [e]

/-- The remaining of an entry that a read reports is that of R64. -/
theorem remainingNow_eq (e : Fin 8) : s.remainingNow e = remainingAt s e := rfl

/-- The working settings are read from the numbers, the channels, the tanks, the gauges and the retired list alone (R184). -/
theorem workingSettings_congr {s t : State} (works : t.works = s.works) (channels : t.channels = s.channels)
    (tanks : t.tanks = s.tanks) (rain : t.rain = s.rain) (spill : t.spill.set = s.spill.set) (retired : t.retired = s.retired) :
    t.workingSettings = s.workingSettings := by
  cases s
  cases t
  simp only at works channels tanks rain retired
  subst works channels tanks rain retired
  simp only at spill
  unfold workingSettings
  rw [spill]
  rfl

end State

/-! ### Pages of the array (R145, R162, R163) -/

/-- A spare area with a fresh spare check code passes its check. -/
@[simp] theorem sparePasses_spareOf (records held : List (List Byte)) (code : Word) :
    sparePasses (.programmed records (spareOf held code)) = true := by
  simp [sparePasses, spareOf, Spare.coded, spareBytes]

/-- A page programmed whole passes both its checks. -/
@[simp] theorem pageSound_programmedPage (records : List (List Byte)) : pageSound (programmedPage records) = true := by
  simp [programmedPage, pageSound]
  rfl

/-- A page programmed whole holds the records given it, 255 at most. -/
theorem pageRecords_programmedPage {records : List (List Byte)} (le : records.length ≤ 255) :
    pageRecords (programmedPage records) = records := by
  have count : (BitVec.ofNat 8 records.length).toNat = records.length := by
    rw [BitVec.toNat_ofNat]
    omega
  simp [programmedPage, pageRecords, spareOf, Spare.coded, count]

/-- A page left half-written fails a check (log entry 23). -/
@[simp] theorem pageSound_tornPage (unreadable : Bool) (records : List (List Byte)) :
    pageSound (tornPage unreadable records) = false := by
  unfold tornPage
  split
  · rfl
  · have differs : ∀ x : Word, x ≠ x ^^^ 1#16 := by
      intro x same
      have bit := congrArg (fun y : Word => y.getLsbD 0) same
      simp at bit
    simp [pageSound, spareOf, Spare.coded, differs]

/-! ### The settings image (11.5) -/

/-- A list of bytes brought to n bytes has n bytes. -/
@[simp] theorem length_padTo (n : Nat) (bs : List Byte) : (padTo n bs).length = n := by
  unfold padTo; simp; omega

/-- The body of the settings image has 1,022 bytes, whatever the settings (11.5). -/
theorem length_imageBody (w : Settings) : (imageBody w).length = 1022 := by
  simp [imageBody, tankSlot, List.finRange]

/-- The image has 1,024 bytes, its CRC included (11.5). -/
theorem length_formImage (w : Settings) : (formImage w).length = 1024 := by
  simp [formImage, length_imageBody, wordBytes, beBytes]

end Sys2Proof.Machine
end

