-- ==== Sys2Proof/Laws/OrderForms.lean ====
section
/-! SUPPORT. Every assigned order goes through the one form of checking, with the ports, the reserved bits and the
data room the tables of Safety give it; and what an operand index is (R172, R194). -/

namespace Sys2Proof.Machine

variable {i : Instr} {h : Head} {s : State} {b : Bundle}

/-- The form of an order, by the tables of Safety. -/
def orderForm (i : Instr) : OrderForm := { ports := orderPorts i, reserved := orderReserved i, room := orderRoom i }

/-- An assigned order is checked by its form, then decided by a rule of its own (R172). -/
theorem exec_assignedOrder (a : assignedOrder i = true) (hd : orderHead i = some h) :
    ∃ body : State → Answer, ∀ s, exec i s = .next (takeOrder i h (orderForm i) body s) := by
  cases i <;> simp [assignedOrder, orderHead, orderParts] at a hd <;> subst hd <;> exact ⟨_, fun _ => rfl⟩

/-- An order that passes steps 1 to 5 is answered by its own rule (R172). -/
theorem takeOrder_answers {body : State → Answer} (a : Admitted i h s b) :
    takeOrder i h (orderForm i) body s = placeAnswer (body (s.during b)) b :=
  takeOrder_of_admitted a.toStands a.clear a.role a.valid a.value a.fits

theorem index_of_le {n : Nat} {x : Byte} (le : n ≤ x.toNat) : index n x = none := by
  simp only [index, dif_neg (Nat.not_lt.mpr le)]

theorem index_of_val {n : Nat} {x : Byte} {e : Fin n} (eq : e.val = x.toNat) : index n x = some e := by
  simp [index, ← eq]

section During

variable (s : State) (b : Bundle)

@[simp] theorem during_rest :
    (s.during b).stage = s.stage ∧ (s.during b).clock = s.clock ∧ (s.during b).civil = s.civil ∧
    (s.during b).freeIndex = s.freeIndex ∧ (s.during b).lines = s.lines ∧ (s.during b).ports = s.ports ∧
    (s.during b).trigger = s.trigger ∧ (s.during b).channels = s.channels ∧ (s.during b).tanks = s.tanks ∧
    (s.during b).rain = s.rain ∧ (s.during b).allow = s.allow ∧ (s.during b).drainList = s.drainList ∧
    (s.during b).globalSerial = s.globalSerial ∧ (s.during b).leg = s.leg ∧ (s.during b).works = s.works ∧
    (s.during b).spill = s.spill ∧ (s.during b).store = s.store ∧ (s.during b).retired = s.retired ∧
    (s.during b).save = s.save ∧ (s.during b).eeprom = s.eeprom ∧ (s.during b).array = s.array ∧
    (s.during b).pending = s.pending ∧ (s.during b).bundle = some b :=
  ⟨rfl, rfl, rfl, rfl, rfl, rfl, rfl, rfl, rfl, rfl, rfl, rfl, rfl, rfl, rfl, rfl, rfl, rfl, rfl, rfl, rfl, rfl, rfl⟩

@[simp] theorem during_tank (t : Fin 8) : (s.during b).tank t = s.tank t := rfl

@[simp] theorem during_entry (e : Fin 8) : (s.during b).entry e = s.entry e := rfl

@[simp] theorem during_channel (c : Fin 16) : (s.during b).channel c = s.channel c := rfl

@[simp] theorem during_port (p : Port) : (s.during b).port p = s.port p := rfl

@[simp] theorem during_outfall (o : Fin 8) : (s.during b).outfall o = s.outfall o := rfl

@[simp] theorem during_gauge (g : Fin 4) : (s.during b).gauge g = s.gauge g := rfl

@[simp] theorem during_partTime : (s.during b).partTime = s.partTime := rfl

end During

end Sys2Proof.Machine
end

