-- ==== Sys2Proof/Laws/PerInstr.lean ====
section
/-! SUPPORT. For every command: the operands an order encodes to are exactly as long as the table gives its code
(11.2), and the code is one byte. -/

namespace Sys2Proof.Laws.EncodeLength

open Sys2Proof Sys2Proof.Machine

/-- The operands of a well-formed order fill the length of its code, which fits one byte. -/
def Statement (i : Instr) : Prop :=
  wellFormed i = true → ∀ (h : Head) (code : Nat) (operands : List Byte), orderParts i = some (h, code, operands) →
    operands.length = operandLength code ∧ code < 256

/-- A code no order is assigned to carries no operand (9.3). -/
theorem length_of_unassigned {code : Nat} (free : codeAssigned code = false) : operandLength code = 0 := by
  unfold operandLength
  split <;> first
    | rfl
    | simp [codeAssigned] at free

theorem startUp : Statement .startUp := by
  intro _ _ _ _ e
  cases e

theorem resetAssert : Statement .resetAssert := by
  intro _ _ _ _ e
  cases e

theorem imageLoad (acknowledged : Bool) : Statement (.imageLoad acknowledged) := by
  intro _ _ _ _ e
  cases e

theorem storeFormat (eraseFails : List (Fin 64)) : Statement (.storeFormat eraseFails) := by
  intro _ _ _ _ e
  cases e

theorem storeScan : Statement .storeScan := by
  intro _ _ _ _ e
  cases e

theorem requestStart (port : Port) (bytes : List Byte) : Statement (.requestStart port bytes) := by
  intro _ _ _ _ e
  cases e

theorem frameError (port : Port) : Statement (.frameError port) := by
  intro _ _ _ _ e
  cases e

theorem notReady (port : Port) : Statement (.notReady port) := by
  intro _ _ _ _ e
  cases e

theorem responseRead (port : Port) (clocked : Nat) : Statement (.responseRead port clocked) := by
  intro _ _ _ _ e
  cases e

theorem nop (h : Head) : Statement (.nop h) := by
  intro _ _ _ _ e
  cases e
  exact ⟨rfl, by decide⟩

theorem unassignedCode (h : Head) (code : Byte) : Statement (.unassignedCode h code) := by
  intro w _ _ _ e
  simp only [wellFormed, Bool.and_eq_true, Bool.not_eq_true'] at w
  cases e
  exact ⟨(length_of_unassigned w.2).symm, code.isLt⟩

theorem identify (h : Head) : Statement (.identify h) := by
  intro _ _ _ _ e
  cases e
  exact ⟨rfl, by decide⟩

theorem statusRead (h : Head) (group : Byte) : Statement (.statusRead h group) := by
  intro _ _ _ _ e
  cases e
  exact ⟨rfl, by decide⟩

theorem noticesRead (h : Head) : Statement (.noticesRead h) := by
  intro _ _ _ _ e
  cases e
  exact ⟨rfl, by decide⟩

theorem noticeMask (h : Head) (mask : Word) : Statement (.noticeMask h mask) := by
  intro _ _ _ _ e
  cases e
  exact ⟨rfl, by decide⟩

theorem portReset (h : Head) : Statement (.portReset h) := by
  intro _ _ _ _ e
  cases e
  exact ⟨rfl, by decide⟩

theorem saveSettings (h : Head) : Statement (.saveSettings h) := by
  intro _ _ _ _ e
  cases e
  exact ⟨rfl, by decide⟩

theorem savePageSent (acknowledged : Bool) : Statement (.savePageSent acknowledged) := by
  intro _ _ _ _ e
  cases e

theorem eepromWriteComplete : Statement .eepromWriteComplete := by
  intro _ _ _ _ e
  cases e

theorem eepromWriteTimeout : Statement .eepromWriteTimeout := by
  intro _ _ _ _ e
  cases e

theorem pageReadbackComplete (data : List Byte) : Statement (.pageReadbackComplete data) := by
  intro _ _ _ _ e
  cases e

theorem tankRead (h : Head) (tank : Byte) (part : Byte) : Statement (.tankRead h tank part) := by
  intro _ _ _ _ e
  cases e
  exact ⟨rfl, by decide⟩

theorem alertRead (h : Head) (gauge : Byte) : Statement (.alertRead h gauge) := by
  intro _ _ _ _ e
  cases e
  exact ⟨rfl, by decide⟩

theorem entryWrite (h : Head) (entry : Byte) (rate : Word) (duration : Word) (link : Byte) : Statement (.entryWrite h entry rate duration link) := by
  intro _ _ _ _ e
  cases e
  exact ⟨rfl, by decide⟩

theorem entryPost (h : Head) (entry : Byte) : Statement (.entryPost h entry) := by
  intro _ _ _ _ e
  cases e
  exact ⟨rfl, by decide⟩

theorem entryRecall (h : Head) (entry : Byte) : Statement (.entryRecall h entry) := by
  intro _ _ _ _ e
  cases e
  exact ⟨rfl, by decide⟩

theorem entryRead (h : Head) (entry : Byte) : Statement (.entryRead h entry) := by
  intro _ _ _ _ e
  cases e
  exact ⟨rfl, by decide⟩

theorem scheduleKick (h : Head) (entry : Byte) : Statement (.scheduleKick h entry) := by
  intro _ _ _ _ e
  cases e
  exact ⟨rfl, by decide⟩

theorem scheduleStop (h : Head) : Statement (.scheduleStop h) := by
  intro _ _ _ _ e
  cases e
  exact ⟨rfl, by decide⟩

theorem leaseRenew (h : Head) : Statement (.leaseRenew h) := by
  intro _ _ _ _ e
  cases e
  exact ⟨rfl, by decide⟩

theorem hold (h : Head) (minutes : Byte) : Statement (.hold h minutes) := by
  intro _ _ _ _ e
  cases e
  exact ⟨rfl, by decide⟩

theorem release (h : Head) : Statement (.release h) := by
  intro _ _ _ _ e
  cases e
  exact ⟨rfl, by decide⟩

theorem worksSet (h : Head) (v : WorksOperands) : Statement (.worksSet h v) := by
  intro _ _ _ _ e
  cases e
  exact ⟨rfl, by decide⟩

theorem drawRead (h : Head) : Statement (.drawRead h) := by
  intro _ _ _ _ e
  cases e
  exact ⟨rfl, by decide⟩

theorem tankClaim (h : Head) (tank : Byte) : Statement (.tankClaim h tank) := by
  intro _ _ _ _ e
  cases e
  exact ⟨rfl, by decide⟩

theorem tankRelease (h : Head) (tank : Byte) : Statement (.tankRelease h tank) := by
  intro _ _ _ _ e
  cases e
  exact ⟨rfl, by decide⟩

theorem tankSet (h : Head) (tank : Byte) (v : TankOperands) : Statement (.tankSet h tank v) := by
  intro _ _ _ _ e
  cases e
  exact ⟨rfl, by decide⟩

theorem shapeSet (h : Head) (tank : Byte) (v : ShapeOperands) : Statement (.shapeSet h tank v) := by
  intro _ _ _ _ e
  cases e
  exact ⟨by simp [shapeBytes, wordBytes, beBytes]; rfl, by decide⟩

theorem channelBind (h : Head) (tank : Byte) (role : Byte) (v : BindOperands) : Statement (.channelBind h tank role v) := by
  intro _ _ _ _ e
  cases e
  exact ⟨rfl, by decide⟩

theorem drainRequest (h : Head) (tank : Byte) (m : Word) (n : Word) : Statement (.drainRequest h tank m n) := by
  intro _ _ _ _ e
  cases e
  exact ⟨rfl, by decide⟩

theorem drainStop (h : Head) (tank : Byte) : Statement (.drainStop h tank) := by
  intro _ _ _ _ e
  cases e
  exact ⟨rfl, by decide⟩

theorem grantAck (h : Head) (tank : Byte) (serial : Word) (rate : Word) : Statement (.grantAck h tank serial rate) := by
  intro _ _ _ _ e
  cases e
  exact ⟨rfl, by decide⟩

theorem cycleRead (h : Head) (tank : Byte) : Statement (.cycleRead h tank) := by
  intro _ _ _ _ e
  cases e
  exact ⟨rfl, by decide⟩

theorem clockSet (h : Head) (time : Long) : Statement (.clockSet h time) := by
  intro _ _ _ _ e
  cases e
  exact ⟨rfl, by decide⟩

theorem readFrom (h : Head) (sequence : Long) : Statement (.readFrom h sequence) := by
  intro _ _ _ _ e
  cases e
  exact ⟨rfl, by decide⟩

theorem readNext (h : Head) : Statement (.readNext h) := by
  intro _ _ _ _ e
  cases e
  exact ⟨rfl, by decide⟩

theorem archiveUpto (h : Head) (sequence : Long) : Statement (.archiveUpto h sequence) := by
  intro _ _ _ _ e
  cases e
  exact ⟨rfl, by decide⟩

theorem closePeriod (h : Head) : Statement (.closePeriod h) := by
  intro _ _ _ _ e
  cases e
  exact ⟨rfl, by decide⟩

theorem countRead (h : Head) (outfall : Byte) : Statement (.countRead h outfall) := by
  intro _ _ _ _ e
  cases e
  exact ⟨rfl, by decide⟩

theorem spillSet (h : Head) (v : SpillOperands) : Statement (.spillSet h v) := by
  intro _ _ _ _ e
  cases e
  exact ⟨rfl, by decide⟩

theorem gaugeSet (h : Head) (v : GaugeOperands) : Statement (.gaugeSet h v) := by
  intro _ _ _ _ e
  cases e
  exact ⟨by simp [gaugeBytes, thresholdBytes, wordBytes, beBytes]; rfl, by decide⟩

theorem gaugeBind (h : Head) (gauge : Byte) (v : GaugeBindOperands) : Statement (.gaugeBind h gauge v) := by
  intro _ _ _ _ e
  cases e
  exact ⟨rfl, by decide⟩

theorem storeRead (h : Head) (part : Byte) : Statement (.storeRead h part) := by
  intro _ _ _ _ e
  cases e
  exact ⟨rfl, by decide⟩

theorem rawLineChange (c : Fin 16) (high : Bool) : Statement (.rawLineChange c high) := by
  intro _ _ _ _ e
  cases e

theorem debounceAccept (c : Fin 16) : Statement (.debounceAccept c) := by
  intro _ _ _ _ e
  cases e

theorem channelSettle (c : Fin 16) : Statement (.channelSettle c) := by
  intro _ _ _ _ e
  cases e

theorem rainStuck (c : Fin 16) : Statement (.rainStuck c) := by
  intro _ _ _ _ e
  cases e

theorem levelSaturate (c : Fin 16) : Statement (.levelSaturate c) := by
  intro _ _ _ _ e
  cases e

theorem levelSample (c : Fin 16) : Statement (.levelSample c) := by
  intro _ _ _ _ e
  cases e

theorem levelStaleTimeout (c : Fin 16) : Statement (.levelStaleTimeout c) := by
  intro _ _ _ _ e
  cases e

theorem levelFaultTimeout (c : Fin 16) : Statement (.levelFaultTimeout c) := by
  intro _ _ _ _ e
  cases e

theorem gateEnd (c : Fin 16) : Statement (.gateEnd c) := by
  intro _ _ _ _ e
  cases e

theorem binBoundary : Statement .binBoundary := by
  intro _ _ _ _ e
  cases e

theorem clearTimerExpiry : Statement .clearTimerExpiry := by
  intro _ _ _ _ e
  cases e

theorem entryExpiry : Statement .entryExpiry := by
  intro _ _ _ _ e
  cases e

theorem leaseLapse : Statement .leaseLapse := by
  intro _ _ _ _ e
  cases e

theorem holdExpiry : Statement .holdExpiry := by
  intro _ _ _ _ e
  cases e

theorem confirmDeadline (t : Fin 8) : Statement (.confirmDeadline t) := by
  intro _ _ _ _ e
  cases e

theorem tOnExpiry (o : Fin 8) : Statement (.tOnExpiry o) := by
  intro _ _ _ _ e
  cases e

theorem tOffExpiry (o : Fin 8) : Statement (.tOffExpiry o) := by
  intro _ _ _ _ e
  cases e

theorem intervalEnd (o : Fin 8) : Statement (.intervalEnd o) := by
  intro _ _ _ _ e
  cases e

theorem flushTimerExpiry : Statement .flushTimerExpiry := by
  intro _ _ _ _ e
  cases e

theorem pageHandover : Statement .pageHandover := by
  intro _ _ _ _ e
  cases e

theorem arrayOperationStart : Statement .arrayOperationStart := by
  intro _ _ _ _ e
  cases e

theorem pageProgramComplete (ok : Bool) : Statement (.pageProgramComplete ok) := by
  intro _ _ _ _ e
  cases e

theorem relocationCopyComplete (ok : Bool) : Statement (.relocationCopyComplete ok) := by
  intro _ _ _ _ e
  cases e

theorem blockEraseComplete (ok : Bool) : Statement (.blockEraseComplete ok) := by
  intro _ _ _ _ e
  cases e

theorem pageReadComplete (sound : Bool) : Statement (.pageReadComplete sound) := by
  intro _ _ _ _ e
  cases e

end Sys2Proof.Laws.EncodeLength
end

