-- ==== Sys2Proof/Laws/WriteOrder.lean ====
section
/-! SUPPORT. The write order of the pages: the one list in which the programmed pages stand in ring order, the numbers each
covers, and what that makes of the reclaim check (R145, R148, R163). -/

namespace Sys2Proof.Machine

/-- Rising key, and among equal keys the order of the elements. -/
def risingKey {α : Type} [LinearOrder α] (key : α → Nat) (x y : α) : Prop := key x < key y ∨ key x = key y ∧ x < y

theorem insertByFirst_perm {α : Type} (key : α → Nat) (x : α) (l : List α) : (insertByFirst key x l).Perm (x :: l) := by
  induction l with
  | nil => exact .refl _
  | cons y l ih =>
    unfold insertByFirst
    split
    · exact .refl _
    · exact (List.Perm.cons y ih).trans (List.Perm.swap x y l)

/-- An element above all of a list of rising key is inserted at its place. -/
theorem insertByFirst_pairwise {α : Type} [LinearOrder α] (key : α → Nat) (x : α) (l : List α)
    (sorted : l.Pairwise (risingKey key)) (above : ∀ y ∈ l, y < x) : (insertByFirst key x l).Pairwise (risingKey key) := by
  induction l with
  | nil => simp [insertByFirst]
  | cons y l ih =>
    rw [List.pairwise_cons] at sorted
    unfold insertByFirst
    split
    · rename_i h
      refine List.pairwise_cons.mpr ⟨fun z hz => ?_, List.pairwise_cons.mpr sorted⟩
      rcases List.mem_cons.mp hz with rfl | hz
      · exact .inl h
      · rcases sorted.1 z hz with k | k
        · exact .inl (h.trans k)
        · exact .inl (k.1 ▸ h)
    · rename_i h
      refine List.pairwise_cons.mpr ⟨fun z hz => ?_, ih sorted.2 fun z hz => above z (List.mem_cons_of_mem _ hz)⟩
      rcases List.mem_cons.mp ((insertByFirst_perm key x l).mem_iff.mp hz) with rfl | hz
      · rcases Nat.lt_or_eq_of_le (Nat.le_of_not_lt h) with k | k
        · exact .inl k
        · exact .inr ⟨k, above y (List.mem_cons_self)⟩
      · exact sorted.1 z hz

/-- Sorting a rising list by key gives a permutation of it of rising key. -/
theorem foldl_insertByFirst {α : Type} [LinearOrder α] (key : α → Nat) (l acc : List α) (rising : l.Pairwise (· < ·))
    (sorted : acc.Pairwise (risingKey key)) (below : ∀ y ∈ acc, ∀ x ∈ l, y < x) :
    (l.foldl (fun acc x => insertByFirst key x acc) acc).Pairwise (risingKey key)
      ∧ (l.foldl (fun acc x => insertByFirst key x acc) acc).Perm (acc ++ l) := by
  induction l generalizing acc with
  | nil => simp [sorted]
  | cons x l ih =>
    rw [List.pairwise_cons] at rising
    have step := ih (insertByFirst key x acc) rising.2
      (insertByFirst_pairwise key x acc sorted fun y hy => below y hy x List.mem_cons_self)
      (fun y hy z hz => by
        rcases List.mem_cons.mp ((insertByFirst_perm key x acc).mem_iff.mp hy) with rfl | hy
        · exact rising.1 z hz
        · exact below y hy z (List.mem_cons_of_mem _ hz))
    refine ⟨step.1, step.2.trans ?_⟩
    exact ((insertByFirst_perm key x acc).append_right l).trans (List.perm_middle.symm)

theorem sortByFirst_pairwise {α : Type} [LinearOrder α] (key : α → Nat) (l : List α) (rising : l.Pairwise (· < ·)) :
    (sortByFirst key l).Pairwise (risingKey key) := (foldl_insertByFirst key l [] rising .nil (by simp)).1

theorem sortByFirst_mem {α : Type} [LinearOrder α] (key : α → Nat) (l : List α) (rising : l.Pairwise (· < ·)) (x : α) :
    x ∈ sortByFirst key l ↔ x ∈ l := by
  simpa [sortByFirst] using (foldl_insertByFirst key l [] rising .nil (by simp)).2.mem_iff (a := x)

namespace State

theorem mem_blockPages (s : State) (b : Fin 64) (r : PageRef) (e : PageEntry) :
    (r, e) ∈ s.blockPages b ↔ r.block = b ∧ s.tableEntry r = some e := by
  unfold blockPages
  simp only [List.mem_filterMap, List.mem_finRange, true_and, Option.map_eq_some_iff, Prod.mk.injEq]
  constructor
  · rintro ⟨p, e, h, rfl, rfl⟩
    exact ⟨rfl, h⟩
  · rintro ⟨rfl, h⟩
    exact ⟨r.page, e, h, rfl, rfl⟩

/-- The write order as the model computes it holds every programmed page once, in write order. -/
theorem inWriteOrder_writeOrder (s : State) : inWriteOrder s s.writeOrder := by
  have rising : ((List.finRange 64).filter (fun b => !(s.blockPages b).isEmpty)).Pairwise (· < ·) :=
    (List.pairwise_lt_finRange 64).filter _
  refine ⟨fun r e => ?_, ?_⟩
  · unfold writeOrder inRingOrder
    rw [List.mem_flatMap]
    constructor
    · rintro ⟨b, -, h⟩
      exact ((s.mem_blockPages b r e).mp h).2
    · intro h
      have here : (r, e) ∈ s.blockPages r.block := (s.mem_blockPages _ r e).mpr ⟨rfl, h⟩
      refine ⟨r.block, (sortByFirst_mem _ _ rising _).mpr (List.mem_filter.mpr ⟨List.mem_finRange _, ?_⟩), here⟩
      cases k : s.blockPages r.block with
      | nil => rw [k] at here; exact absurd here List.not_mem_nil
      | cons _ _ => rfl
  · unfold writeOrder inRingOrder
    rw [List.pairwise_flatMap]
    constructor
    · intro b _
      unfold blockPages
      rw [List.pairwise_filterMap]
      refine (List.pairwise_lt_finRange 16).imp ?_
      intro p q lt x hx y hy
      simp only [Option.map_eq_some_iff] at hx hy
      obtain ⟨_, -, rfl⟩ := hx
      obtain ⟨_, -, rfl⟩ := hy
      exact .inr ⟨rfl, .inr ⟨rfl, lt⟩⟩
    · refine (sortByFirst_pairwise _ _ rising).imp ?_
      rintro a b h ⟨x, e⟩ hx ⟨y, g⟩ hy
      obtain ⟨rfl, -⟩ := (s.mem_blockPages _ _ _).mp hx
      obtain ⟨rfl, -⟩ := (s.mem_blockPages _ _ _).mp hy
      rcases h with k | k
      · exact .inl k
      · exact .inr ⟨k.1, .inl k.2⟩

/-- Of two pages one is written before the other at most in one direction. -/
theorem writtenBefore_asymm (s : State) (x y : PageRef) (h : writtenBefore s x y) : ¬ writtenBefore s y x := by
  unfold writtenBefore at *
  simp only [Fin.lt_def, Fin.ext_iff] at *
  omega

/-- The write order is the one list that stands in write order. -/
theorem inWriteOrder_iff (s : State) (l : List (PageRef × PageEntry)) : inWriteOrder s l ↔ l = s.writeOrder := by
  refine ⟨fun h => ?_, fun h => h ▸ s.inWriteOrder_writeOrder⟩
  have k := s.inWriteOrder_writeOrder
  have once : ∀ m : List (PageRef × PageEntry), m.Pairwise (fun x y => writtenBefore s x.1 y.1) → m.Nodup := fun m hm =>
    List.Pairwise.imp (fun {x y} (h : writtenBefore s x.1 y.1) (eq : x = y) => s.writtenBefore_asymm _ _ h (eq ▸ h)) hm
  have perm : l.Perm s.writeOrder :=
    (List.perm_ext_iff_of_nodup (once l h.2) (once _ k.2)).mpr fun ⟨r, e⟩ => (h.1 r e).trans (k.1 r e).symm
  exact perm.eq_of_pairwise (fun a b _ _ p q => absurd q (s.writtenBefore_asymm _ _ p)) h.2 k.2

/-- The ranges of the pages are read off the write order, each up to the next page's first number or the tail. -/
theorem getElem?_ranges (s : State) (k : Nat) :
    s.ranges[k]? = (s.writeOrder[k]?).map (fun q =>
      (q.1, q.2, match s.writeOrder[k + 1]? with | some x => x.2.first | none => s.tailSequence)) := by
  unfold ranges
  generalize s.writeOrder = l
  simp only [List.getElem?_map, List.zip, List.getElem?_zipWith, List.getElem?_append, List.getElem?_drop,
    List.length_map, List.length_drop]
  cases h : l[k]? with
  | none => simp
  | some q =>
    have lt := (List.getElem?_eq_some_iff.mp h).1
    by_cases last : k < l.length - 1
    · have : k + 1 < l.length := by omega
      simp [last, List.getElem?_eq_getElem this, Nat.add_comm 1 k]
    · obtain rfl : k = l.length - 1 := by omega
      have beyond : l[l.length - 1 + 1]? = none := List.getElem?_eq_none (by omega)
      simp [beyond]

/-- The numbers of a block lie at or below the mark exactly where the model finds it reclaimable. -/
theorem belowMark_iff (s : State) (b : Fin 64) : belowMark s b ↔ s.reclaimable b = true := by
  unfold belowMark reclaimable
  simp only [inWriteOrder_iff, exists_eq_left, List.all_eq_true, List.mem_filter, decide_eq_true_eq, and_imp]
  constructor
  · intro h q mem here
    obtain ⟨k, hk⟩ := List.mem_iff_getElem?.mp mem
    rw [getElem?_ranges] at hk
    obtain ⟨⟨r, e⟩, hr, rfl⟩ := Option.map_eq_some_iff.mp hk
    exact h k r e hr here
  · intro h k r e hr here
    exact h _ (List.mem_iff_getElem?.mpr ⟨k, (s.getElem?_ranges k).trans (by rw [hr]; rfl)⟩) here

end State

end Sys2Proof.Machine
end

