-- ==== Sys2Proof/Tests/Slice0.lean ====
section
/-! SUPPORT. Tests on small states: what well-formedness refuses, order bytes written out from 11.2, a few single
steps, and for each statement with hypotheses a state and operands that meet them (test_<statement>_met). -/

namespace Sys2Proof.Tests

open Sys2Proof Sys2Proof.Machine

/-! ### Well-formedness: one ill-formed term for each check -/

theorem test_wellFormed_noOrders : wellFormed (.nop { port := .works, guard := 0#8, index := 0, count := 0 }) = false := by decide

theorem test_wellFormed_fiveOrders : wellFormed (.nop { port := .works, guard := 0#8, index := 0, count := 5 }) = false := by decide

theorem test_wellFormed_pastBundle : wellFormed (.hold { port := .works, guard := 0#8, index := 2, count := 2 } 5#8) = false := by
  decide

theorem test_wellFormed_assignedCode :
    wellFormed (.unassignedCode { port := .works, guard := 0#8, index := 0, count := 1 } 0x1A#8) = false := by decide

theorem test_wellFormed_presentedRead : wellFormed (.requestStart .works [0#8, 4#8]) = false := by decide

theorem test_wellFormed_emptyRequest : wellFormed (.requestStart .works []) = false := by decide

theorem test_wellFormed_emptyRead : wellFormed (.responseRead .record 0) = false := by decide

theorem test_wellFormed_shortPage : wellFormed (.pageReadbackComplete (List.replicate 31 0#8)) = false := by decide

theorem test_wellFormed_eraseTwice : wellFormed (.storeFormat [3, 3]) = false := by decide

/-! ### The bytes of orders, written out from 11.1 and 11.2 -/

theorem test_decode_grantAck :
    decodeOrder .siteA 0 1 [0x27#8, 0x00#8, 0x05#8, 0x00#8, 0x29#8, 0x00#8, 0xFA#8] =
      some (.grantAck { port := .siteA, guard := 0#8, index := 0, count := 1 } 5#8 41#16 250#16, []) := by decide

theorem test_decode_hold :
    decodeOrder .works 1 3 [0x17#8, 0xB0#8, 0x3C#8, 0x15#8] =
      some (.hold { port := .works, guard := 0xB0#8, index := 1, count := 3 } 60#8, [0x15#8]) := by decide

theorem test_decode_clockSet :
    decodeOrder .record 0 1 [0x30#8, 0x00#8, 0x12#8, 0x34#8, 0x56#8, 0x78#8] =
      some (.clockSet { port := .record, guard := 0#8, index := 0, count := 1 } 0x12345678#32, []) := by decide

theorem test_decode_entryWrite :
    decodeOrder .works 0 1 [0x10#8, 0x00#8, 0x02#8, 0x03#8, 0xE8#8, 0x00#8, 0x3C#8, 0xFF#8] =
      some (.entryWrite { port := .works, guard := 0#8, index := 0, count := 1 } 2#8 1000#16 60#16 255#8, []) := by decide

theorem test_decode_unassigned :
    decodeOrder .record 0 1 [0xF3#8, 0x00#8] =
      some (.unassignedCode { port := .record, guard := 0#8, index := 0, count := 1 } 0xF3#8, []) := by decide

theorem test_decode_truncated : decodeOrder .siteB 0 1 [0x25#8, 0x00#8, 0x01#8, 0x00#8, 0x64#8, 0x00#8] = none := by decide

theorem test_frame_shortest : decodeFrame .works [4#8, 1#8, 0#8, 0#8] 0 = some [.nop ⟨.works, 0#8, 0, 1⟩] := by decide

theorem test_frame_wrongLength : decodeFrame .works [5#8, 1#8, 0#8, 0#8] 0 = none := by decide

/-! ### Helpers -/

/-- The part in RUNNING with everything else as at reset. -/
def running : State := { State.reset with stage := .running }

/-- The part in RUNNING at a part time. -/
def runningAt (seconds : Nat) : State := { running with clock := 1000000 * seconds }

/-- The head of a lone order with guard ALWAYS, and its place before it is taken. -/
def head (p : Port) : Head := { port := p, guard := 0x00#8, index := 0, count := 1 }

def place (p : Port) : Bundle := { port := p, taken := 0, count := 1, placed := [] }

/-- A lone order with guard ALWAYS is admitted, as a check. -/
def admitted (i : Instr) (p : Port) (s : State) : Bool :=
  decide (orderHead i = some (head p)) && decide (s.stage = .running) && frameHolds s i (head p)
    && decide (nextBundle s (head p) = some (place p)) && !orderReserved i && decide (p ∈ orderPorts i)
    && guardValue (s.during (place p)) (head p).guard && decide (orderRoom i ≤ spaceLeft (s.during (place p)) (head p))

theorem admits {i : Instr} {p : Port} {s : State} (h : admitted i p s = true) : Admitted i (head p) s (place p) := by
  simp only [admitted, Bool.and_eq_true, decide_eq_true_eq, Bool.not_eq_true'] at h
  obtain ⟨⟨⟨⟨⟨⟨⟨h1, h2⟩, h3⟩, h4⟩, h5⟩, h6⟩, h7⟩, h8⟩ := h
  exact ⟨⟨h1, h2, h3, h4⟩, h5, h6, by cases p <;> decide, h7, h8⟩

/-- An order stands at its place, as a check. -/
def stands (i : Instr) (h : Head) (s : State) (b : Bundle) : Bool :=
  decide (orderHead i = some h) && decide (s.stage = .running) && frameHolds s i h && decide (nextBundle s h = some b)

theorem standing {i : Instr} {h : Head} {s : State} {b : Bundle} (e : stands i h s b = true) : Stands i h s b := by
  simp only [stands, Bool.and_eq_true, decide_eq_true_eq] at e
  exact ⟨e.1.1.1, e.1.1.2, e.1.2, e.2⟩

theorem opened {s : State} (e : (decide (s.stage = .running) && decide (s.bundle = none)) = true) : Open s := by
  simp only [Bool.and_eq_true, decide_eq_true_eq] at e
  exact ⟨e.1, e.2⟩

/-- Tank 0 of SITE A, WET. -/
def owned : State := running.modTank 0 (fun k => { k with owner := .siteA, phase := .wet })

/-- The same tank listed, DRAINING at 300 confirmed under serial 7, with m 300 and n 20. -/
def draining : State :=
  ({ owned with drainList := [0] } : State).modTank 0 (fun k => { k with
    drain := { status := .draining, reason := none, request := some { m := 300, n := 20, stamp := 0 } },
    grant := { k.grant with granted := 300, published := 300, confirmed := 300, serial := 7#16, acked := 7#16 } })

/-- The same grant unsettled and overdue. -/
def late : State :=
  draining.modGrant 0 (fun g => { g with unsettled := true, overdueSince := some 0, acked := 6#16 })

/-- A posted entry 0 of 250 for an hour, linked to entry 1. -/
def posted : State :=
  running.modEntry 0 (fun e => { e with rate := 250, duration := 60, link := some 1, byPart := true, remaining := some 3600 })

/-- The schedule RUNNING on entry 0. -/
def scheduled : State :=
  posted.modAllow (fun a => { a with sched := .running, active := some 0, lease := some 0, aEff := 250 })

/-- A schedule state with a status and a remaining of the active entry 0, linked to an entry that WORKS or PART holds. -/
def schedule (x : Schedule) (status : EntryStatus) (remaining : Option Nat) (linked : Bool) : State :=
  ((scheduled.modAllow (fun a => { a with sched := x })).modEntry 0 (fun e => { e with status := status, remaining := remaining })).modEntry 1
    (fun e => { e with byPart := linked })

/-- A channel bound and settled. -/
def bound (s : State) (c : Fin 16) (b : Binder) : State :=
  s.modChannel c (fun k => { k with binder := b, kind := binderKind b })

/-- Outfall 0 in a phase with the event given. -/
def spilled (phase : SpillPhase) (event : Option SpillEvent) : State :=
  (runningAt 4000000).modOutfall 0 (fun w => { w with phase := phase, event := event, count := 3 })

/-- An open event in its first interval. -/
def anEvent (interval : Nat) (counted : Bool) : SpillEvent :=
  { opening := 1, start := 0, interval := interval, intervalEnd := 28800, counted := counted, count := 1, seconds := 0, early := false,
    dry := false, unknownRain := true, phase := .full, fill := some 1000, alert := .clear, gauge := none, tips := none, d24 := none,
    blockStart := 0, blockHours := 8 }

/-- The store READY with an operation in progress and one record waiting in the program buffer. -/
def operating (op : Option ArrayOp) : State :=
  running.modStore (fun v => { v with
    state := .ready, current := some 0, op := op, program := some [beBytes 4 1 ++ List.replicate 28 0#8] })

/-- One programmed page of record 1 at the start of block 0, with the cursor on it and one read buffer. -/
def archived (buffer : Option ReadBuffer) (op : Option ArrayOp) : State :=
  ((running.modStore (fun v => { v with
    state := .ready, current := some 0, writePage := 1, nextSeq := 2, op := op, buffers := put v.buffers 0 buffer })).setTableEntry
      ⟨0, 0⟩ { first := 1, count := 1, valid := true }).setArrayPage ⟨0, 0⟩ (.programmed [beBytes 4 1 ++ List.replicate 28 0#8]
        { mark := 0#8, first := 1#32, count := 1#8, dataCode := 0#16, spareCode := 0#16 })

/-- A save with its step, its page and a snapshot of zeros. -/
def saving (step : SaveStep) (page : Fin 32) : State :=
  running.modSave (fun v => { v with run := some { page := page, step := step, snapshot := List.replicate 1024 0#8, requesters := 0#4 } })

/-! ### Single steps -/

theorem test_step_nop : (step { running with pending := [.nop (head .works)] }) =
    .next (running.modPort .works (fun q => { q with response := some [3#8, 0#8, 0#8] })) := by rfl

theorem test_step_idle : step State.reset = .next { State.reset with clock := 1 } := by rfl

theorem test_step_startUp : (exec .startUp running) = .next State.reset := by rfl

/-- 100 shared among three tanks of equal weight: the leftover litre goes to the first in the list (R91, R92). -/
theorem test_shareOut :
    shareOut 100 [⟨0, 1, 100, 0⟩, ⟨1, 1, 100, 0⟩, ⟨2, 1, 100, 0⟩] = [(0, 34), (1, 33), (2, 33)] := by decide

/-! ### The hypotheses of the statements are met: the machine, start-up and transfers -/

theorem test_EmptyQueueStep_met :
    (State.reset.pending = [] ∧ State.reset.ready = []) ∧ (running.modStore (fun v => { v with due := true })).pending = []
      ∧ (running.modStore (fun v => { v with due := true })).ready ≠ [] := by decide

theorem test_QueueUntouched_met : ∃ t, exec (.hold (head .works) 5#8) running = .next t := ⟨_, rfl⟩

theorem test_EepromCanonicalKept_met : ∃ t, eepromCanonical State.reset ∧ step State.reset = .next t := ⟨_, by
  unfold eepromCanonical; decide, rfl⟩

theorem test_AllowanceFormedKept_met :
    ∃ t, allowanceFormed { scheduled with pending := [.holdExpiry] } ∧ step { scheduled with pending := [.holdExpiry] } = .next t :=
  ⟨_, by unfold allowanceFormed; decide, rfl⟩

theorem test_OrderBytesRoundTrip_met :
    wellFormed (.drawRead (head .works)) = true ∧ orderHead (.drawRead (head .works)) = some (head .works)
      ∧ wellFormed (.unassignedCode (head .record) 0xE0#8) = true
      ∧ orderHead (.unassignedCode (head .record) 0xE0#8) = some (head .record) := by decide

theorem test_RestartClearsEveryBlock_met :
    running.store.op = none ∧ ∀ op ∈ [ArrayOp.program ⟨63, 15⟩ false, .program ⟨0, 0⟩ true, .copy 15 0 1, .erase 63],
      (operating (some op)).store.op = some op := by decide

/-- An image of 1,024 bytes: default numbers, no tank claimed, no block retired, nothing bound but what a leg meter's bytes
say. -/
def image (leg : List Byte) : List Byte :=
  let body := padTo 32 ([0x4A#8, 0x3E#8, 1#8, 0#8, 4#8, 0#8, 0#8, 0#8] ++ worksNumberBytes defaultWorks ++ leg)
    ++ List.replicate 640 0#8
    ++ padTo 96 (spillBytes (spillOperandsOf defaultSpill) ++ gaugeBytes (gaugeOperandsOf State.reset.gaugeSettings)
        ++ [255#8, 0#8, 0#8, 0#8, 0#8, 255#8, 0#8, 0#8, 0#8, 0#8, 255#8, 0#8, 0#8, 0#8, 0#8, 255#8, 0#8, 0#8, 0#8, 0#8])
    ++ List.replicate 254 0#8
  body ++ wordBytes (crc16 body)

set_option maxRecDepth 100000 in
theorem test_ImageLoadSetsTheSettings_met :
    State.reset.stage = .loading ∧ (image [255#8]).length = 1024 ∧ (parseImage (image [255#8])).isSome = true
      ∧ (parseImage (image [15#8, 1#8, 50#8, 60#8, 0x27#8, 0x10#8])).any (fun w =>
          settingsBinding w .legMeter == some { channel := 15, params := (worksParams
            { cLeg := 0#16, fallback := 0#16, tLease := 0#8, tConfirm := 0#16, legTol := 0#16, channel := 15#8, polarity := 1#8,
              debounce := 50#8, gate := 60#8, tenths := 10000#16 }) }) = true
      ∧ parseImage [] = none := by decide +kernel

/-- The default settings with the leg meter bound, each parameter at a bound, fit; no byte at all is no sound image. -/
theorem test_ImageLoadSetsTheSettings_met_fit :
    settingsFit { defaultSettings with legMeter := some { channel := 15, params :=
      { activeLow := true, debounce := 50, lockout := 0, gate := 60, tenths := 10000 } } } ∧ ¬ imageSound [] := by
  have bare : ∀ t : Fin 8, defaultSettings.tanks.get t = unclaimedSection := by decide
  have dry : ∀ g : Fin 4, defaultSettings.rain.get g = none := by decide
  refine ⟨?_, fun h => absurd h.1 (by decide)⟩
  unfold settingsFit
  and_intros
  all_goals try decide +kernel
  · intro b q h
    match b, h with
    | .legMeter, h => cases h; exact ⟨⟨by decide, by decide, by decide, by decide⟩, by decide, fun h => absurd rfl h⟩
    | .tank t .level, h => simp [settingsBinding, bare, unclaimedSection] at h
    | .tank t .draw, h => simp [settingsBinding, bare, unclaimedSection] at h
    | .tank t .spill, h => simp [settingsBinding, bare, unclaimedSection] at h
    | .gauge g, h => simp [settingsBinding, dry] at h
  · intro t
    simp only [bare, implies_true, true_and]
    unfold tankFits
    and_intros
    all_goals try decide +kernel
    intro n a b ha hb
    match n with
    | 0 => cases ha; cases hb; decide
    | n + 1 => cases hb
  · intro x h
    rcases h with rfl | rfl | rfl <;> decide
  · intro x h
    rcases h with rfl | rfl | rfl <;> decide

/-- A SPILL_OPEN record of outfall 0 in period 1, with number 1. -/
def openRecord : List Byte := beBytes 4 1 ++ beBytes 4 0 ++ [3#8, 0#8, 0#8, 1#8, 0#8, 1#8] ++ List.replicate 18 0#8

/-- A sound page of that record. -/
def soundPage : Page :=
  .programmed [openRecord] (Spare.coded { mark := 0#8, first := 1#32, count := 1#8, dataCode := crc16 (pageData [openRecord]), spareCode := 0#16 })

set_option maxRecDepth 100000 in
theorem test_StoreStageEndsInRunning_met :
    let s := ({ State.reset with stage := .store } : State).setArrayPage ⟨63, 0⟩ soundPage
    let f := s.modStore (fun v => { v with state := .formatting })
    (f.stage = .store ∧ f.store.state = .formatting) ∧ s.stage = .store ∧ s.store.state = .scanning
      ∧ s.isRetired 63 = false ∧ sparePasses soundPage = true ∧ pageSound soundPage = true
      ∧ (s.scanTable.scanRing.backwardRecords.find? (fun x => isCounting x.1 && decide (recordOutfall x.1 = 0))).isSome
      ∧ fieldAt openRecord 10 2 = State.scanPeriod s.scanTable.scanRing.backwardRecords
      ∧ (∃ b, f.blockStatus b ≠ .retired ∧ (f.array.get b).factoryBad = false) ∧ s.save.heldRequest = false := by decide +kernel

/-- START_UP leaves the blocks at rest, and the default entry values lie above 0. -/
theorem test_StoreStageEndsInRunning_met_rest : atRest State.reset ∧ entriesAboveZero State.reset.rain := by
  refine ⟨by unfold atRest; decide, ?_⟩
  intro v h
  rcases h with rfl | rfl | rfl <;> decide

theorem test_TransfersOfAPort_met :
    running.stage ≠ .held ∧ running.bundle = none ∧ (running.port .siteB).transfer = .idle ∧ [4#8].headD 0#8 ≠ 0#8 := by decide

theorem test_FramesWithoutOrders_met :
    let s := running.modPort .siteA (fun q => { q with transfer := .receiving, received := [3#8, 1#8, 0#8] })
    let f := State.reset.modPort .siteA (fun q => { q with transfer := .receiving, received := [4#8, 1#8, 0#8, 0#8] })
    (s.bundle = none ∧ s.stage = .running ∧ (s.port .siteA).transfer = .receiving
      ∧ decodeFrame .siteA (s.port .siteA).received (s.port .siteA).excess = none)
    ∧ f.bundle = none ∧ f.stage = .loading ∧ (f.port .siteA).transfer ≠ .sending
      ∧ assignedOrder (.nop (head .siteA)) = true ∧ orderHead (.nop (head .siteA)) = some (head .siteA)
      ∧ frameHolds f (.nop (head .siteA)) (head .siteA) = true := by decide

/-! ### The checks of an order -/

/-- An order that reserves operand bits, with one set or with none. -/
def binding (polarity : Byte) : Instr :=
  .gaugeBind (head .record) 3#8 { channel := 15#8, polarity := polarity, debounce := 1#8, lockout := 2000#16 }

theorem test_OrderChecks_met :
    let full := { running with bundle := some { port := .works, taken := 1, count := 2, placed := List.replicate 60 0#8 } }
    let h := { port := .works, guard := 0#8, index := 1, count := 2 }
    let skipped := { head .works with guard := 0x21#8 }
    let invalid := { head .works with guard := 0xE0#8 }
    (Stands (binding 2#8) (head .record) running (place .record) ∧ orderReserved (binding 2#8) = true)
    ∧ (Stands (.drawRead (head .record)) (head .record) running (place .record) ∧ Port.record ∉ orderPorts (.drawRead (head .record)))
    ∧ (Stands (.nop invalid) invalid running (place .works) ∧ guardValid invalid.guard = false)
    ∧ (Stands (.nop skipped) skipped running (place .works) ∧ guardValid skipped.guard = true
        ∧ guardValue (running.during (place .works)) skipped.guard = false)
    ∧ Stands (.drawRead h) h full { port := .works, taken := 1, count := 2, placed := List.replicate 60 0#8 }
        ∧ guardValid h.guard = true
        ∧ spaceLeft (full.during { port := .works, taken := 1, count := 2, placed := List.replicate 60 0#8 }) h
            < orderRoom (.drawRead h) :=
  ⟨⟨standing (by decide), by decide⟩, ⟨standing (by decide), by decide⟩, ⟨standing (by decide), by decide⟩,
    ⟨standing (by decide), by decide, by decide⟩, standing (by decide), by decide, by decide⟩

theorem test_GuardConditions_met :
    guardValid 0x00#8 = true ∧ guardValid 0x23#8 = true ∧ guardValid 0x47#8 = true ∧ guardValid 0x67#8 = true
      ∧ guardValid 0x97#8 = true ∧ guardValid 0xA0#8 = true ∧ guardValid 0xD0#8 = true := by decide

theorem test_UnassignedCodeClasses_met :
    ∀ code ∈ [0xF0#8, 0xEF#8, 0xE0#8, 0xDF#8, 0x09#8], codeAssigned code.toNat = false
      ∧ Stands (.unassignedCode (head .siteA) code) (head .siteA) running (place .siteA) := by
  intro code h
  simp only [List.mem_cons, List.not_mem_nil, or_false] at h
  rcases h with rfl | rfl | rfl | rfl | rfl <;> exact ⟨by decide, standing (by decide)⟩

theorem test_AnswersArePlaced_met :
    (place .works).taken + 1 < ({ place .works with count := 2 } : Bundle).count ∧ ¬ (place .works).taken + 1 < (place .works).count := by
  decide

theorem test_EventEndReallocates_met :
    draining.trigger = false ∧ draining.noteTrigger.trigger = true ∧ (0 : Fin 8) ∈ draining.drainList
      ∧ (1 : Fin 8) ∉ draining.drainList
      ∧ (draining.noteTrigger.finishEvent.tank 0).grant.granted ≠ (draining.tank 0).grant.published
      ∧ ∀ t, (running.noteTrigger.finishEvent.tank t).grant.granted = (running.tank t).grant.published := by decide

/-- Within the event of its leave by a disabling a tank has granted 0, and the zeroing is published at the end of the event,
after a release too (R84, R96, R97); that of a stop is not (R82). -/
theorem test_leaveIsSeenAndPublished :
    let left := draining.disableTank 0
    let released := (left.releaseTank 0).finishEvent
    let stopped := ((draining.leaveList 0 .stopped).stopZero 0).finishEvent
    (left.tank 0).grant.granted = 0 ∧ (left.tank 0).grant.published = 300 ∧ (left.finishEvent.tank 0).grant.unsettled = true
      ∧ (released.tank 0).grant.unsettled = true ∧ (released.tank 0).grant.serial = 1#16 ∧ (released.tank 0).owner = .nobody
      ∧ (stopped.tank 0).grant.unsettled = false ∧ (stopped.tank 0).grant.serial = 7#16 ∧ stopped.globalSerial = 0#16 := by decide

/-! ### Orders of every port -/

theorem test_ReadingsOfEveryPort_met :
    Admitted (.nop (head .works)) (head .works) running (place .works)
    ∧ Admitted (.identify (head .record)) (head .record) running (place .record)
    ∧ Admitted (.statusRead (head .works) 255#8) (head .works) running (place .works)
    ∧ Admitted (.statusRead (head .works) 3#8) (head .works) running (place .works)
    ∧ Admitted (.tankRead (head .siteA) 7#8 1#8) (head .siteA) running (place .siteA)
    ∧ Admitted (.tankRead (head .siteA) 8#8 0#8) (head .siteA) running (place .siteA)
    ∧ Admitted (.alertRead (head .siteB) 255#8) (head .siteB) running (place .siteB)
    ∧ Admitted (.alertRead (head .siteB) 3#8) (head .siteB) running (place .siteB)
    ∧ running.rain.timer = none ∧ (∀ c, (running.channel c).binder ≠ .gauge 3) ∧ running.rain.tClear ≤ 120
    ∧ (runningAt 65535).partTime - 0 ≤ 65535 ∧ ∀ x, ((bound running 15 (.gauge 3)).channel x).binder = .gauge 3 ↔ x = 15 :=
  ⟨admits (by decide), admits (by decide), admits (by decide), admits (by decide), admits (by decide), admits (by decide),
    admits (by decide), admits (by decide), by decide⟩

theorem test_ReadingsOfOnePort_met :
    Admitted (.entryRead (head .works) 7#8) (head .works) running (place .works)
    ∧ Admitted (.drawRead (head .works)) (head .works) running (place .works)
    ∧ (Admitted (.cycleRead (head .siteA) 0#8) (head .siteA) owned (place .siteA) ∧ (owned.tank 0).owner = portOwner .siteA)
    ∧ Admitted (.countRead (head .record) 255#8) (head .record) running (place .record)
    ∧ Admitted (.countRead (head .record) 7#8) (head .record) running (place .record)
    ∧ Admitted (.storeRead (head .record) 0#8) (head .record) running (place .record)
    ∧ Admitted (.storeRead (head .record) 1#8) (head .record) running (place .record)
    ∧ (scheduled.entry 0).link = some 1 ∧ (scheduled.entry 0).remaining = some 3600 ∧ scheduled.allow.active = some 0
    ∧ scheduled.allow.lease = some 0 ∧ 0 + 60 * scheduled.works.tLease - scheduled.partTime ≤ 65535
    ∧ (running.entry 7).link = none ∧ (running.entry 7).remaining = none ∧ running.allow.hold = none :=
  ⟨admits (by decide), admits (by decide), ⟨admits (by decide), by decide⟩, admits (by decide), admits (by decide),
    admits (by decide), admits (by decide), by decide⟩

theorem test_NoticeOrders_met :
    Admitted (.noticesRead (head .works)) (head .works) running (place .works)
    ∧ Admitted (.noticeMask (head .siteB) 0xFFFF#16) (head .siteB) running (place .siteB)
    ∧ Admitted (.portReset (head .record)) (head .record) running (place .record) :=
  ⟨admits (by decide), admits (by decide), admits (by decide)⟩

theorem test_AttentionFollowsSetAndMask_met :
    (running.stage = .running ∧ attention (running.notify .hold .works) .works = true) ∧ State.reset.stage ≠ .running := by decide

theorem test_SaveSettingsBeginsOrQueues_met :
    (Admitted (.saveSettings (head .works)) (head .works) running (place .works) ∧ running.save.run = none)
    ∧ Admitted (.saveSettings (head .siteA)) (head .siteA) (saving .sending 0) (place .siteA) ∧ (saving .sending 0).save.run.isSome :=
  ⟨⟨admits (by decide), by decide⟩, admits (by decide), by decide⟩

theorem test_SaveStepsOfAPage_met :
    Open (saving .sending 31) ∧ (saving .sending 31).save.run.isSome
    ∧ (saving (.writing 0) 0).clock ≤ 0 + 5000 ∧ 0 + 5000 ≤ ({ saving (.writing 0) 0 with clock := 5000 } : State).clock
    ∧ (List.replicate 32 0#8).length = 32
    ∧ (∀ p ∈ [(0 : Fin 32), 30, 31], List.replicate 32 0#8 = ((List.replicate 1024 0#8).drop (32 * p.val)).take 32)
    ∧ List.replicate 32 1#8 ≠ ((List.replicate 1024 0#8).drop (32 * 31)).take 32
    ∧ (saving .reading 31).save.run.isSome ∧ Memory.wf (saving .reading 31).eeprom = true
    ∧ ((saving .reading 31).modSave (fun v => { v with followOn := some 8#4 })).save.followOn = some 8#4 :=
  ⟨opened (by decide), by decide +kernel⟩

/-! ### Orders of the WORKS port -/

theorem test_EntryWriteRule_met :
    (∀ x ∈ [8#8, 7#8, 0#8], ∀ link ∈ [255#8, 7#8, 0#8, 8#8],
      Admitted (.entryWrite (head .works) x 4001#16 1440#16 link) (head .works) posted (place .works))
    ∧ (posted.entry 0).byPart = true ∧ (posted.entry 7).byPart = false := by
  refine ⟨?_, by decide, by decide⟩
  intro x hx link hl
  simp only [List.mem_cons, List.not_mem_nil, or_false] at hx hl
  rcases hx with rfl | rfl | rfl <;> rcases hl with rfl | rfl | rfl | rfl <;> exact admits (by decide)

theorem test_EntryPostAndRecall_met :
    (∀ x ∈ [8#8, 0#8, 1#8], Admitted (.entryPost (head .works) x) (head .works) scheduled (place .works)
      ∧ Admitted (.entryRecall (head .works) x) (head .works) scheduled (place .works))
    ∧ (scheduled.entry 0).byPart = true ∧ scheduled.allow.active = some 0 ∧ (scheduled.entry 1).byPart = false
    ∧ posted.allow.active ≠ some 0 := by
  refine ⟨?_, by decide⟩
  intro x hx
  simp only [List.mem_cons, List.not_mem_nil, or_false] at hx
  rcases hx with rfl | rfl | rfl <;> exact ⟨admits (by decide), admits (by decide)⟩

theorem test_KickInIdleAndLapsed_met :
    (∀ x ∈ [8#8, 255#8, 0#8, 1#8], Admitted (.scheduleKick (head .works) x) (head .works) posted (place .works))
    ∧ posted.allow.sched = .idle ∧ (posted.entry 0).byPart = true ∧ (posted.entry 1).byPart = false
    ∧ (∀ status ∈ [EntryStatus.overrun, .fresh],
        Admitted (.scheduleKick (head .works) 255#8) (head .works) (schedule .lapsed status (some 0) false) (place .works))
    ∧ (schedule .lapsed .overrun (some 0) false).allow.active = some 0
    ∧ ((schedule .lapsed .fresh (some 0) false).entry 0).link = some 1
    ∧ ((schedule .lapsed .fresh (some 0) false).entry 1).byPart = false
    ∧ Admitted (.scheduleKick (head .works) 0#8) (head .works) (schedule .lapsed .fresh (some 0) true) (place .works)
    ∧ ((schedule .lapsed .fresh (some 0) true).entry 1).byPart = true := by
  refine ⟨?_, by decide, by decide, by decide, ?_, by decide, by decide, by decide, admits (by decide), by decide⟩
  · intro x hx
    simp only [List.mem_cons, List.not_mem_nil, or_false] at hx
    rcases hx with rfl | rfl | rfl | rfl <;> exact admits (by decide)
  · intro x hx
    simp only [List.mem_cons, List.not_mem_nil, or_false] at hx
    rcases hx with rfl | rfl <;> exact admits (by decide)

theorem test_KickInRunningOrStalled_met :
    (Admitted (.scheduleKick (head .works) 0#8) (head .works) (schedule .running .fresh (some 3600) false) (place .works)
      ∧ ((schedule .running .fresh (some 3600) false).entry 0).remaining.isSome)
    ∧ (Admitted (.scheduleKick (head .works) 7#8) (head .works) (schedule .running .fresh none true) (place .works)
        ∧ ((schedule .running .fresh none true).entry 0).remaining = none
        ∧ ((schedule .running .fresh none true).entry 0).link = some 1 ∧ ((schedule .running .fresh none true).entry 1).byPart = true)
    ∧ Admitted (.scheduleKick (head .works) 255#8) (head .works) (schedule .stalled .overrun (some 0) false) (place .works)
    ∧ (schedule .stalled .overrun (some 0) false).allow.active = some 0
    ∧ ∀ f, ((schedule .stalled .overrun (some 0) false).entry 0).link = some f →
        ((schedule .stalled .overrun (some 0) false).entry f).byPart = false :=
  ⟨⟨admits (by decide), by decide⟩, ⟨admits (by decide), by decide, by decide, by decide⟩, admits (by decide), by decide, by decide⟩

theorem test_ScheduleStopEndsTheSchedule_met :
    Admitted (.scheduleStop (head .works)) (head .works) scheduled (place .works) ∧ allowanceFormed scheduled :=
  ⟨admits (by decide), by unfold allowanceFormed; decide⟩

theorem test_LeaseRenewRule_met : ∀ x ∈ [Schedule.idle, .running, .stalled, .lapsed],
    Admitted (.leaseRenew (head .works)) (head .works) (schedule x .fresh none false) (place .works) := by
  intro x hx
  simp only [List.mem_cons, List.not_mem_nil, or_false] at hx
  rcases hx with rfl | rfl | rfl | rfl <;> exact admits (by decide)

theorem test_HoldAndRelease_met :
    let held := scheduled.modAllow (fun a => { a with hold := some 60, aEff := 0 })
    Admitted (.hold (head .works) 0#8) (head .works) scheduled (place .works)
    ∧ Admitted (.hold (head .works) 241#8) (head .works) held (place .works)
    ∧ (Admitted (.release (head .works)) (head .works) scheduled (place .works) ∧ scheduled.allow.hold = none)
    ∧ Admitted (.release (head .works)) (head .works) held (place .works) ∧ held.allow.hold.isSome ∧ allowanceFormed held :=
  ⟨admits (by decide), admits (by decide), ⟨admits (by decide), by decide⟩, admits (by decide), by decide, by unfold allowanceFormed; decide⟩

/-- WORKS_SET with the given channel for the leg meter. -/
def worksSetOf (channel : Byte) : Instr :=
  .worksSet (head .works) { cLeg := 4001#16, fallback := 4001#16, tLease := 0#8, tConfirm := 601#16, legTol := 500#16,
                            channel := channel, polarity := 1#8, debounce := 51#8, gate := 60#8, tenths := 0#16 }

theorem test_WorksSetRule_met :
    (∀ x ∈ [16#8, 255#8, 15#8, 0#8], Admitted (worksSetOf x) (head .works) (bound running 0 (.gauge 0)) (place .works))
    ∧ ((bound running 0 (.gauge 0)).channel 0).binder ≠ .none ∧ ((bound running 0 (.gauge 0)).channel 0).binder ≠ .legMeter
    ∧ ((bound running 0 (.gauge 0)).channel 15).binder = .none := by
  refine ⟨?_, by decide⟩
  intro x hx
  simp only [List.mem_cons, List.not_mem_nil, or_false] at hx
  rcases hx with rfl | rfl | rfl | rfl <;> exact admits (by decide)

/-- The leg meter bound, and a lease that the shortest T_lease ends. -/
theorem test_WorksSetRule_met_legMeter :
    let s := { bound scheduled 15 .legMeter with clock := 60000000 }
    (∀ x ∈ [255#8, 15#8, 0#8], Admitted (worksSetOf x) (head .works) s (place .works))
    ∧ (s.channel 15).binder = .legMeter ∧ (s.channel 0).binder = .none ∧ allowanceFormed s
    ∧ (∀ d e, (s.channel d).binder = .legMeter → (s.channel e).binder = .legMeter → d = e)
    ∧ s.allow.sched = .running ∧ s.allow.lease = some 0 ∧ s.works.tLease ≠ 1 ∧ 0 + 60 * 1 ≤ s.partTime := by
  refine ⟨?_, by decide, by decide, by unfold allowanceFormed; decide, by decide⟩
  intro x hx
  simp only [List.mem_cons, List.not_mem_nil, or_false] at hx
  rcases hx with rfl | rfl | rfl <;> exact admits (by decide)

/-! ### Orders of the site ports -/

/-- The orders of a site on a tank, with operands at bounds. -/
def tankSetOf (x : Byte) : Instr :=
  .tankSet (head .siteA) x { flags := 7#8, cls := 5#8, mLimit := 1001#16, e := 200#8, fFull := 699#16, h := 4#8, tol := 201#8,
                             dLo := 450#16, dHi := 550#16, span := 500#16 }

def shapeSetOf (x second : Byte) : Instr :=
  .shapeSet (head .siteA) x { count := 2#8, points := put (Vector.replicate 8 { level := 0#16, volume := 0#16 }) 1
                                { level := second.setWidth 16, volume := 9#16 } }

def bindOf (x role channel : Byte) : Instr :=
  .channelBind (head .siteA) x role { channel := channel, polarity := 0#8, debounce := 0#8, gate := 10#8, tenths := 50#16 }

theorem test_TankClaimAndOwnership_met :
    (∀ x ∈ [8#8, 7#8, 0#8], Admitted (.tankClaim (head .siteA) x) (head .siteA) owned (place .siteA))
    ∧ (∀ x ∈ [8#8, 7#8], ∀ i ∈ [.tankRelease (head .siteA) x, tankSetOf x, shapeSetOf x 0#8, bindOf x 2#8 16#8,
          .drainRequest (head .siteA) x 1#16 2#16, .drainStop (head .siteA) x, .grantAck (head .siteA) x 0#16 1#16],
        Admitted i (head .siteA) owned (place .siteA))
    ∧ (owned.tank 7).owner ≠ portOwner .siteA ∧ (owned.tank 7).owner = .nobody := by
  refine ⟨?_, ?_, by decide⟩
  · intro x hx
    simp only [List.mem_cons, List.not_mem_nil, or_false] at hx
    rcases hx with rfl | rfl | rfl <;> exact admits (by decide)
  · intro x hx i hi
    simp only [List.mem_cons, List.not_mem_nil, or_false] at hx hi
    rcases hx with rfl | rfl <;> rcases hi with rfl | rfl | rfl | rfl | rfl | rfl | rfl <;> exact admits (by decide)

theorem test_TankReleaseRule_met :
    (owned.tank 0).owner = portOwner .siteA ∧ (0 : Fin 8) ∉ owned.drainList ∧ (0 : Fin 8) ∈ draining.drainList
    ∧ Admitted (.tankRelease (head .siteA) 0#8) (head .siteA) owned (place .siteA)
    ∧ (draining.tank 0).owner = portOwner .siteA ∧ Admitted (.tankRelease (head .siteA) 0#8) (head .siteA) draining (place .siteA) :=
  ⟨by decide, by decide, by decide, admits (by decide), by decide, admits (by decide)⟩

/-- A tank whose level channel is in FAULT and whose spill channel is ACTIVE, in each phase that its inactive edge moves. -/
theorem test_TankReleaseRule_met_channels :
    ∀ phase ∈ [SpillPhase.pending 0, .spilling 0],
      let s := (((bound (bound (bound owned 3 (.tank 0 .level)) 4 (.tank 0 .draw)) 5 (.tank 0 .spill)).modChannel 3 (fun k =>
        { k with status := .fault })).modChannel 5 (fun k => { k with active := true })).modOutfall 0 (fun w =>
          { w with switch := true, phase := phase })
      Admitted (.tankRelease (head .siteA) 0#8) (head .siteA) s (place .siteA) ∧ ownChannels s 0 ∧ (0 : Fin 8) ∉ s.drainList
        ∧ (s.channel 3).binder = .tank 0 .level ∧ (s.channel 3).status = .fault ∧ (s.channel 4).binder = .tank 0 .draw
        ∧ (s.channel 5).binder = .tank 0 .spill ∧ (s.channel 5).active = true ∧ (s.outfall 0).switch = true
        ∧ (s.outfall 0).phase = phase := by
  intro phase h
  simp only [List.mem_cons, List.not_mem_nil, or_false] at h
  rcases h with rfl | rfl <;>
    exact ⟨admits (by decide), by unfold ownChannels; intro r; cases r <;> decide, by decide⟩

theorem test_TankSetAndShapeSet_met :
    Admitted (tankSetOf 0#8) (head .siteA) owned (place .siteA)
    ∧ Admitted (shapeSetOf 0#8 0#8) (head .siteA) draining (place .siteA)
    ∧ (∀ x ∈ [0#8, 1#8], Admitted (shapeSetOf 0#8 x) (head .siteA) owned (place .siteA))
    ∧ (match shapeSetOf 0#8 0#8 with | .shapeSet _ _ v => shapeOk v | _ => true) = false
    ∧ (match shapeSetOf 0#8 1#8 with | .shapeSet _ _ v => shapeOk v | _ => false) = true := by
  refine ⟨admits (by decide), admits (by decide), ?_, by decide, by decide⟩
  intro x hx
  simp only [List.mem_cons, List.not_mem_nil, or_false] at hx
  rcases hx with rfl | rfl <;> exact admits (by decide)

/-- A tank of SITE A with its level channel, its flags and thresholds before and those of tankSetOf: enabled, disabled, listed
with thresholds that make it DRY, and with a fill held that a new shape table changes. -/
theorem test_TankSetAndShapeSet_met_effects :
    let s := bound (draining.modTank 0 (fun k => { k with held := some { level := 100, volume := 1, fill := 0 } })) 3 (.tank 0 .level)
    let on := s.modTank 0 (fun k => { k with set := { k.set with enabled := true } })
    let off : State := ({ s with drainList := [] } : State).modTank 0 (fun k => { k with phase := .offline })
    let free : State := { s with drainList := [] }
    let set := fun f : Byte => Instr.tankSet (head .siteA) 0#8
      { flags := f, cls := 1#8, mLimit := 250#16, e := 200#8, fFull := 950#16, h := 20#8, tol := 20#8, dLo := 100#16, dHi := 900#16,
        span := 5000#16 }
    (∀ f ∈ [0#8, 1#8], ∀ k ∈ [s, on, off], Admitted (set f) (head .siteA) k (place .siteA))
    ∧ (on.tank 0).set.enabled = true ∧ (s.tank 0).set.enabled = false ∧ (0 : Fin 8) ∈ s.drainList ∧ (off.tank 0).phase = .offline
    ∧ (off.channel 3).status ≠ .fault ∧ ownChannels s 0 ∧ evaluatesNow s 0 ∧ ownChannels off 0
    ∧ (s.tank 0).set.e ≠ 200 ∧ nextPhase { (s.tank 0).set with e := 200 } (s.tank 0).phase 0 = .dry
    ∧ (s.tank 0).drain.request.any (fun r => decide (250 < r.m)) = true
    ∧ Admitted (shapeSetOf 0#8 1#8) (head .siteA) free (place .siteA) ∧ evaluatesNow free 0 ∧ (free.tank 0).held.isSome := by
  refine ⟨?_, by decide, by decide, by decide, by decide, by decide, ?_, by unfold evaluatesNow; decide, ?_, by decide, by decide,
    by decide, admits (by decide), by unfold evaluatesNow; decide, by decide⟩
  · intro f hf k hk
    simp only [List.mem_cons, List.not_mem_nil, or_false] at hf hk
    rcases hf with rfl | rfl <;> rcases hk with rfl | rfl | rfl <;> exact admits (by decide)
  all_goals
    unfold ownChannels
    intro r
    cases r <;> decide

theorem test_DrainRequestRule_met :
    let limited := owned.modTank 0 (fun k => { k with set := { k.set with mLimit := 300 } })
    let dry := limited.modTank 0 (fun k => { k with phase := .dry })
    let listed := draining.modTank 0 (fun k => { k with set := { k.set with mLimit := 300 } })
    (Admitted (.drainRequest (head .siteA) 0#8 300#16 300#16) (head .siteA) dry (place .siteA) ∧ (dry.tank 0).phase ≠ .wet)
    ∧ (Admitted (.drainRequest (head .siteA) 0#8 301#16 301#16) (head .siteA) limited (place .siteA) ∧ min 301 300 < 301)
    ∧ (Admitted (.drainRequest (head .siteA) 0#8 301#16 300#16) (head .siteA) limited (place .siteA) ∧ (limited.tank 0).phase = .wet)
    ∧ Admitted (.drainRequest (head .siteA) 0#8 300#16 20#16) (head .siteA) listed (place .siteA)
    ∧ (0 : Fin 8) ∈ listed.drainList ∧ (listed.tank 0).drain.request.isSome :=
  ⟨⟨admits (by decide), by decide⟩, ⟨admits (by decide), by decide⟩, ⟨admits (by decide), by decide⟩, admits (by decide),
    by decide, by decide⟩

theorem test_DrainStopLeaves_met :
    Admitted (.drainStop (head .siteA) 0#8) (head .siteA) owned (place .siteA)
    ∧ Admitted (.drainStop (head .siteA) 0#8) (head .siteA) draining (place .siteA) :=
  ⟨admits (by decide), admits (by decide)⟩

theorem test_GrantAckRule_met :
    (∀ x ∈ [8#8, 7#8, 0#8], ∀ serial ∈ [7#16, 8#16], ∀ rate ∈ [300#16, 301#16],
      Admitted (.grantAck (head .siteA) x serial rate) (head .siteA) late (place .siteA))
    ∧ (late.tank 0).owner = portOwner .siteA ∧ (late.tank 0).grant.serial = 7#16 ∧ (late.tank 0).grant.granted = 300
    ∧ (late.tank 0).grant.overdueSince.isSome ∧ (0 : Fin 8) ∈ late.drainList := by
  refine ⟨?_, by decide⟩
  intro x hx serial hs rate hr
  simp only [List.mem_cons, List.not_mem_nil, or_false] at hx hs hr
  rcases hx with rfl | rfl | rfl <;> rcases hs with rfl | rfl <;> rcases hr with rfl | rfl <;> exact admits (by decide)

theorem test_BindingTakesAChannel_met :
    let level := bound draining 3 (.tank 0 .level)
    (∀ x ∈ [16#8, 15#8, 4#8, 255#8], Admitted (bindOf 0#8 0#8 x) (head .siteA) (bound owned 4 (.gauge 0)) (place .siteA)
      ∧ bindingOrder (bindOf 0#8 0#8 x) (head .siteA) (bound owned 4 (.gauge 0)) (.tank 0 .level) x 0#8 0#8)
    ∧ ((bound owned 4 (.gauge 0)).channel 4).binder = .gauge 0 ∧ ((bound owned 4 (.gauge 0)).channel 15).binder = .none
    ∧ Admitted (bindOf 0#8 0#8 255#8) (head .siteA) level (place .siteA) ∧ levelListed level (.tank 0 .level)
    ∧ Admitted (binding 1#8) (head .record) running (place .record)
    ∧ bindingOrder (binding 1#8) (head .record) running (.gauge 3) 15#8 1#8 1#8 := by
  refine ⟨?_, by decide, by decide, admits (by decide), ⟨0, rfl, by decide⟩, admits (by decide), ?_⟩
  · intro x hx
    simp only [List.mem_cons, List.not_mem_nil, or_false] at hx
    rcases hx with rfl | rfl | rfl | rfl <;>
      exact ⟨admits (by decide), .inl ⟨_, _, _, 0, .level, rfl, rfl, rfl, rfl, rfl, rfl, rfl, rfl⟩⟩
  · exact .inr ⟨_, _, 3, rfl, rfl, rfl, rfl, rfl, rfl⟩

theorem test_BindingKeepsOrReleases_met :
    let s := bound owned 4 (.tank 0 .draw)
    (∀ x ∈ [4#8, 255#8], Admitted (bindOf 0#8 1#8 x) (head .siteA) s (place .siteA)
      ∧ bindingOrder (bindOf 0#8 1#8 x) (head .siteA) s (.tank 0 .draw) x 0#8 0#8)
    ∧ (∀ d, (s.channel d).binder = .tank 0 .draw ↔ d = 4) ∧ (∀ d, (owned.channel d).binder ≠ .tank 0 .draw)
    ∧ Admitted (bindOf 0#8 3#8 0#8) (head .siteA) s (place .siteA)
    ∧ Admitted (.gaugeBind (head .record) 4#8 { channel := 0#8, polarity := 0#8, debounce := 1#8, lockout := 0#16 }) (head .record)
        running (place .record) := by
  refine ⟨?_, by decide, by decide, admits (by decide), admits (by decide)⟩
  intro x hx
  simp only [List.mem_cons, List.not_mem_nil, or_false] at hx
  rcases hx with rfl | rfl <;> exact ⟨admits (by decide), .inl ⟨_, _, _, 0, .draw, rfl, rfl, rfl, rfl, rfl, rfl, rfl, rfl⟩⟩

/-! ### Orders of the RECORD port -/

theorem test_ClockSetRule_met :
    Admitted (.clockSet (head .record) 0#32) (head .record) running (place .record)
    ∧ Admitted (.clockSet (head .record) 0xFFFFFFFF#32) (head .record) running (place .record) :=
  ⟨admits (by decide), admits (by decide)⟩

theorem test_ReadFromAndArchiveUpto_met :
    let s := running.modStore (fun v => { v with nextSeq := 9, archiveMark := 5 })
    (Admitted (.readFrom (head .record) 10#32) (head .record) s (place .record) ∧ s.oldest ≤ s.store.nextSeq)
    ∧ (∀ v ∈ [5#32, 6#32, 8#32, 9#32], Admitted (.archiveUpto (head .record) v) (head .record) s (place .record))
    ∧ s.store.archiveMark < s.store.nextSeq ∧ s.store.nextSeq < 4294967295 ∧ s.store.queue.length < 32
    ∧ (min 6 (s.store.nextSeq - 1) ≠ s.store.archiveMark ∧ min 9 (s.store.nextSeq - 1) ≠ s.store.archiveMark)
    ∧ (let edge := s.modStore (fun v => { v with archiveMark := 8 })
       Admitted (.archiveUpto (head .record) 9#32) (head .record) edge (place .record) ∧ edge.store.archiveMark < 9
         ∧ min 9 (edge.store.nextSeq - 1) = edge.store.archiveMark) := by
  refine ⟨⟨admits (by decide), by decide⟩, ?_, by decide, by decide, by decide, by decide, admits (by decide), by decide⟩
  intro x hx
  simp only [List.mem_cons, List.not_mem_nil, or_false] at hx
  rcases hx with rfl | rfl | rfl | rfl <;> exact admits (by decide)

/-- A page with record 1 as the ahead block: its numbers lie below the mark with the mark at 1 and not with it at 0. -/
theorem test_ReclaimCheck_met :
    let s := (archived none none).modStore (fun v =>
      { v with current := some 63, status := put v.status 0 .filled, archiveMark := 1, prep := none })
    s.ahead = some 0 ∧ s.store.state ≠ .worn ∧ s.blockStatus 0 ≠ .erased ∧ s.store.prep = none
      ∧ (∀ x, s.store.op ≠ some (.erase x)) ∧ belowMark s 0 ∧ ¬ belowMark (s.modStore (fun v => { v with archiveMark := 0 })) 0 := by
  intro s
  refine ⟨by decide, by decide, by decide, by decide, fun x h => ?_, ?_, ?_⟩
  · exact absurd (h.symm.trans (show s.store.op = none by decide)) nofun
  · refine ⟨_, s.inWriteOrder_writeOrder, fun k r e h _ => ?_⟩
    have order : s.writeOrder = [(⟨0, 0⟩, { first := 1, count := 1, valid := true })] := by decide +kernel
    rw [order] at h ⊢
    match k with
    | 0 => decide
    | k + 1 => cases h
  · rintro ⟨l, h, covers⟩
    have order : l = [(⟨0, 0⟩, { first := 1, count := 1, valid := true })] :=
      ((State.inWriteOrder_iff _ l).mp h).trans (by decide +kernel)
    subst order
    exact absurd (covers 0 ⟨0, 0⟩ _ rfl rfl) (by decide)

/-- The page of archived, in a read buffer. -/
def aBuffer (sound : Bool) : ReadBuffer := { ref := ⟨0, 0⟩, records := [beBytes 4 1 ++ List.replicate 28 0#8], sound := sound }

theorem test_ReadNextRule_met :
    let next := Instr.readNext (head .record)
    let gap := running.modStore (fun v => { v with nextSeq := 5 })
    let held := running.modStore (fun v => { v with nextSeq := 2, assembly := [beBytes 4 1 ++ List.replicate 28 0#8] })
    (Admitted next (head .record) running (place .record) ∧ running.store.cursor = running.store.nextSeq)
    ∧ (Admitted next (head .record) gap (place .record) ∧ gap.store.cursor ≠ gap.store.nextSeq ∧ gap.store.cursor < gap.oldest)
    ∧ (Admitted next (head .record) held (place .record) ∧ held.oldest ≤ held.store.cursor
        ∧ held.programmedAbove held.store.cursor = false
        ∧ (held.heldRecords.find? (fun x => decide (held.store.cursor ≤ recordSequence x))).isSome)
    ∧ (Admitted next (head .record) (archived none none) (place .record)
        ∧ (archived none none).store.cursor ≠ (archived none none).store.nextSeq
        ∧ (archived none none).oldest ≤ (archived none none).store.cursor
        ∧ (archived none none).programmedAbove 1 = true
        ∧ (archived none none).pageAt 1 = some (⟨0, 0⟩, { first := 1, count := 1, valid := true }, 2)
        ∧ (archived none none).buffered ⟨0, 0⟩ = none ∧ (archived none none).loading ⟨0, 0⟩ = false)
    ∧ (archived none (some (.read ⟨0, 0⟩ none))).loading ⟨0, 0⟩ = true
    ∧ (archived (some (aBuffer true)) none).buffered ⟨0, 0⟩ = some (aBuffer true)
    ∧ ((aBuffer true).records.find? (fun y => decide (1 ≤ recordSequence y))).isSome
    ∧ (archived (some (aBuffer false)) none).buffered ⟨0, 0⟩ = some (aBuffer false)
    ∧ Admitted next (head .record) (archived (some (aBuffer false)) none) (place .record) :=
  ⟨⟨admits (by decide), by decide⟩, ⟨admits (by decide), by decide⟩, ⟨admits (by decide), by decide⟩, ⟨admits (by decide), by decide⟩,
    by decide, by decide, by decide, by decide, admits (by decide)⟩

theorem test_ClosePeriodRule_met :
    let s := spilled .quiet none
    let full := s.modStore (fun v => { v with queue := List.replicate 32 [] })
    (Admitted (.closePeriod (head .record)) (head .record) running (place .record)
      ∧ ((List.finRange 8).filter running.outfallEnabled).length = 0)
    ∧ (Admitted (.closePeriod (head .record)) (head .record) full (place .record)
        ∧ 32 < full.store.queue.length + ((List.finRange 8).filter full.outfallEnabled).length)
    ∧ Admitted (.closePeriod (head .record)) (head .record) s (place .record)
    ∧ ((List.finRange 8).filter s.outfallEnabled).length = 1
    ∧ s.store.queue.length + 1 ≤ 32 ∧ s.store.nextSeq + 1 ≤ 4294967295 :=
  ⟨⟨admits (by decide), by decide⟩, ⟨admits (by decide), by decide⟩, admits (by decide), by decide⟩

/-- GAUGE_SET with every threshold of WATCH given and those of WARN and STORM at 200 and 300. -/
def gaugeSetOf (entry exit : Word) : GaugeOperands :=
  { tips := Vector.replicate 4 0#8, watch := ⟨entry, entry, exit, exit⟩, warn := ⟨200#16, 200#16, 100#16, 100#16⟩,
    storm := ⟨300#16, 300#16, 200#16, 200#16⟩, tClear := 121#8 }

theorem test_RecordSettings_met :
    let fit := fun w : Word => min 10000 w.toNat
    (∀ x ∈ [4#8, 3#8, 255#8], Admitted (.spillSet (head .record)
        { w1 := 0#8, w2 := 49#8, tOn := 601#16, tOff := 0#16, p := 499#16, dDry := 251#8, dryGauge := x })
        (head .record) running (place .record))
    ∧ (Admitted (.gaugeSet (head .record) (gaugeSetOf 50#16 50#16)) (head .record) running (place .record)
        ∧ ¬ fit (gaugeSetOf 50#16 50#16).watch.exitI < fit (gaugeSetOf 50#16 50#16).watch.entryI)
    ∧ Admitted (.gaugeSet (head .record) (gaugeSetOf 200#16 199#16)) (head .record) running (place .record)
    ∧ (∀ x ∈ [(gaugeSetOf 200#16 199#16).watch, (gaugeSetOf 200#16 199#16).warn, (gaugeSetOf 200#16 199#16).storm],
        fit x.exitI < fit x.entryI ∧ fit x.exitD < fit x.entryD)
    ∧ (let v := gaugeSetOf 200#16 199#16
       fit v.watch.entryI ≤ fit v.warn.entryI ∧ fit v.warn.entryI ≤ fit v.storm.entryI
        ∧ fit v.watch.entryD ≤ fit v.warn.entryD ∧ fit v.warn.entryD ≤ fit v.storm.entryD) := by
  refine ⟨?_, ⟨admits (by decide), by decide⟩, admits (by decide), by decide, by decide⟩
  intro x hx
  simp only [List.mem_cons, List.not_mem_nil, or_false] at hx
  rcases hx with rfl | rfl | rfl <;> exact admits (by decide)

/-- A SPILL_SET of T_on and T_off at their ends over an outfall that they move; a GAUGE_SET whose T_clear is past at the clear
timer, with thresholds changed and with T_clear alone. -/
theorem test_RecordSettings_met_effects :
    let set := Instr.spillSet (head .record) { w1 := 8#8, w2 := 16#8, tOn := 0#16, tOff := 0#16, p := 900#16, dDry := 25#8, dryGauge := 255#8 }
    let quiet : State := { runningAt 7260 with rain := { State.reset.rain with timer := some 0, catchment := .watch, tClear := 122 } }
    let only : GaugeOperands := { gaugeOperandsOf quiet.gaugeSettings with tClear := 121#8 }
    (∀ phase ∈ [SpillPhase.pending 4000000, .trailing 4000000], ∀ event ∈ [none, some (anEvent 2 false)],
      Admitted set (head .record) (spilled phase event) (place .record) ∧ ((spilled phase event).outfall 0).phase = phase
        ∧ 4000000 + 0 ≤ (spilled phase event).partTime ∧ (spilled phase event).spill.set.tOn ≠ 0
        ∧ (spilled phase event).spill.set.tOff ≠ 0)
    ∧ Admitted (.gaugeSet (head .record) (gaugeSetOf 200#16 199#16)) (head .record) quiet (place .record)
    ∧ Admitted (.gaugeSet (head .record) only) (head .record) quiet (place .record)
    ∧ quiet.rain.timer = some 0 ∧ 0 + 60 * 120 ≤ quiet.partTime ∧ quiet.rain.tClear ≠ 120 ∧ quietNow quiet.rain := by
  refine ⟨?_, admits (by decide), admits (by decide), by decide, by decide, by decide, by decide, ?_⟩
  · intro phase hp event he
    simp only [List.mem_cons, List.not_mem_nil, or_false] at hp he
    rcases hp with rfl | rfl <;> rcases he with rfl | rfl <;> exact ⟨admits (by decide), by decide⟩
  · intro v hv g hg
    exact absurd hg (by revert g; decide)

/-! ### The measurement lines -/

theorem test_RawLineChangeRule_met : running.bundle = none ∧ running.lines.get 15 ≠ true := by decide

theorem test_DebounceSettleAndStuck_met :
    let draw := (bound running 15 (.tank 7 .draw)).modChannel 15 (fun k => { k with since := some 0 })
    let s := { draw with clock := 10000 }
    let settling := s.modChannel 15 (fun k => { k with settled := false })
    let rain := (bound (runningAt 10) 0 (.gauge 3)).modChannel 0 (fun k => { k with rain := { k.rain with stuckFrom := some 0 } })
    (Open s ∧ (s.channel 15).binder = .tank 7 .draw ∧ (s.channel 15).since = some 0 ∧ 0 + 1000 * (s.channel 15).debounce ≤ s.clock
      ∧ (s.channel 15).settled = true)
    ∧ (Open settling ∧ (settling.channel 15).settled = false ∧ (settling.channel 15).since = some 0)
    ∧ Open rain ∧ (rain.channel 0).kind = .rain ∧ (rain.channel 0).binder = .gauge 3 ∧ (rain.channel 0).status ≠ .fault
    ∧ (rain.channel 0).rain.stuckFrom = some 0 ∧ 0 + 10 ≤ rain.partTime :=
  ⟨⟨opened (by decide), by decide⟩, ⟨opened (by decide), by decide⟩, opened (by decide), by decide⟩

/-- A channel bound with a candidate begun at 100 ms that is accepted at 200 ms. -/
def edge (b : Binder) (active : Bool) (f : Channel → Channel) : State :=
  { (bound running 15 b).modChannel 15 (fun k => f { k with since := some 100000, active := active }) with clock := 200000 }

/-- A RAIN channel whose tip falls on the last instant of its lockout, or just after it, and one in FAULT and one not that
become INACTIVE. -/
theorem test_DebounceSettleAndStuck_met_rain :
    let tip := fun at_ => edge (.gauge 3) false (fun k => { k with lockout := 100, rain := { k.rain with lastTip := some at_ } })
    (∀ at_ ∈ [100001, 100000], Open (tip at_) ∧ ((tip at_).channel 15).since = some 100000
      ∧ 100000 + 1000 * ((tip at_).channel 15).debounce ≤ (tip at_).clock ∧ ((tip at_).channel 15).settled = true
      ∧ ((tip at_).channel 15).binder = .gauge 3 ∧ ((tip at_).channel 15).active = false
      ∧ ((tip at_).channel 15).rain.lastTip = some at_)
    ∧ (tip 100001).clock < 100001 + 1000 * ((tip 100001).channel 15).lockout
    ∧ 100000 + 1000 * ((tip 100000).channel 15).lockout ≤ (tip 100000).clock
    ∧ ∀ x ∈ [ChannelStatus.fault, .ok], ((edge (.gauge 3) true (fun k => { k with status := x })).channel 15).status = x
      ∧ ((edge (.gauge 3) true (fun k => { k with status := x })).channel 15).active = true := by
  refine ⟨?_, by decide, by decide, by decide⟩
  intro x hx
  simp only [List.mem_cons, List.not_mem_nil, or_false] at hx
  rcases hx with rfl | rfl <;> exact ⟨opened (by decide), by decide⟩

/-- A RAIN channel settling in FAULT or not, onto ACTIVE or INACTIVE by its polarity. -/
theorem test_DebounceSettleAndStuck_met_rainSettle :
    ∀ x ∈ [ChannelStatus.fault, .ok], ∀ low ∈ [true, false],
      let s := edge (.gauge 3) true (fun k => { k with status := x, activeLow := low, settled := false })
      (s.channel 15).binder = .gauge 3 ∧ (s.channel 15).settled = false ∧ (s.channel 15).status = x
        ∧ (s.lines.get 15 != (s.channel 15).activeLow) = low := by decide

/-- A LEVEL channel whose period is one microsecond inside its limit, or at it. -/
theorem test_DebounceSettleAndStuck_met_level :
    ∀ start ∈ [34466, 34465], ∀ active ∈ [true, false], ∀ fall ∈ [none, some 50000],
      let s := edge (.tank 7 .level) active (fun k => { k with level := { k.level with period := some { start := start, fall := fall } } })
      (s.channel 15).binder = .tank 7 .level ∧ (s.channel 15).active = active ∧ (s.channel 15).settled = true
        ∧ (s.channel 15).level.period = some { start := start, fall := fall }
        ∧ (start = 34466 → 100000 - start < 65535) ∧ (start = 34465 → 65535 ≤ 100000 - start) := by decide

/-- A SPILL channel in each phase its edges move, settled or settling onto the other level. -/
theorem test_DebounceSettleAndStuck_met_spill :
    ∀ phase ∈ [SpillPhase.quiet, .pending 0, .spilling 0, .trailing 0], ∀ active ∈ [true, false], ∀ settled ∈ [true, false],
      let s := (edge (.tank 7 .spill) active (fun k => { k with settled := settled })).modOutfall 7 (fun w =>
        { w with phase := phase, switch := active })
      (s.channel 15).binder = .tank 7 .spill ∧ (s.outfall 7).phase = phase ∧ (s.outfall 7).switch ≠ !(s.channel 15).active
        ∧ (s.channel 15).settled = settled
        ∧ (active = true → (s.lines.get 15 != (s.channel 15).activeLow) ≠ (s.channel 15).active)
        ∧ (active = false → (s.lines.get 15 != (s.channel 15).activeLow) = (s.channel 15).active) := by decide

theorem test_LevelChannelSteps_met :
    let s := bound (runningAt 60) 15 (.tank 7 .level)
    let open_ := s.modChannel 15 (fun k => { k with level := { k.level with period := some { start := 59934465, fall := none } } })
    let summed := s.modChannel 15 (fun k => { k with level := { k.level with sumActive := 450, sumPeriod := 500 } })
    (Open s ∧ (s.channel 15).kind = .level ∧ (s.channel 15).binder = .tank 7 .level ∧ (s.channel 15).level.sampledAt < s.partTime
      ∧ (s.channel 15).level.sumPeriod = 0 ∧ (s.channel 15).status = .ok ∧ (s.channel 15).level.reference + 5 ≤ s.partTime
      ∧ (s.channel 15).level.reference + 60 ≤ s.partTime)
    ∧ (Open open_ ∧ (open_.channel 15).level.period = some { start := 59934465, fall := none } ∧ 59934465 + 65535 ≤ open_.clock
        ∧ (open_.channel 15).since = none)
    ∧ Open summed ∧ (summed.channel 15).level.sumPeriod ≠ 0
    ∧ mapDuty (summed.tank 7).set (1000 * (summed.channel 15).level.sumActive / (summed.channel 15).level.sumPeriod)
        = some (5000, false) :=
  ⟨⟨opened (by decide), by decide⟩, ⟨opened (by decide), by decide⟩, opened (by decide), by decide⟩

/-- A duty out of range; a listed tank that a duty at the foot of its map makes DRY; a tank whose level returns from FAULT. -/
theorem test_LevelChannelSteps_met_sample :
    let sampled := fun s : State => fun active => ({ bound s 15 (.tank 0 .level) with clock := 60000000 } : State).modChannel 15 (fun k =>
      { k with level := { k.level with sumActive := active, sumPeriod := 500 } })
    let back := (sampled (owned.modTank 0 (fun k => { k with phase := .offline, set := { k.set with enabled := true } })) 250).modChannel
      15 (fun k => { k with status := .fault })
    mapDuty defaultTankSettings (1000 * 1 / 500) = none
    ∧ (Open (sampled draining 50) ∧ ((sampled draining 50).tank 0).set = defaultTankSettings
        ∧ mapDuty defaultTankSettings (1000 * 50 / 500) = some (0, false)
        ∧ (∀ d, ((sampled draining 50).channel d).binder = .tank 0 .level → d = 15)
        ∧ (0 : Fin 8) ∈ (sampled draining 50).drainList
        ∧ (sampledTank .clear ((sampled draining 50).tank 0) (heldOf defaultTankSettings.shape 0) false 60).phase = .dry
        ∧ ((sampled draining 50).tank 0).phase ≠ .dry)
    ∧ (back.channel 15).status = .fault ∧ (back.tank 0).set.enabled = true ∧ (back.tank 0).phase = .offline :=
  ⟨by decide, ⟨opened (by decide), by decide⟩, by decide⟩

theorem test_GateEndRule_met :
    let s := (bound (runningAt 10) 15 .legMeter).modChannel 15 (fun k => { k with flow := { k.flow with pulses := 65535 } })
    let leg : State := { s with leg := { s.leg with count := 2 } }
    let draw := ((bound s 15 (.tank 7 .draw)).modGrant 7 (fun g => { g with overCount := 2 }))
    (Open s ∧ (s.channel 15).kind = .flow ∧ (s.channel 15).flow.gateStart + (s.channel 15).gate ≤ s.partTime)
    ∧ (leg.allow.aEff + leg.works.legTol < 65535 * (leg.channel 15).tenths / (10 * (leg.channel 15).gate)
        ∧ leg.leg.excess = false ∧ 2 ≤ leg.leg.count)
    ∧ (draw.channel 15).binder = .tank 7 .draw
    ∧ max (draw.tank 7).grant.granted (draw.tank 7).grant.confirmed + (draw.tank 7).set.tol
        < 65535 * (draw.channel 15).tenths / (10 * (draw.channel 15).gate)
    ∧ (draw.tank 7).grant.overdraw = false ∧ 2 ≤ (draw.tank 7).grant.overCount :=
  ⟨⟨opened (by decide), by decide⟩, by decide⟩

/-! ### The timers of the blocks -/

theorem test_RainTimers_met :
    let s := { runningAt 1800 with rain := { State.reset.rain with timer := some 0, catchment := .storm } }
    Open s ∧ (s.rain.boundary + 1) * 300 ≤ s.partTime ∧ s.rain.timer = some 0 ∧ 0 + 60 * s.rain.tClear ≤ s.partTime
      ∧ (∀ g, (s.gauge g).avail ≠ .available) :=
  ⟨opened (by decide), by decide⟩

/-- Gauges that enter WATCH by intensity at its entry value and stay CLEAR below it. -/
theorem test_RainTimers_met_gauge :
    ∀ p ∈ [(5, AlertLevel.watch), (4, .clear)],
      let s := running.modGauge 3 (fun g => { g with avail := .available, five := p.1 :: List.replicate 11 0 })
      (s.gauge 3).avail = .available ∧ levelMet s.rain (s.gauge 3) = p.2 := by decide

theorem test_AllowanceTimers_met :
    (∀ linked ∈ [true, false],
      let s := { schedule .running .fresh (some 3600) linked with clock := 3600000000 }
      Open s ∧ allowanceFormed s ∧ s.allow.active = some 0 ∧ (s.entry 0).remaining = some 3600
        ∧ 3600 ≤ s.partTime - s.allow.runSince ∧ (s.entry 0).link = some 1 ∧ (s.entry 1).byPart = linked
        ∧ s.allow.lease = some 0 ∧ 0 + 60 * s.works.tLease ≤ s.partTime)
    ∧ Open ({ scheduled with clock := 60000000 }.modAllow (fun a => { a with hold := some 60, aEff := 0 }))
    ∧ allowanceFormed ({ scheduled with clock := 60000000 }.modAllow (fun a => { a with hold := some 60, aEff := 0 })) := by
  refine ⟨?_, opened (by decide), by unfold allowanceFormed; decide⟩
  intro linked h
  simp only [List.mem_cons, List.not_mem_nil, or_false] at h
  rcases h with rfl | rfl <;> exact ⟨opened (by decide), by unfold allowanceFormed; decide, by decide⟩

theorem test_ConfirmDeadlineRule_met :
    let s := { draining with clock := 60000000 }.modGrant 0 (fun g =>
      { g with unsettled := true, deadline := some { setAt := 0, due := 60 } })
    let other := s.modGrant 7 (fun g => { g with unsettled := true })
    Open s ∧ (s.tank 0).grant.deadline = some { setAt := 0, due := 60 } ∧ 60 ≤ s.partTime
    ∧ (s.tank 0).grant.unsettled = true ∧ (s.tank 0).grant.overdueSince = none ∧ (s.tank 0).owner = portOwner .siteA
    ∧ (∀ k, k ≠ 0 → (s.tank k).grant.unsettled = false)
    ∧ (other.tank 7).grant.unsettled = true ∧ (other.tank 7).grant.overdueSince = none :=
  ⟨opened (by decide), by decide⟩

theorem test_SpillTimers_met :
    let pending := spilled (.pending 3999880) none
    let trailing := spilled (.trailing 3999400) (some (anEvent 1 false))
    let quiet := spilled .quiet (some (anEvent 2 false))
    (Open pending ∧ (pending.outfall 0).phase = .pending 3999880 ∧ 3999880 + pending.spill.set.tOn ≤ pending.partTime
      ∧ (pending.outfall 0).event = none)
    ∧ (Open trailing ∧ (trailing.outfall 0).phase = .trailing 3999400 ∧ 3999400 + trailing.spill.set.tOff ≤ trailing.partTime
        ∧ (trailing.outfall 0).event = some (anEvent 1 false) ∧ (anEvent 1 false).intervalEnd ≤ trailing.partTime)
    ∧ Open quiet ∧ (quiet.outfall 0).event = some (anEvent 2 false) ∧ (anEvent 2 false).interval ≠ 1
    ∧ (anEvent 2 false).counted = false ∧ (anEvent 2 true).counted = true :=
  ⟨⟨opened (by decide), by decide⟩, ⟨opened (by decide), by decide⟩, opened (by decide), by decide⟩

/-! ### The record store and its array -/

theorem test_PageHandoverRule_met :
    let s := (runningAt 30).modStore (fun v => { v with due := true, flushAt := some 30 })
    Open s ∧ s.store.flushAt = some 30 ∧ 30 ≤ s.partTime ∧ s.store.due = true ∧ s.store.program = none :=
  ⟨opened (by decide), by decide⟩

theorem test_ArbiterOrder_met :
    let s := operating none
    let moving := s.modStore (fun v => { v with state := .relocating, reloc := some { page := 15, next := 14 } })
    let moved := s.modStore (fun v => { v with state := .relocating, reloc := some { page := 15, next := 15 } })
    let idle := s.modStore (fun v => { v with program := none, prep := some [], prefetch := some { ref := ⟨0, 15⟩, buffer := 1 } })
    let full := s.modStore (fun v => { v with state := .full, writePage := 16, prep := some [0, 7], owed := [7] })
    (Open s ∧ s.store.op = none ∧ s.store.demand = none ∧ s.store.state = .ready ∧ s.store.current = some 0
      ∧ s.store.program.isSome ∧ s.store.writePage = (0 : Fin 16).val)
    ∧ (s.modStore (fun v => { v with demand := some ⟨63, 15⟩ })).store.demand.isSome
    ∧ (Open moving ∧ moving.store.state = .relocating ∧ moving.ahead = some 1 ∧ moving.blockStatus 1 = .erased ∧ 14 < (15 : Fin 16).val)
    ∧ (Open moved ∧ moved.ahead = some 1)
    ∧ (Open idle ∧ idle.store.program = none ∧ idle.ahead = some 1 ∧ idle.store.prep = some [] ∧ idle.store.state = .ready
        ∧ idle.store.prefetch.isSome)
    ∧ (Open full ∧ full.ahead = some 1 ∧ full.store.prep = some [0, 7] ∧ full.store.state = .full ∧ full.store.state ≠ .relocating)
    ∧ (s.modStore (fun v => { v with prep := none })).store.prep = none :=
  ⟨⟨opened (by decide), by decide⟩, by decide, ⟨opened (by decide), by decide⟩, ⟨opened (by decide), by decide⟩,
    ⟨opened (by decide), by decide⟩, ⟨opened (by decide), by decide⟩, by decide⟩

theorem test_PageProgramRule_met :
    let s := operating (some (.program ⟨0, 14⟩ false))
    let last := operating (some (.program ⟨0, 15⟩ false))
    let relocating := (operating (some (.program ⟨1, 14⟩ true))).modStore (fun v => { v with state := .relocating })
    (Open s ∧ s.store.op = some (.program ⟨0, 14⟩ false) ∧ s.store.program.isSome ∧ s.store.state = .ready
      ∧ (⟨0, 14⟩ : PageRef).page ≠ 15)
    ∧ (Open last ∧ last.store.op = some (.program ⟨0, 15⟩ false) ∧ last.store.program.isSome)
    ∧ (Open relocating ∧ relocating.store.op = some (.program ⟨1, 14⟩ true) ∧ relocating.store.current = some 0
        ∧ relocating.store.program.isSome)
    ∧ last.store.current = some 0 ∧ last.store.state = .ready ∧ last.ahead = some 1 ∧ last.blockStatus 1 = .erased
    ∧ (last.setStatus 1 .filled).ahead = some 1 ∧ (last.setStatus 1 .filled).blockStatus 1 ≠ .erased
    ∧ last.store.nextSeq + (last.store.prep.getD []).length + last.store.owed.length < 4294967295 :=
  ⟨⟨opened (by decide), by decide⟩, ⟨opened (by decide), by decide⟩, ⟨opened (by decide), by decide⟩, by decide⟩

theorem test_FailedOperationsRetire_met :
    (∀ op ∈ [ArrayOp.program ⟨1, 15⟩ true, .copy 15 0 1, .erase 63], Open (operating (some op)) ∧ (operating (some op)).store.op = some op) := by
  intro op h
  simp only [List.mem_cons, List.not_mem_nil, or_false] at h
  rcases h with rfl | rfl | rfl <;> exact ⟨opened (by decide), by decide⟩

theorem test_CopyEraseAndRead_met :
    let s := (operating (some (.copy 0 0 1))).modStore (fun v => { v with reloc := some { page := 15, next := 0 } })
    (Open s ∧ s.store.op = some (.copy 0 0 1) ∧ s.store.reloc.isSome)
    ∧ (Open (operating (some (.erase 63))) ∧ (operating (some (.erase 63))).store.state ≠ .full)
    ∧ Open (operating (some (.read ⟨63, 15⟩ (some 1)))) ∧ Open (operating (some (.read ⟨0, 0⟩ none)))
    ∧ ∀ reloc ∈ [none, some { page := 15, next := 3 }],
        let f := (operating (some (.erase 1))).modStore (fun v => { v with state := .full, reloc := reloc })
        f.store.op = some (.erase 1) ∧ f.store.state = .full ∧ f.store.reloc = reloc ∧ f.store.current = some 0
          ∧ f.store.nextSeq + 8 < 4294967295 :=
  ⟨⟨opened (by decide), by decide⟩, ⟨opened (by decide), by decide⟩, opened (by decide), opened (by decide), by decide⟩

/-- A demand read with both buffers full: one of them holds the page last served, or neither does. -/
theorem test_CopyEraseAndRead_met_demand :
    let page := fun x : Fin 16 => (some { ref := ⟨0, x⟩, records := [], sound := true } : Option ReadBuffer)
    let s := (operating (some (.read ⟨0, 0⟩ none))).modStore (fun v => { v with buffers := #v[page 14, page 15] })
    let served := fun x : Fin 16 => s.modStore (fun v => { v with served := some ⟨0, x⟩ })
    Open s ∧ (∀ j, s.store.buffers.get j ≠ none)
      ∧ ((served 15).store.buffers.get 1).map (fun q => q.ref) = (served 15).store.served
      ∧ (∀ j, ((served 15).store.buffers.get j).map (fun q => q.ref) = (served 15).store.served → j = 1)
      ∧ (∀ j, ((served 13).store.buffers.get j).map (fun q => q.ref) ≠ (served 13).store.served)
      ∧ (archived none none).writeOrder = [(⟨0, 0⟩, { first := 1, count := 1, valid := true })]
      ∧ ((archived none none).setTableEntry ⟨0, 1⟩ { first := 2, count := 1, valid := true }).writeOrder.map (fun q => q.1) =
          [⟨0, 0⟩, ⟨0, 1⟩] :=
  ⟨opened (by decide), by decide⟩

/-! ### The share-out and the shape table -/

theorem test_ShareOutBounds_met :
    ((([⟨0, 1, 100, 0⟩, ⟨1, 4, 50, 60⟩] : List Claim)).map (fun c => c.tank)).Nodup := by decide

theorem test_LevelAndVolumeMaps_met :
    (50 ≤ defaultTankSettings.dLo ∧ defaultTankSettings.dLo ≤ 450 ∧ 550 ≤ defaultTankSettings.dHi ∧ defaultTankSettings.dHi ≤ 950)
    ∧ pointsOrdered defaultTankSettings.shape = true
    ∧ (let ps : List Point := [⟨5, 7⟩, ⟨6, 7⟩, ⟨20000, 65535⟩]
       pointsOrdered ps = true ∧ ps.head? = some ⟨5, 7⟩ ∧ ps.getLast? = some ⟨20000, 65535⟩
         ∧ [0, 5, 6, 7, 19999, 20000, 20001].map (volumeOf ps) = [7, 7, 7, 10, 65531, 65535, 65535]) := by decide

/-! ### The records -/

theorem test_RecordHandOver_met :
    let full := running.modStore (fun v => { v with queue := List.replicate 32 [] })
    let last := running.modStore (fun v => { v with nextSeq := 4294967294, assembly := List.replicate 15 [] })
    let spent := running.modStore (fun v => { v with nextSeq := 4294967295 })
    (last.store.nextSeq < 4294967295 ∧ last.store.queue.length < 32 ∧ last.store.queue = [] ∧ last.store.assembly.length < 16)
    ∧ (full.store.nextSeq < 4294967295 ∧ 32 ≤ full.store.queue.length) ∧ 4294967295 ≤ spent.store.nextSeq
    ∧ ((spilled .quiet (some (anEvent 1 true))).outfall 0).event = some (anEvent 1 true) := by decide

/-- A SPILL_OPEN stamped at 0, whose start lies at 0 or 5 s below it. -/
theorem test_RecordHandOver_met_interrupted :
    ∀ r ∈ [openRecord, openRecord.set 18 5#8],
      (([(r, 0)] : List (List Byte × Fin 64)).find? (fun q => decide (recordKind q.1 = 3) && decide (recordOutfall q.1 = 0)
        && decide (recordSequence q.1 + 0 = recordSequence r))) = some (r, 0)
      ∧ ((fieldAt r 4 4 : Int) - (fieldAt r 17 2 : Int)) ≤ (running.partTime : Int) ∧ recordKind r = 3 := by decide

end Sys2Proof.Tests
end

section
/-! SUPPORT. The proofs about ENTRY_WRITE and LEASE_RENEW (R60, R72): an admitted order is answered by its rule, and each rule
has one equation per outcome. -/

namespace Sys2Proof.Machine

/-- An admitted order is answered with the code its rule answers, in the state the rule leaves (R172). -/
theorem exec_of_rule {i : Instr} {h : Head} {s t : State} {b : Bundle} {c : Code} {body : State → Answer}
    (form : exec i s = .next (takeOrder i h (orderForm i) body s)) (admitted : Admitted i h s b)
    (rule : body (s.during b) = answer t c) : exec i s = answered t c [] b := by
  rw [form, takeOrder_answers admitted, rule]
  rfl

/-! ### Operand indices that admit 0xFF (R194) -/

@[simp] theorem indexOrFF_ff (n : Nat) : indexOrFF n 255#8 = some none := by simp [indexOrFF]

theorem indexOrFF_of_le {n : Nat} {x : Byte} (le : n ≤ x.toNat) (named : x ≠ 255#8) : indexOrFF n x = none := by
  simp [indexOrFF, named, index_of_le le]

theorem indexOrFF_of_val {n : Nat} {x : Byte} {e : Fin n} (small : n ≤ 255) (eq : e.val = x.toNat) :
    indexOrFF n x = some (some e) := by
  have named : x ≠ 255#8 := by
    rintro rfl
    have lt := e.isLt
    simp only [eq, BitVec.toNat_ofNat] at lt
    omega
  simp [indexOrFF, named, index_of_val eq]

/-! ### ENTRY_WRITE (R60) -/

/-- Two updates that agree on the entry as it stands make the same state. -/
theorem State.modEntry_congr {s : State} {e : Fin 8} {f g : Entry → Entry} (eq : f (s.entry e) = g (s.entry e)) :
    s.modEntry e f = s.modEntry e g := by
  have here : f (s.allow.entries.get e) = g (s.allow.entries.get e) := eq
  simp [State.modEntry, State.modAllow, here]

/-- The remaining loaded is formed from the duration written: absent for 0, at most 1,440 minutes. -/
theorem durationSeconds_min (d : Nat) :
    durationSeconds (min 1440 d) = if d = 0 then none else some (60 * min 1440 d) := by
  have zero_iff : min 1440 d = 0 ↔ d = 0 := by omega
  simp [durationSeconds, zero_iff]

section EntryWrite

variable {x : Byte} {rate duration : Word} {link : Byte} {s : State} {e : Fin 8}

theorem exec_entryWrite {h : Head} {t : State} {b : Bundle} {c : Code}
    (admitted : Admitted (.entryWrite h x rate duration link) h s b)
    (rule : entryWriteAnswer x rate duration link (s.during b) = answer t c) :
    exec (.entryWrite h x rate duration link) s = answered t c [] b :=
  exec_of_rule rfl admitted rule

theorem entryWriteAnswer_of_no_entry (out : 8 ≤ x.toNat) :
    entryWriteAnswer x rate duration link s = answer s .refusedRange := by
  simp [entryWriteAnswer, index_of_le out]

theorem entryWriteAnswer_of_byPart (named : e.val = x.toNat) (posted : (s.entry e).byPart = true) :
    entryWriteAnswer x rate duration link s = answer s .refusedOwner := by
  simp [entryWriteAnswer, index_of_val named, posted]

theorem entryWriteAnswer_of_no_link (named : e.val = x.toNat) (own : (s.entry e).byPart = false)
    (out : indexOrFF 8 link = none) : entryWriteAnswer x rate duration link s = answer s .refusedRange := by
  simp [entryWriteAnswer, index_of_val named, own, out]

theorem entryWriteAnswer_of_self_link (named : e.val = x.toNat) (own : (s.entry e).byPart = false)
    (self : indexOrFF 8 link = some (some e)) : entryWriteAnswer x rate duration link s = answer s .refusedRange := by
  simp [entryWriteAnswer, index_of_val named, own, self]

/-- The entry that ENTRY_WRITE leaves: WORKS holds it, FRESH, with rate and duration at their bounds. -/
def writtenEntry (rate duration : Nat) (link : Option (Fin 8)) : Entry :=
  { rate := min 4000 rate, duration := min 1440 duration, link := link, byPart := false, status := .fresh,
    remaining := if duration = 0 then none else some (60 * min 1440 duration) }

theorem entryWriteAnswer_of_link (named : e.val = x.toNat) (own : (s.entry e).byPart = false) {l : Option (Fin 8)}
    (linked : indexOrFF 8 link = some l) (other : l ≠ some e) :
    entryWriteAnswer x rate duration link s =
      answer (s.modEntry e (fun _ => writtenEntry rate.toNat duration.toNat l))
        (if 4000 < rate.toNat ∨ 1440 < duration.toNat then .doneClamped else .done) := by
  have written : s.modEntry e (fun v =>
        { v with rate := min 4000 rate.toNat, duration := min 1440 duration.toNat, link := l, status := .fresh,
                 remaining := durationSeconds (min 1440 duration.toNat) }) =
      s.modEntry e (fun _ => writtenEntry rate.toNat duration.toNat l) :=
    State.modEntry_congr (by simp [writtenEntry, durationSeconds_min, own])
  simp [entryWriteAnswer, index_of_val named, own, linked, other, doneOr, written]

end EntryWrite

/-- Settles O24: each outcome is one equation of the order's rule, picked by what the entry and link operands name. -/
theorem entryWriteRule : Obligations.EntryWriteRule := by
  unfold Obligations.EntryWriteRule
  intro h x rate duration link s b admitted
  refine ⟨fun out => ?_, fun e named => ⟨fun posted => ?_, fun own => ⟨?_, ?_⟩⟩⟩
  · exact exec_entryWrite admitted (entryWriteAnswer_of_no_entry out)
  · exact exec_entryWrite admitted (entryWriteAnswer_of_byPart named posted)
  · rintro (⟨out, notNone⟩ | rfl)
    · exact exec_entryWrite admitted (entryWriteAnswer_of_no_link named own (indexOrFF_of_le out notNone))
    · exact exec_entryWrite admitted (entryWriteAnswer_of_self_link named own (indexOrFF_of_val (by decide) named))
  · rintro l (⟨rfl, rfl⟩ | ⟨f, rfl, other, linked⟩)
    · exact exec_entryWrite admitted (entryWriteAnswer_of_link (s := s.during b) named own (indexOrFF_ff 8) (by simp))
    · exact exec_entryWrite admitted
        (entryWriteAnswer_of_link (s := s.during b) named own (indexOrFF_of_val (by decide) linked) (by simpa using other))

/-! ### LEASE_RENEW (R72) -/

theorem exec_leaseRenew {h : Head} {s t : State} {b : Bundle} {c : Code} (admitted : Admitted (.leaseRenew h) h s b)
    (rule : leaseRenewAnswer (s.during b) = answer t c) : exec (.leaseRenew h) s = answered t c [] b :=
  exec_of_rule rfl admitted rule

/-- In RUNNING and STALLED the renewal starts the lease now (R70). -/
theorem State.renewLease_of_active {s : State} (active : s.allow.sched = .running ∨ s.allow.sched = .stalled) :
    s.renewLease = s.modAllow (fun a => { a with lease := some s.partTime }) := by
  simp [State.renewLease, active]

theorem leaseRenewAnswer_of_active {s : State} (active : s.allow.sched = .running ∨ s.allow.sched = .stalled) :
    leaseRenewAnswer s = answer (s.modAllow (fun a => { a with lease := some s.partTime })) .done := by
  rw [← State.renewLease_of_active active]
  rcases active with sched | sched <;> simp [leaseRenewAnswer, sched]

theorem leaseRenewAnswer_of_lapsed {s : State} (sched : s.allow.sched = .lapsed) :
    leaseRenewAnswer s = answer s .lapsed := by
  simp [leaseRenewAnswer, sched]

theorem leaseRenewAnswer_of_idle {s : State} (sched : s.allow.sched = .idle) :
    leaseRenewAnswer s = answer s .refusedState := by
  simp [leaseRenewAnswer, sched]

/-- Settles O29, by the schedule state. -/
theorem leaseRenewRule : Obligations.LeaseRenewRule := by
  unfold Obligations.LeaseRenewRule
  intro h s b admitted
  cases sched : s.allow.sched with
  | running => exact exec_leaseRenew admitted (leaseRenewAnswer_of_active (.inl sched))
  | stalled => exact exec_leaseRenew admitted (leaseRenewAnswer_of_active (.inr sched))
  | lapsed => exact exec_leaseRenew admitted (leaseRenewAnswer_of_lapsed sched)
  | idle => exact exec_leaseRenew admitted (leaseRenewAnswer_of_idle sched)

end Sys2Proof.Machine
end

section
/-! SUPPORT. The proof about GRANT_ACK (R105): a tank order of a site is answered by the tank and its owner, the rule of
GRANT_ACK has one equation per outcome, and an acknowledgment is said by what it leaves of its tank, the trigger and the rest. -/

namespace Sys2Proof.Machine

/-! ### The orders of the owner site of a tank (R22) -/

section OwnTank

variable {p : Port} {x : Byte} {body : Fin 8 → State → Answer} {s : State} {t : Fin 8}

theorem ownTank_of_no_tank (out : 8 ≤ x.toNat) : ownTank p x body s = answer s .refusedRange := by
  simp [ownTank, withTank, index_of_le out]

theorem ownTank_of_other_owner (named : t.val = x.toNat) (other : (s.tank t).owner ≠ portOwner p) :
    ownTank p x body s = answer s .refusedOwner := by
  simp [ownTank, withTank, index_of_val named, owns, other]

/-- A site owns what its port claims: it is not nobody (R21). -/
theorem portOwner_ne_nobody (site : p ∈ sitePorts) : portOwner p ≠ .nobody := by
  revert site
  cases p <;> decide

theorem ownTank_of_owner (named : t.val = x.toNat) (site : p ∈ sitePorts) (own : (s.tank t).owner = portOwner p) :
    ownTank p x body s = body t s := by
  simp [ownTank, withTank, index_of_val named, owns, own, portOwner_ne_nobody site]

end OwnTank

/-! ### What an acknowledgment leaves (R105, R107, R108) -/

namespace State

variable (s : State) (t : Fin 8)

/-- States with the same drains list the same tanks (R79). -/
theorem listed_congr {s u : State} (same : u.drains = s.drains) (k : Fin 8) : u.listed k = s.listed k := by
  have list : u.drainList = s.drainList := congrArg Prod.fst same
  simp [listed, list]

/-- Clearing the overdue flag of a listed tank notes a trigger: its exclusion has ended (R95, R107, R108). -/
theorem trigger_clearOverdue_of_listed (cause : OverdueCause) (late : (s.tank t).grant.overdueSince.isSome)
    (inList : t ∈ s.drainList) : (s.clearOverdue t cause).trigger = true := by
  obtain ⟨since, overdue⟩ := Option.isSome_iff_exists.mp late
  have drains : ((s.modGrant t (fun g => { g with overdueSince := none })).overdueRecord t cause since).drains = s.drains := by
    simp
  have stillListed : s.listed t = true := by simp [listed, inList]
  simp [clearOverdue, overdue, listed_congr drains, stillListed, noteTrigger]

/-- The tank acknowledged takes rate and serial, settles and is no longer overdue; no other tank is touched. -/
theorem tank_acknowledge (k : Fin 8) (serial : Word) (rate : Nat) :
    (s.acknowledge t serial rate).tank k =
      if k = t then { s.tank t with grant := { (s.tank t).grant with
        confirmed := rate, acked := serial, unsettled := false, deadline := none, overdueSince := none } }
      else s.tank k := by
  unfold acknowledge
  by_cases e : k = t <;> simp [e]

theorem trigger_acknowledge_of_listed (serial : Word) (rate : Nat) (late : (s.tank t).grant.overdueSince.isSome)
    (inList : t ∈ s.drainList) : (s.acknowledge t serial rate).trigger = true := by
  simp [acknowledge, trigger_clearOverdue_of_listed, late, inList]

/-- The frame of an acknowledgment: each area outside the four is one that `kept_acknowledge` speaks of. -/
theorem onlyChanges_acknowledge (serial : Word) (rate : Nat) :
    onlyChanges [.tanks, .store, .notices, .trigger] s (s.acknowledge t serial rate) := by
  intro area other
  cases area <;> simp [unchanged] at other ⊢

end State

/-! ### GRANT_ACK (R105) -/

section GrantAck

variable {x : Byte} {serial rate : Word} {s : State} {t : Fin 8}

theorem exec_grantAck {h : Head} {u : State} {b : Bundle} {c : Code} (admitted : Admitted (.grantAck h x serial rate) h s b)
    (rule : ownTank h.port x (grantAckAnswer serial rate) (s.during b) = answer u c) :
    exec (.grantAck h x serial rate) s = answered u c [] b :=
  exec_of_rule rfl admitted rule

theorem grantAckAnswer_of_other_serial (other : serial ≠ (s.tank t).grant.serial) :
    grantAckAnswer serial rate t s = answer s .stale := by
  simp [grantAckAnswer, other]

theorem grantAckAnswer_of_above (same : serial = (s.tank t).grant.serial) (above : (s.tank t).grant.granted < rate.toNat) :
    grantAckAnswer serial rate t s = answer s .refusedRange := by
  simp [grantAckAnswer, same, above]

theorem grantAckAnswer_of_within (same : serial = (s.tank t).grant.serial) (within : rate.toNat ≤ (s.tank t).grant.granted) :
    grantAckAnswer serial rate t s =
      answer (s.acknowledge t serial rate.toNat) (if (s.tank t).grant.overdueSince.isSome then .late else .done) := by
  simp [grantAckAnswer, same, Nat.not_lt.mpr within]

end GrantAck

/-- Settles O37: the checks of the tank and its owner pick the rule, and each outcome of the rule is one of its equations. -/
theorem grantAckRule : Obligations.GrantAckRule := by
  unfold Obligations.GrantAckRule
  intro h x serial rate s b admitted
  refine ⟨fun out => ?_, fun t named => ⟨fun other => ?_, fun own => ?_⟩⟩
  · exact exec_grantAck admitted (ownTank_of_no_tank out)
  · exact exec_grantAck admitted (ownTank_of_other_owner named other)
  · have ruled : ownTank h.port x (grantAckAnswer serial rate) (s.during b) = grantAckAnswer serial rate t (s.during b) :=
      ownTank_of_owner named admitted.role own
    refine ⟨fun otherSerial => ?_, fun same above => ?_, fun same within => ?_⟩
    · exact exec_grantAck admitted (ruled.trans (grantAckAnswer_of_other_serial otherSerial))
    · exact exec_grantAck admitted (ruled.trans (grantAckAnswer_of_above same above))
    · have taken := exec_grantAck admitted (ruled.trans (grantAckAnswer_of_within same within))
      refine ⟨_, taken, ?_, fun k ne => ?_, fun late inList => ?_, ?_⟩
      · simp [State.tank_acknowledge]
      · simp [State.tank_acknowledge, ne]
      · exact (s.during b).trigger_acknowledge_of_listed t serial rate.toNat late inList
      · exact (s.during b).onlyChanges_acknowledge t serial rate.toNat

end Sys2Proof.Machine
end

section
/-! SUPPORT. The proof about the guard of an order (R174): which fields a valid guard has, what each condition asks of the
state, and how the invert bit turns the condition's value. -/

namespace Sys2Proof.Machine

/-! ### The fields of a guard byte (11.1) -/

/-- The condition is a field of 3 bits: past the seven assigned conditions there is the reserved value 7 alone. -/
theorem guardCondition_lt (g : Byte) : guardCondition g < 8 := by
  unfold guardCondition
  omega

theorem guardInvert_iff (g : Byte) : guardInvert g = true ↔ g.toNat / 16 % 2 = 1 := by simp [guardInvert]

/-- An operand up to 7 names one tank or outfall, and what is said of some tank it names is said of that one. -/
theorem exists_tank_named_iff {g : Byte} (le : guardOperand g ≤ 7) (P : Fin 8 → Prop) :
    (∃ t : Fin 8, t.val = guardOperand g ∧ P t) ↔ P (guardTank g) := by
  have named : (guardTank g).val = guardOperand g := by
    simp only [guardTank, Fin.val_ofNat]
    omega
  constructor
  · rintro ⟨t, eq, holds⟩
    rwa [← Fin.ext (eq.trans named.symm)]
  · exact fun holds => ⟨guardTank g, named, holds⟩

/-! ### Validity (R174) -/

theorem guardValid_iff (g : Byte) :
    guardValid g = true ↔
      (guardCondition g = 0 ∧ guardOperand g = 0) ∨ (guardCondition g = 1 ∧ guardOperand g ≤ 3)
        ∨ ((guardCondition g = 2 ∨ guardCondition g = 3 ∨ guardCondition g = 4) ∧ guardOperand g ≤ 7)
        ∨ ((guardCondition g = 5 ∨ guardCondition g = 6) ∧ guardOperand g = 0) := by
  have lt := guardCondition_lt g
  unfold guardValid
  generalize guardCondition g = c at lt ⊢
  interval_cases c <;> simp

/-! ### The value of a guard (R174) -/

theorem State.isSpilling_iff (s : State) (o : Fin 8) :
    s.isSpilling o = true ↔ ∃ start, (s.outfall o).phase = .spilling start := by
  unfold State.isSpilling
  cases (s.outfall o).phase <;> simp

/-- What each condition asks of the state, for a guard that is valid. -/
theorem conditionHolds_iff (s : State) {g : Byte} (valid : guardValid g = true) :
    conditionHolds s g = true ↔
      guardCondition g = 0 ∨ (guardCondition g = 1 ∧ guardOperand g ≤ alertCode s.rain.catchment)
        ∨ (guardCondition g = 2 ∧ ∃ t : Fin 8, t.val = guardOperand g ∧ (s.tank t).phase = .full)
        ∨ (guardCondition g = 3 ∧ ∃ t : Fin 8, t.val = guardOperand g ∧ ∃ start, (s.outfall t).phase = .spilling start)
        ∨ (guardCondition g = 4 ∧ ∃ t : Fin 8, t.val = guardOperand g ∧ (s.tank t).drain.status = .draining)
        ∨ (guardCondition g = 5 ∧ ∃ e, s.allow.hold = some e)
        ∨ (guardCondition g = 6 ∧ s.allow.sched = .lapsed) := by
  rcases (guardValid_iff g).mp valid with ⟨c, -⟩ | ⟨c, -⟩ | ⟨c | c | c, le⟩ | ⟨c | c, -⟩
  · simp [conditionHolds, c]
  · simp [conditionHolds, c]
  · simp [conditionHolds, c, exists_tank_named_iff le]
  · simp [conditionHolds, c, exists_tank_named_iff le, State.isSpilling_iff]
  · simp [conditionHolds, c, exists_tank_named_iff le]
  · simp [conditionHolds, c, Option.isSome_iff_exists]
  · simp [conditionHolds, c]

/-- The invert bit turns the value of the condition into its opposite. -/
theorem guardValue_iff (s : State) (g : Byte) :
    guardValue s g = true ↔ (conditionHolds s g = true ↔ ¬ guardInvert g = true) := by
  unfold guardValue
  cases conditionHolds s g <;> cases guardInvert g <;> simp

/-- Settles O14: validity by the fields of the guard, and its value by the condition and the invert bit. -/
theorem guardConditions : Obligations.GuardConditions := by
  unfold Obligations.GuardConditions
  intro s g c o inverted
  refine ⟨guardValid_iff g, fun valid => ?_⟩
  rw [guardValue_iff, conditionHolds_iff s valid, guardInvert_iff]
  rfl

end Sys2Proof.Machine
end

section
/-! SUPPORT. The proof about the attention line (R178): a notice kind is one bit of the set and of the mask, and every bit is
the bit of a kind. -/

namespace Sys2Proof.Machine

theorem noticeWord_eq_twoPow (k : Notice) : noticeWord k = BitVec.twoPow 16 (noticeBit k) :=
  BitVec.eq_of_toNat_eq (by simp [noticeWord, BitVec.toNat_twoPow])

/-- A word of notices holds a kind exactly when the kind's bit is set. -/
theorem and_noticeWord_ne_zero_iff (w : Word) (k : Notice) :
    w &&& noticeWord k ≠ 0#16 ↔ w.getLsbD (noticeBit k) = true := by
  have nonzero : BitVec.twoPow 16 (noticeBit k) ≠ 0#16 := by
    rw [← noticeWord_eq_twoPow]
    cases k <;> decide
  rw [noticeWord_eq_twoPow, BitVec.and_twoPow]
  cases w.getLsbD (noticeBit k) <;> simp [nonzero]

/-- The sixteen kinds in the bit order of 11.3. -/
def noticeKinds : List Notice :=
  [.grantChanged, .drainEnded, .overdue, .overdraw, .settled, .schedule, .lease, .hold,
    .alert, .spill, .event, .earlySpill, .channel, .store, .settings, .legExcess]

theorem map_noticeBit_noticeKinds : noticeKinds.map noticeBit = List.range 16 := by decide

/-- No bit of a set or a mask is without a kind. -/
theorem exists_noticeBit_eq {i : Nat} (lt : i < 16) : ∃ k, noticeBit k = i := by
  have bit : i ∈ noticeKinds.map noticeBit := by
    rw [map_noticeBit_noticeKinds]
    exact List.mem_range.mpr lt
  obtain ⟨k, _, eq⟩ := List.mem_map.mp bit
  exact ⟨k, eq⟩

/-- A word of notices is not empty exactly when it holds some kind. -/
theorem ne_zero_iff_exists_noticeBit (w : Word) : w ≠ 0#16 ↔ ∃ k, w.getLsbD (noticeBit k) = true := by
  constructor
  · intro nonempty
    by_contra absent
    push Not at absent
    refine nonempty (BitVec.eq_of_getLsbD_eq fun i lt => ?_)
    obtain ⟨k, rfl⟩ := exists_noticeBit_eq lt
    simpa using absent k
  · rintro ⟨k, set⟩ rfl
    simp at set

/-- Two words of notices share a bit exactly when some kind is in both. -/
theorem and_ne_zero_iff_exists_notice (a b : Word) :
    a &&& b ≠ 0#16 ↔ ∃ k : Notice, a &&& noticeWord k ≠ 0#16 ∧ b &&& noticeWord k ≠ 0#16 := by
  simp only [ne_zero_iff_exists_noticeBit (a &&& b), and_noticeWord_ne_zero_iff, BitVec.getLsbD_and, Bool.and_eq_true]

theorem attention_of_running {s : State} (running : s.stage = .running) (p : Port) :
    attention s p = true ↔ (s.port p).notices &&& (s.port p).mask ≠ 0#16 := by
  simp [attention, running]

theorem attention_of_not_running {s : State} (other : s.stage ≠ .running) (p : Port) : attention s p = false := by
  simp [attention, other]

/-- Settles O21: in RUNNING by the kinds the set and the mask share, in every other stage by the stage alone. -/
theorem attentionFollowsSetAndMask : Obligations.AttentionFollowsSetAndMask := by
  unfold Obligations.AttentionFollowsSetAndMask
  intro s p
  exact ⟨fun running => (attention_of_running running p).trans (and_ne_zero_iff_exists_notice _ _),
    fun other => attention_of_not_running other p⟩

end Sys2Proof.Machine
end

section
/-! SUPPORT. What the format and the scan of the record store leave of the other blocks (R162 to R164). -/

namespace Sys2Proof.Machine

namespace State

variable (s : State)

@[simp] theorem kept_settleStore :
    (s.settleStore).outer = s.outer ∧ (s.settleStore).transfers = s.transfers ∧ (s.settleStore).allow = s.allow ∧
    (s.settleStore).works = s.works ∧ (s.settleStore).channels = s.channels ∧ (s.settleStore).rain = s.rain ∧
    (s.settleStore).spill = s.spill ∧ (s.settleStore).tanks = s.tanks ∧ (s.settleStore).drains = s.drains ∧
    (s.settleStore).leg = s.leg ∧ (s.settleStore).trigger = s.trigger ∧ (s.settleStore).save = s.save ∧
    (s.settleStore).media = s.media := by
  refine ⟨?_, ?_, ?_, ?_, ?_, ?_, ?_, ?_, ?_, ?_, ?_, ?_, ?_⟩
  all_goals
    unfold settleStore
    repeat' split
  all_goals simp


@[simp] theorem kept_markFactoryBad (b : Fin 64) :
    (s.markFactoryBad b).outer = s.outer ∧ (s.markFactoryBad b).transfers = s.transfers ∧
    (s.markFactoryBad b).allow = s.allow ∧ (s.markFactoryBad b).works = s.works ∧
    (s.markFactoryBad b).channels = s.channels ∧ (s.markFactoryBad b).rain = s.rain ∧
    (s.markFactoryBad b).spill = s.spill ∧ (s.markFactoryBad b).tanks = s.tanks ∧
    (s.markFactoryBad b).drains = s.drains ∧ (s.markFactoryBad b).leg = s.leg ∧
    (s.markFactoryBad b).trigger = s.trigger := by
  refine ⟨?_, ?_, ?_, ?_, ?_, ?_, ?_, ?_, ?_, ?_, ?_⟩
  all_goals
    unfold markFactoryBad
    dsimp only
    repeat' split
  all_goals simp


@[simp] theorem kept_formatBlock (fails : List (Fin 64)) (b : Fin 64) :
    (formatBlock fails s b).outer = s.outer ∧ (formatBlock fails s b).transfers = s.transfers ∧
    (formatBlock fails s b).allow = s.allow ∧ (formatBlock fails s b).works = s.works ∧
    (formatBlock fails s b).channels = s.channels ∧ (formatBlock fails s b).rain = s.rain ∧
    (formatBlock fails s b).spill = s.spill ∧ (formatBlock fails s b).tanks = s.tanks ∧
    (formatBlock fails s b).drains = s.drains ∧ (formatBlock fails s b).leg = s.leg ∧
    (formatBlock fails s b).trigger = s.trigger := by
  refine ⟨?_, ?_, ?_, ?_, ?_, ?_, ?_, ?_, ?_, ?_, ?_⟩
  all_goals
    unfold formatBlock
    repeat' split
  all_goals simp


@[simp] theorem kept_startRecord (scanned : Bool) (bad closes : Nat) :
    (s.startRecord scanned bad closes).outer = s.outer ∧ (s.startRecord scanned bad closes).transfers = s.transfers ∧
    (s.startRecord scanned bad closes).allow = s.allow ∧ (s.startRecord scanned bad closes).works = s.works ∧
    (s.startRecord scanned bad closes).channels = s.channels ∧ (s.startRecord scanned bad closes).rain = s.rain ∧
    (s.startRecord scanned bad closes).spill = s.spill ∧ (s.startRecord scanned bad closes).tanks = s.tanks ∧
    (s.startRecord scanned bad closes).drains = s.drains ∧ (s.startRecord scanned bad closes).leg = s.leg ∧
    (s.startRecord scanned bad closes).trigger = s.trigger ∧ (s.startRecord scanned bad closes).save = s.save ∧
    (s.startRecord scanned bad closes).media = s.media := by
  refine ⟨?_, ?_, ?_, ?_, ?_, ?_, ?_, ?_, ?_, ?_, ?_, ?_, ?_⟩
  all_goals simp [startRecord]


@[simp] theorem kept_beginRing :
    (s.beginRing).outer = s.outer ∧ (s.beginRing).transfers = s.transfers ∧ (s.beginRing).allow = s.allow ∧
    (s.beginRing).works = s.works ∧ (s.beginRing).channels = s.channels ∧ (s.beginRing).rain = s.rain ∧
    (s.beginRing).spill = s.spill ∧ (s.beginRing).tanks = s.tanks ∧ (s.beginRing).drains = s.drains ∧
    (s.beginRing).leg = s.leg ∧ (s.beginRing).trigger = s.trigger ∧ (s.beginRing).save = s.save ∧
    (s.beginRing).media = s.media := by
  refine ⟨?_, ?_, ?_, ?_, ?_, ?_, ?_, ?_, ?_, ?_, ?_, ?_, ?_⟩
  all_goals
    unfold beginRing
    repeat' split
  all_goals simp


@[simp] theorem kept_readyStore :
    (s.readyStore).outer = s.outer ∧ (s.readyStore).transfers = s.transfers ∧ (s.readyStore).allow = s.allow ∧
    (s.readyStore).works = s.works ∧ (s.readyStore).channels = s.channels ∧ (s.readyStore).rain = s.rain ∧
    (s.readyStore).spill = s.spill ∧ (s.readyStore).tanks = s.tanks ∧ (s.readyStore).drains = s.drains ∧
    (s.readyStore).leg = s.leg ∧ (s.readyStore).trigger = s.trigger ∧ (s.readyStore).save = s.save ∧
    (s.readyStore).media = s.media := by
  refine ⟨?_, ?_, ?_, ?_, ?_, ?_, ?_, ?_, ?_, ?_, ?_, ?_, ?_⟩
  all_goals simp [readyStore]


@[simp] theorem kept_format (fails : List (Fin 64)) :
    (s.format fails).outer = s.outer ∧ (s.format fails).transfers = s.transfers ∧ (s.format fails).allow = s.allow ∧
    (s.format fails).works = s.works ∧ (s.format fails).channels = s.channels ∧ (s.format fails).rain = s.rain ∧
    (s.format fails).spill = s.spill ∧ (s.format fails).tanks = s.tanks ∧ (s.format fails).drains = s.drains ∧
    (s.format fails).leg = s.leg ∧ (s.format fails).trigger = s.trigger := by
  refine ⟨?_, ?_, ?_, ?_, ?_, ?_, ?_, ?_, ?_, ?_, ?_⟩
  all_goals
    simp only [format]
    simp [outer_foldl, transfers_foldl, allow_foldl, works_foldl, channels_foldl, rain_foldl, spill_foldl, tanks_foldl, drains_foldl, leg_foldl, trigger_foldl]


@[simp] theorem kept_scanStatus (current : Option (Fin 64)) (b : Fin 64) :
    (scanStatus current s b).outer = s.outer ∧ (scanStatus current s b).transfers = s.transfers ∧
    (scanStatus current s b).allow = s.allow ∧ (scanStatus current s b).works = s.works ∧
    (scanStatus current s b).channels = s.channels ∧ (scanStatus current s b).rain = s.rain ∧
    (scanStatus current s b).spill = s.spill ∧ (scanStatus current s b).tanks = s.tanks ∧
    (scanStatus current s b).drains = s.drains ∧ (scanStatus current s b).leg = s.leg ∧
    (scanStatus current s b).trigger = s.trigger ∧ (scanStatus current s b).save = s.save ∧
    (scanStatus current s b).media = s.media := by
  refine ⟨?_, ?_, ?_, ?_, ?_, ?_, ?_, ?_, ?_, ?_, ?_, ?_, ?_⟩
  all_goals
    unfold scanStatus
    repeat' split
  all_goals simp


theorem scanOne_keeps {β : Type} (π : State → β) (keeps : ∀ (t : State) r e, π (t.setTableEntry r e) = π t)
    (a : State × Option Nat) (r : PageRef) : π (scanOne a r).1 = π a.1 := by
  unfold scanOne
  split <;> simp [keeps]

/-- Entering pages into the page table keeps what one entry keeps (R163). -/
theorem scanTable_keeps {β : Type} (π : State → β) (keeps : ∀ (t : State) r e, π (t.setTableEntry r e) = π t) :
    π s.scanTable = π s := by
  have pages : ∀ (rs : List PageRef) (a : State × Option Nat), π (rs.foldl scanOne a).1 = π a.1 := by
    intro rs
    induction rs with
    | nil => exact fun _ => rfl
    | cons r rs ih => exact fun a => (ih _).trans (scanOne_keeps π keeps a r)
  exact pages _ _

@[simp] theorem kept_scanTable :
    (s.scanTable).outer = s.outer ∧ (s.scanTable).transfers = s.transfers ∧ (s.scanTable).allow = s.allow ∧
    (s.scanTable).works = s.works ∧ (s.scanTable).channels = s.channels ∧ (s.scanTable).rain = s.rain ∧
    (s.scanTable).spill = s.spill ∧ (s.scanTable).tanks = s.tanks ∧ (s.scanTable).drains = s.drains ∧
    (s.scanTable).leg = s.leg ∧ (s.scanTable).trigger = s.trigger ∧ (s.scanTable).save = s.save ∧
    (s.scanTable).media = s.media := by
  refine ⟨?_, ?_, ?_, ?_, ?_, ?_, ?_, ?_, ?_, ?_, ?_, ?_, ?_⟩
  all_goals exact s.scanTable_keeps _ (fun _ _ _ => by simp)


@[simp] theorem kept_scanRing :
    (s.scanRing).outer = s.outer ∧ (s.scanRing).transfers = s.transfers ∧ (s.scanRing).allow = s.allow ∧
    (s.scanRing).works = s.works ∧ (s.scanRing).channels = s.channels ∧ (s.scanRing).rain = s.rain ∧
    (s.scanRing).spill = s.spill ∧ (s.scanRing).tanks = s.tanks ∧ (s.scanRing).drains = s.drains ∧
    (s.scanRing).leg = s.leg ∧ (s.scanRing).trigger = s.trigger ∧ (s.scanRing).save = s.save ∧
    (s.scanRing).media = s.media := by
  refine ⟨?_, ?_, ?_, ?_, ?_, ?_, ?_, ?_, ?_, ?_, ?_, ?_, ?_⟩
  all_goals
    unfold scanRing
    dsimp only
    repeat' split
  all_goals simp [outer_foldl, transfers_foldl, allow_foldl, works_foldl, channels_foldl, rain_foldl, spill_foldl, tanks_foldl, drains_foldl, leg_foldl, trigger_foldl, save_foldl, media_foldl]


@[simp] theorem kept_restoreTotals (l : List (List Byte × Fin 64)) (period : Nat) (o : Fin 8) :
    (restoreTotals l period s o).outer = s.outer ∧ (restoreTotals l period s o).transfers = s.transfers ∧
    (restoreTotals l period s o).allow = s.allow ∧ (restoreTotals l period s o).works = s.works ∧
    (restoreTotals l period s o).channels = s.channels ∧ (restoreTotals l period s o).rain = s.rain ∧
    (restoreTotals l period s o).tanks = s.tanks ∧ (restoreTotals l period s o).drains = s.drains ∧
    (restoreTotals l period s o).leg = s.leg ∧ (restoreTotals l period s o).trigger = s.trigger ∧
    (restoreTotals l period s o).store = s.store ∧ (restoreTotals l period s o).save = s.save ∧
    (restoreTotals l period s o).media = s.media := by
  refine ⟨?_, ?_, ?_, ?_, ?_, ?_, ?_, ?_, ?_, ?_, ?_, ?_, ?_⟩
  all_goals
    unfold restoreTotals
    repeat' split
  all_goals simp


@[simp] theorem kept_interruptedClose (l : List (List Byte × Fin 64)) (o : Fin 8) (r : List Byte) :
    (interruptedClose l s o r).outer = s.outer ∧ (interruptedClose l s o r).transfers = s.transfers ∧
    (interruptedClose l s o r).allow = s.allow ∧ (interruptedClose l s o r).works = s.works ∧
    (interruptedClose l s o r).channels = s.channels ∧ (interruptedClose l s o r).rain = s.rain ∧
    (interruptedClose l s o r).spill = s.spill ∧ (interruptedClose l s o r).tanks = s.tanks ∧
    (interruptedClose l s o r).drains = s.drains ∧ (interruptedClose l s o r).leg = s.leg ∧
    (interruptedClose l s o r).trigger = s.trigger ∧ (interruptedClose l s o r).save = s.save := by
  refine ⟨?_, ?_, ?_, ?_, ?_, ?_, ?_, ?_, ?_, ?_, ?_, ?_⟩
  all_goals
    unfold interruptedClose
    dsimp only
    repeat' split
  all_goals simp


@[simp] theorem kept_scan :
    (s.scan).outer = s.outer ∧ (s.scan).transfers = s.transfers ∧ (s.scan).allow = s.allow ∧
    (s.scan).works = s.works ∧ (s.scan).channels = s.channels ∧ (s.scan).rain = s.rain ∧ (s.scan).tanks = s.tanks ∧
    (s.scan).drains = s.drains ∧ (s.scan).leg = s.leg ∧ (s.scan).trigger = s.trigger ∧ (s.scan).save = s.save := by
  refine ⟨?_, ?_, ?_, ?_, ?_, ?_, ?_, ?_, ?_, ?_, ?_⟩
  all_goals
    simp only [scan]
    simp [outer_foldl, transfers_foldl, allow_foldl, works_foldl, channels_foldl, rain_foldl, tanks_foldl, drains_foldl, leg_foldl, trigger_foldl, save_foldl]


end State

end Sys2Proof.Machine
end

section
/-! SUPPORT. The two forms of a command taken in RUNNING: every order is its form of checks around one rule, every event is
one effect taken when it is due; and what every command keeps of the base (R96, R170 to R172). -/

namespace Sys2Proof.Machine

namespace State

variable (s : State)

/-! ### The entry to RUNNING (R191) -/

@[simp] theorem kept_startBound (c : Fin 16) :
    (s.startBound c).outer = s.outer ∧ (s.startBound c).transfers = s.transfers ∧ (s.startBound c).ports = s.ports ∧
    (s.startBound c).allow = s.allow ∧ (s.startBound c).works = s.works ∧ (s.startBound c).rain = s.rain ∧
    (s.startBound c).spill = s.spill ∧ (s.startBound c).tanks = s.tanks ∧ (s.startBound c).drains = s.drains ∧
    (s.startBound c).leg = s.leg ∧ (s.startBound c).store = s.store ∧ (s.startBound c).save = s.save ∧
    (s.startBound c).media = s.media := by
  refine ⟨?_, ?_, ?_, ?_, ?_, ?_, ?_, ?_, ?_, ?_, ?_, ?_, ?_⟩
  all_goals
    unfold startBound
    split
  all_goals simp [startChannel]

@[simp] theorem kept_startTank (t : Fin 8) :
    (s.startTank t).outer = s.outer ∧ (s.startTank t).transfers = s.transfers ∧ (s.startTank t).ports = s.ports ∧
    (s.startTank t).allow = s.allow ∧ (s.startTank t).works = s.works ∧ (s.startTank t).channels = s.channels ∧
    (s.startTank t).rain = s.rain ∧ (s.startTank t).spill = s.spill ∧ (s.startTank t).drains = s.drains ∧
    (s.startTank t).leg = s.leg ∧ (s.startTank t).store = s.store ∧ (s.startTank t).save = s.save ∧
    (s.startTank t).media = s.media := by
  refine ⟨?_, ?_, ?_, ?_, ?_, ?_, ?_, ?_, ?_, ?_, ?_, ?_, ?_⟩
  all_goals simp [startTank]

@[simp] theorem kept_startGauge (g : Fin 4) :
    (s.startGauge g).outer = s.outer ∧ (s.startGauge g).transfers = s.transfers ∧ (s.startGauge g).allow = s.allow ∧
    (s.startGauge g).works = s.works ∧ (s.startGauge g).channels = s.channels ∧ (s.startGauge g).spill = s.spill ∧
    (s.startGauge g).drains = s.drains ∧ (s.startGauge g).leg = s.leg ∧ (s.startGauge g).save = s.save ∧
    (s.startGauge g).media = s.media := by
  refine ⟨?_, ?_, ?_, ?_, ?_, ?_, ?_, ?_, ?_, ?_⟩
  all_goals
    unfold startGauge
    split <;> simp

@[simp] theorem kept_beginHeldSave :
    s.beginHeldSave.outer = s.outer ∧ s.beginHeldSave.transfers = s.transfers ∧ s.beginHeldSave.ports = s.ports ∧
    s.beginHeldSave.allow = s.allow ∧ s.beginHeldSave.works = s.works ∧ s.beginHeldSave.channels = s.channels ∧
    s.beginHeldSave.rain = s.rain ∧ s.beginHeldSave.spill = s.spill ∧ s.beginHeldSave.tanks = s.tanks ∧
    s.beginHeldSave.drains = s.drains ∧ s.beginHeldSave.leg = s.leg ∧ s.beginHeldSave.store = s.store ∧
    s.beginHeldSave.media = s.media := by
  refine ⟨?_, ?_, ?_, ?_, ?_, ?_, ?_, ?_, ?_, ?_, ?_, ?_, ?_⟩
  all_goals
    unfold beginHeldSave
    split
  all_goals simp [saveStart]

@[simp] theorem kept_enterRunning :
    s.enterRunning.outer = ({ s with stage := .running } : State).outer ∧
    s.enterRunning.allow = idleAllow (min s.works.fallback s.works.cLeg) ∧ s.enterRunning.works = s.works ∧
    s.enterRunning.spill = s.spill ∧ s.enterRunning.drains = s.drains ∧ s.enterRunning.leg = s.leg ∧
    s.enterRunning.media = s.media := by
  refine ⟨?_, ?_, ?_, ?_, ?_, ?_, ?_⟩
  all_goals
    simp only [enterRunning]
    simp [outer_foldl, allow_foldl, works_foldl, spill_foldl, drains_foldl, leg_foldl, media_foldl, partTime]

/-- Two states that agree in what only the outside writes agree in each part of it. -/
theorem outer_eq_iff {s t : State} : t.outer = s.outer ↔ t.stage = s.stage ∧ t.clock = s.clock ∧ t.civil = s.civil ∧
    t.lines = s.lines ∧ t.bundle = s.bundle ∧ t.pending = s.pending ∧ t.eeprom = s.eeprom := by
  simp only [outer, Prod.mk.injEq]

theorem outer_of_civil {s u : State} {c : Option Int} (same : u.outer = ({ s with civil := c } : State).outer) :
    u.outer = ({ s with civil := u.civil } : State).outer := by
  obtain ⟨-, -, civil, -⟩ := outer_eq_iff.mp same
  rw [civil]
  exact same

theorem outer_of_eeprom {s u : State} {m : List Host.Cell} (same : u.outer = ({ s with eeprom := m } : State).outer) :
    u.outer = ({ s with eeprom := u.eeprom } : State).outer := by
  obtain ⟨-, -, -, -, -, -, eeprom⟩ := outer_eq_iff.mp same
  rw [eeprom]
  exact same

/-- What no order changes of what only the outside writes: the stage, the waiting commands and the EEPROM. -/
def base (s : State) : Stage × List Instr × List Host.Cell := (s.stage, s.pending, s.eeprom)

theorem base_congr {s u : State} (same : u.outer = s.outer) : u.base = s.base := by
  obtain ⟨stage, -, -, -, -, pending, eeprom⟩ := outer_eq_iff.mp same
  simp [base, stage, pending, eeprom]

end State

/-! ### The rule of each order -/

/-- The rule that decides an order once it has passed steps 1 to 5 of its checks (R172). -/
def orderRule : Instr → State → Answer
  | .nop _ => fun s => answer s .done
  | .identify h => fun s => doneData s 20 (identifyData s h.port)
  | .statusRead _ group => statusAnswer group
  | .noticesRead h => noticesAnswer h.port
  | .noticeMask h mask => fun s => answer (s.modPort h.port (fun q => { q with mask := mask })) .done
  | .portReset h => fun s =>
    answer (s.modPort h.port (fun q => { q with notices := 0#16, mask := defaultMask h.port })) .done
  | .saveSettings h => saveAnswer h.port
  | .tankRead _ tank part => tankReadAnswer tank part
  | .alertRead _ gauge => alertReadAnswer gauge
  | .entryWrite _ entry rate duration link => entryWriteAnswer entry rate duration link
  | .entryPost _ entry => entryPostAnswer entry
  | .entryRecall _ entry => entryRecallAnswer entry
  | .entryRead _ entry => entryReadAnswer entry
  | .scheduleKick _ entry => scheduleKickAnswer entry
  | .scheduleStop _ => fun s => answer s.stopSchedule .done
  | .leaseRenew _ => leaseRenewAnswer
  | .hold _ minutes => holdAnswer minutes
  | .release _ => releaseAnswer
  | .worksSet _ v => marking (worksSetAnswer v)
  | .drawRead _ => fun s => doneData s 59 (drawData s)
  | .tankClaim h tank => marking (withTank tank (tankClaimAnswer h.port))
  | .tankRelease h tank => marking (ownTank h.port tank tankReleaseAnswer)
  | .tankSet h tank v => marking (ownTank h.port tank (tankSetAnswer v))
  | .shapeSet h tank v => marking (ownTank h.port tank (shapeSetAnswer v))
  | .channelBind h tank role v => marking (channelBindRule h.port tank role v)
  | .drainRequest h tank m n => ownTank h.port tank (drainRequestAnswer m n)
  | .drainStop h tank => ownTank h.port tank drainStopAnswer
  | .grantAck h tank serial rate => ownTank h.port tank (grantAckAnswer serial rate)
  | .cycleRead h tank => ownTank h.port tank cycleReadAnswer
  | .clockSet _ time => clockSetAnswer time
  | .readFrom _ sequence => readFromAnswer sequence
  | .readNext _ => readNextAnswer
  | .archiveUpto _ sequence => archiveUptoAnswer sequence
  | .closePeriod _ => closePeriodAnswer
  | .countRead _ outfall => countReadAnswer outfall
  | .spillSet _ v => marking (spillSetAnswer v)
  | .gaugeSet _ v => marking (gaugeSetAnswer v)
  | .gaugeBind _ gauge v => marking (gaugeBindAnswer gauge v)
  | .storeRead _ part => storeReadAnswer part
  | _ => fun s => answer s .done

/-- An assigned order is its checks around its rule. -/
theorem exec_order {i : Instr} {h : Head} (a : assignedOrder i = true) (hd : orderHead i = some h) (s : State) :
    exec i s = .next (takeOrder i h (orderForm i) (orderRule i) s) := by
  cases i <;> simp [assignedOrder, orderHead, orderParts] at a hd <;> subst hd <;> rfl

/-! ### The effect of each event -/

/-- An event outside a bundle: when it is due, and what it does before its end (R96). -/
def eventOf : Instr → Option ((State → Bool) × (State → State))
  | .savePageSent acknowledged => some (saveSending, pageSent acknowledged)
  | .eepromWriteComplete => some (fun s => (writingSince s).any (fun t => decide (s.clock ≤ t + 5000)),
      fun s => s.modSave (fun q => { q with run := q.run.map (fun v => { v with step := .reading }) }))
  | .eepromWriteTimeout => some (writeLate, fun s =>
      match s.save.run with
      | none => s
      | some v => s.saveFail v .timeout)
  | .pageReadbackComplete data => some (fun s => saveReading s && decide (data.length = 32), fun s =>
      match s.save.run with
      | none => s
      | some v => s.pageRead v data)
  | .debounceAccept c => some (fun s => debounceDue s c, fun s => s.acceptEdge c)
  | .channelSettle c => some (fun s => settleDue s c, fun s => s.settleChannel c)
  | .rainStuck c => some (fun s => stuckDue s c, fun s => s.becomeStuck c)
  | .levelSaturate c => some (fun s => saturateDue s c, fun s => s.modChannel c Channel.saturate)
  | .levelSample c => some (fun s => sampleDue s c, fun s =>
      match levelTank s c with
      | some t => s.levelSecond c t
      | none => s)
  | .levelStaleTimeout c => some (fun s => staleDue s c, fun s => s.modChannel c (fun k => { k with status := .stale }))
  | .levelFaultTimeout c => some (fun s => levelFaultDue s c, fun s =>
      match levelTank s c with
      | some t => s.levelFault c t
      | none => s)
  | .gateEnd c => some (fun s => gateDue s c, fun s => s.endGate c)
  | .binBoundary => some (binDue, fun s => s.rollBins)
  | .clearTimerExpiry => some (fun s => s.clearDue, fun s => s.stepDown)
  | .entryExpiry => some (fun s => s.expiryDue.isSome, fun s =>
      match s.expiryDue with
      | some e => s.expireEntry e
      | none => s)
  | .leaseLapse => some (fun s => s.lapseDue, fun s => s.lapseLease)
  | .holdExpiry => some (holdDue, fun s => s.endHold .holdEndExpiry)
  | .confirmDeadline t => some (fun s => deadlineDue s t, fun s =>
      match (s.tank t).grant.deadline with
      | some d => s.becomeOverdue t d
      | none => s)
  | .tOnExpiry o => some (fun s => onDue s o, fun s =>
      match s.pendingSince o with
      | some t => s.enterSpilling o t true
      | none => s)
  | .tOffExpiry o => some (fun s => offDue s o, fun s => s.becomeQuiet o)
  | .intervalEnd o => some (fun s => intervalDue s o, fun s =>
      match (s.outfall o).event with
      | some v => s.endInterval o v
      | none => s)
  | .flushTimerExpiry => some (flushDue, fun s => s.modStore (fun v => { v with due := true, flushAt := none }))
  | .pageHandover => some (handoverDue, fun s => s.handPage)
  | .arrayOperationStart => some (operationDue, fun s =>
      match s.arbiterChoice with
      | some o => s.beginOperation o
      | none => s)
  | .pageProgramComplete ok => some (fun s => s.programming, fun s =>
      match s.store.op with
      | some (.program r relocating) => s.operationEnds.programEnds r relocating ok
      | _ => s)
  | .relocationCopyComplete ok => some (fun s => s.copying, fun s =>
      match s.store.op with
      | some (.copy page source target) => s.operationEnds.copyEnds page source target ok
      | _ => s)
  | .blockEraseComplete ok => some (fun s => s.erasing, fun s =>
      match s.store.op with
      | some (.erase b) => if ok then s.operationEnds.erased b else s.operationEnds.eraseFailed b
      | _ => s)
  | .pageReadComplete sound => some (fun s => s.readingPage, fun s =>
      match s.store.op with
      | some (.read r target) => s.operationEnds.readEnds r target sound
      | _ => s)
  | _ => none

/-- An event is its effect, taken when it is due. -/
theorem exec_event {i : Instr} {due : State → Bool} {effect : State → State} (e : eventOf i = some (due, effect)) (s : State) :
    exec i s = .next (takeEvent (due s) effect s) := by
  cases i <;> simp [eventOf] at e <;> obtain ⟨rfl, rfl⟩ := e <;> rfl

/-- An event that is due is taken whole, with its end. -/
theorem exec_event_due {i : Instr} {due : State → Bool} {effect : State → State} {s : State} (o : Open s)
    (e : eventOf i = some (due, effect)) (now : due s = true) : exec i s = ended (effect s) := by
  rw [exec_event e, now, takeEvent_of_due o]
  rfl

/-! ### What every command keeps -/

section Rules

variable (s : State)

@[simp] theorem outer_entryWriteAnswer (x : Byte) (rate duration : Word) (link : Byte) : (entryWriteAnswer x rate duration link s).state.outer = s.outer := by
  unfold entryWriteAnswer
  dsimp only
  repeat' split
  all_goals simp

@[simp] theorem outer_entryPostAnswer (x : Byte) : (entryPostAnswer x s).state.outer = s.outer := by
  unfold entryPostAnswer
  dsimp only
  repeat' split
  all_goals simp

@[simp] theorem outer_entryRecallAnswer (x : Byte) : (entryRecallAnswer x s).state.outer = s.outer := by
  unfold entryRecallAnswer
  repeat' split
  all_goals simp

@[simp] theorem outer_scheduleKickAnswer (x : Byte) : (scheduleKickAnswer x s).state.outer = s.outer := by
  unfold scheduleKickAnswer kickAnswer kickOn
  dsimp only
  repeat' split
  all_goals simp

@[simp] theorem outer_leaseRenewAnswer : (leaseRenewAnswer s).state.outer = s.outer := by
  unfold leaseRenewAnswer
  split <;> simp

@[simp] theorem outer_holdAnswer (x : Byte) : (holdAnswer x s).state.outer = s.outer := by
  simp [holdAnswer]

@[simp] theorem outer_releaseAnswer : (releaseAnswer s).state.outer = s.outer := by
  unfold releaseAnswer
  dsimp only
  split <;> simp

@[simp] theorem outer_worksSetAnswer (v : WorksOperands) : (worksSetAnswer v s).state.outer = s.outer := by
  unfold worksSetAnswer
  dsimp only
  repeat' split
  all_goals simp

@[simp] theorem kept_withTank (x : Byte) (f : Fin 8 → State → Answer)
    (h : ∀ t, (f t s).state.outer = s.outer ∧ (f t s).state.allow = s.allow ∧ (f t s).state.works = s.works) :
    (withTank x f s).state.outer = s.outer ∧ (withTank x f s).state.allow = s.allow
      ∧ (withTank x f s).state.works = s.works :=
  ⟨withTank_keeps s _ x f (fun t => (h t).1), withTank_keeps s _ x f (fun t => (h t).2.1),
    withTank_keeps s _ x f (fun t => (h t).2.2)⟩

@[simp] theorem kept_clockSetAnswer (time : Long) :
    (clockSetAnswer time s).state.allow = s.allow ∧ (clockSetAnswer time s).state.works = s.works := by
  refine ⟨?_, ?_⟩
  all_goals
    unfold clockSetAnswer
    split <;> simp

end Rules

/-- The rule of an order leaves what only the outside writes; CLOCK_SET alone sets civil time (R193). -/
theorem outer_orderRule {i : Instr} (other : ∀ h time, i ≠ .clockSet h time) (s : State) :
    (orderRule i s).state.outer = s.outer := by
  cases i
  case clockSet h time => exact absurd rfl (other h time)
  all_goals simp [orderRule, cycleReadAnswer]

/-- CLOCK_SET sets civil time alone of what only the outside writes (R193). -/
theorem outer_clockSetAnswer (time : Long) (s : State) :
    (clockSetAnswer time s).state.outer = ({ s with civil := (clockSetAnswer time s).state.civil } : State).outer := by
  unfold clockSetAnswer
  split
  · rfl
  · refine State.outer_of_civil (c := some ((time.toNat : Int) - (s.partTime : Int))) ?_
    simp [answer]

/-- No order changes the stage, the waiting commands or the EEPROM. -/
theorem base_orderRule (i : Instr) (s : State) : (orderRule i s).state.base = s.base := by
  by_cases clock : ∃ h time, i = .clockSet h time
  · obtain ⟨h, time, rfl⟩ := clock
    exact (State.base_congr (outer_clockSetAnswer time s)).trans rfl
  · exact State.base_congr (outer_orderRule (fun h time eq => clock ⟨h, time, eq⟩) s)

/-- The rule of an order of another port leaves the allowance unit and the WORKS settings. -/
theorem allow_orderRule {i : Instr} (other : orderPorts i ≠ [.works]) (s : State) :
    (orderRule i s).state.allow = s.allow ∧ (orderRule i s).state.works = s.works := by
  cases i
  all_goals first
    | exact absurd rfl other
    | simp [orderRule, cycleReadAnswer]

theorem outer_scramblePage (s : State) (page : Fin 32) :
    (s.scramblePage page).outer = ({ s with eeprom := (s.scramblePage page).eeprom } : State).outer := by
  simp only [State.scramblePage, State.outer_mk]

/-- The end of a page's transfer writes the EEPROM alone of what only the outside writes (R187). -/
theorem outer_pageSent (acknowledged : Bool) (s : State) :
    (pageSent acknowledged s).outer = ({ s with eeprom := (pageSent acknowledged s).eeprom } : State).outer := by
  unfold pageSent
  dsimp only
  split
  · rfl
  · rename_i v _
    refine State.outer_of_eeprom (m := (s.scramblePage v.page).eeprom) ?_
    rw [← outer_scramblePage]
    split <;> simp

theorem outer_pageRead (s : State) (v : SaveRun) (data : List Byte) :
    (s.pageRead v data).outer = ({ s with eeprom := Memory.writeAll s.eeprom (32 * v.page.val) data } : State).outer := by
  unfold State.pageRead
  dsimp only
  repeat' split
  all_goals simp

/-- An event other than the steps of a save leaves what only the outside writes. -/
theorem outer_eventOf_of_no_write {i : Instr} {due : State → Bool} {effect : State → State} (e : eventOf i = some (due, effect))
    (sent : ∀ ok, i ≠ .savePageSent ok) (read : ∀ data, i ≠ .pageReadbackComplete data) (s : State) :
    (effect s).outer = s.outer := by
  cases i <;> simp only [eventOf, Option.some.injEq, Prod.mk.injEq, reduceCtorEq] at e <;> obtain ⟨-, rfl⟩ := e
  case savePageSent ok => exact absurd rfl (sent ok)
  case pageReadbackComplete data => exact absurd rfl (read data)
  all_goals
    dsimp only
    repeat' split
  all_goals simp

/-- The effect of an event leaves what only the outside writes, but for the EEPROM. -/
theorem outer_eventOf {i : Instr} {due : State → Bool} {effect : State → State} (e : eventOf i = some (due, effect)) (s : State) :
    (effect s).outer = ({ s with eeprom := (effect s).eeprom } : State).outer := by
  by_cases sent : ∃ ok, i = .savePageSent ok
  · obtain ⟨ok, rfl⟩ := sent
    cases e
    exact outer_pageSent ok s
  by_cases read : ∃ data, i = .pageReadbackComplete data
  · obtain ⟨data, rfl⟩ := read
    cases e
    dsimp only
    split
    · rfl
    · exact State.outer_of_eeprom (outer_pageRead s _ data)
  exact State.outer_of_eeprom (m := s.eeprom)
    (outer_eventOf_of_no_write e (fun ok eq => sent ⟨ok, eq⟩) (fun data eq => read ⟨data, eq⟩) s)

end Sys2Proof.Machine
end

section
/-! SUPPORT. The machine as a whole: the front command, the empty queue, the queue that no command touches, and the canonical
form of the EEPROM along every step (10.4, R184, R187; log entries 1, 2, 4 and 7). -/

namespace Sys2Proof.Machine

/-! ### One step -/

/-- Settles O1: a waiting command is the first case of a step. -/
theorem stepRunsFrontCommand : Obligations.StepRunsFrontCommand := by
  unfold Obligations.StepRunsFrontCommand
  intro c s
  rfl

theorem step_of_waiting {s : State} {i : Instr} {rest : List Instr} (waiting : s.pending = i :: rest) :
    step s = exec i { s with pending := rest } := by
  simp [step, waiting]

theorem step_of_due {s : State} {i : Instr} (empty : s.pending = []) (due : s.nextDue = some i) :
    step s = exec i s.afterChoice := by
  simp [step, empty, due]

theorem step_of_none_due {s : State} (empty : s.pending = []) (none : s.nextDue = none) : step s = .next s.tick := by
  simp [step, empty, none]

namespace State

theorem nextDue_of_none_ready {s : State} (none : s.ready = []) : s.nextDue = .none := by simp [nextDue, none]

/-- With steps ready, the free choice falls on one of them (log entry 2). -/
theorem nextDue_of_ready {s : State} (some : s.ready ≠ []) : ∃ i ∈ s.ready, s.nextDue = .some i := by
  have lt : s.freeChoice s.ready.length < s.ready.length := Nat.mod_lt _ (List.length_pos_iff.mpr some)
  exact ⟨_, List.getElem_mem lt, List.getElem?_eq_getElem lt⟩

theorem tick_eq (s : State) :
    s.tick = if s.stage = .held ∨ s.bundle.isSome then s else { s with clock := s.clock + 1 } := by
  simp [tick, timeStands]

/-- A choice among several steps uses up one free value. -/
theorem afterChoice_eq (s : State) :
    s.afterChoice = { s with freeIndex := s.freeIndex + if 1 < s.ready.length then 1 else 0 } := by
  unfold afterChoice
  split <;> rfl

end State

/-- Settles O2, by whether a step of the part is ready. -/
theorem emptyQueueStep : Obligations.EmptyQueueStep := by
  unfold Obligations.EmptyQueueStep
  intro s empty
  constructor
  · intro none
    rw [step_of_none_due empty (State.nextDue_of_none_ready none), State.tick_eq]
  · intro some
    obtain ⟨c, ready, due⟩ := State.nextDue_of_ready some
    refine ⟨c, if 1 < s.ready.length then 1 else 0, ready, ?_, ?_⟩
    · split <;> omega
    · rw [step_of_due empty due, State.afterChoice_eq]

/-! ### What every command keeps of the base -/

theorem base_finishEvent (s : State) : s.finishEvent.base = s.base := State.base_congr (by simp)

/-- What is checked and placed around an order's rule keeps the base where the rule does. -/
theorem base_takeWith {i : Instr} {h : Head} {check : State → Answer} (keeps : ∀ t, (check t).state.base = t.base) (s : State) :
    (takeWith i h check s).base = s.base :=
  takeWith_keeps State.base base_finishEvent (fun _ _ _ => rfl) (fun _ _ => rfl) keeps

theorem base_takeOrder (i : Instr) (h : Head) (s : State) :
    (takeOrder i h (orderForm i) (orderRule i) s).base = s.base :=
  base_takeWith (checkOrder_keeps State.base (base_orderRule i)) s

theorem base_unassignedAnswer (h : Head) (code : Byte) (s : State) : (unassignedAnswer h code s).state.base = s.base := by
  unfold unassignedAnswer checkGuard answer
  repeat' split
  all_goals rfl

theorem pending_takeEvent {i : Instr} {due : State → Bool} {effect : State → State} (e : eventOf i = some (due, effect))
    (s : State) : (takeEvent (due s) effect s).pending = s.pending := by
  have ends : ∀ t : State, t.finishEvent.pending = t.pending := fun t => congrArg (fun x => x.2.1) (base_finishEvent t)
  refine takeEvent_keeps State.pending ends ?_
  obtain ⟨-, -, -, -, -, pending, -⟩ := State.outer_eq_iff.mp (outer_eventOf e s)
  exact pending

/-- The commands that are neither orders nor events of RUNNING: start-up, transfers and the raw lines. -/
def isOutside : Instr → Bool
  | .startUp | .resetAssert | .imageLoad _ | .storeFormat _ | .storeScan | .requestStart .. | .frameError _ | .notReady _
  | .responseRead .. | .rawLineChange .. => true
  | _ => false

/-- Every command is an assigned order, an unassigned code, an event, or one of start-up, transfers and lines. -/
theorem command_cases (i : Instr) :
    (∃ h, assignedOrder i = true ∧ orderHead i = some h) ∨ (∃ h code, i = .unassignedCode h code)
      ∨ (∃ due effect, eventOf i = some (due, effect)) ∨ isOutside i = true := by
  cases i <;> simp [assignedOrder, orderHead, orderParts, eventOf, isOutside]

namespace State

variable (s : State)

@[simp] theorem kept_markRetired :
    s.markRetired.outer = s.outer ∧ s.markRetired.transfers = s.transfers ∧ s.markRetired.allow = s.allow ∧
    s.markRetired.works = s.works ∧ s.markRetired.channels = s.channels ∧ s.markRetired.rain = s.rain ∧
    s.markRetired.spill = s.spill ∧ s.markRetired.tanks = s.tanks ∧ s.markRetired.drains = s.drains ∧
    s.markRetired.leg = s.leg ∧ s.markRetired.save = s.save ∧ s.markRetired.media = s.media ∧
    s.markRetired.trigger = s.trigger := by
  refine ⟨?_, ?_, ?_, ?_, ?_, ?_, ?_, ?_, ?_, ?_, ?_, ?_, ?_⟩
  all_goals
    unfold markRetired
    refine foldl_keeps s _ (fun s b => s.setStatus b .retired) (fun _ _ => ?_) _
    simp

/-- The store stage begins in the stage STORE (R162). -/
@[simp] theorem outer_beginStore : s.beginStore.outer = ({ s with stage := .store } : State).outer := by simp [beginStore]

@[simp] theorem outer_loadSettings (w : Settings) : (s.loadSettings w).outer = s.outer := rfl

@[simp] theorem outer_imageRead (w : Option Settings) : (s.imageRead w).outer = s.outer := by
  unfold imageRead
  split <;> simp

theorem outer_lineChange (c : Fin 16) (high : Bool) :
    (s.lineChange c high).outer = ({ s with lines := (s.lineChange c high).lines } : State).outer := by
  unfold lineChange
  dsimp only
  repeat' split
  all_goals rfl

/-- What the stage alone tells from one another has the same waiting commands and EEPROM. -/
theorem pending_eeprom_of_stage {s u : State} {x : Stage} (same : u.outer = ({ s with stage := x } : State).outer) :
    u.pending = s.pending ∧ u.eeprom = s.eeprom := by
  obtain ⟨-, -, -, -, -, pending, eeprom⟩ := outer_eq_iff.mp same
  exact ⟨pending, eeprom⟩

theorem pending_eeprom_of_base {s u : State} (same : u.base = s.base) : u.pending = s.pending ∧ u.eeprom = s.eeprom := by
  simp only [base, Prod.mk.injEq] at same
  exact same.2

end State

/-- Start-up, transfers and the raw lines leave the waiting commands and the EEPROM. -/
theorem exec_outside_keeps {i : Instr} (out : isOutside i = true) {s t : State} (run : exec i s = .next t) :
    t.pending = s.pending ∧ t.eeprom = s.eeprom := by
  have entered : ∀ u : State, u.outer = s.outer → u.enterRunning.pending = s.pending ∧ u.enterRunning.eeprom = s.eeprom := by
    intro u same
    have base : u.pending = s.pending ∧ u.eeprom = s.eeprom := State.pending_eeprom_of_stage (x := s.stage) same
    obtain ⟨pending, eeprom⟩ := State.pending_eeprom_of_stage (u.kept_enterRunning).1
    exact ⟨pending.trans base.1, eeprom.trans base.2⟩
  cases i <;> simp only [isOutside, Bool.false_eq_true] at out
  case startUp =>
    cases run
    exact ⟨(restart_keeps s _).1, (restart_keeps s _).2.1⟩
  case resetAssert =>
    cases run
    exact ⟨(restart_keeps s _).1, (restart_keeps s _).2.1⟩
  case imageLoad =>
    cases run
    split
    · refine State.pending_eeprom_of_stage (x := .store) ?_
      rw [State.outer_beginStore]
      exact State.outer_eq_iff.mpr (by
        obtain ⟨-, rest⟩ := State.outer_eq_iff.mp (s.outer_imageRead _)
        exact ⟨rfl, rest⟩)
    · exact ⟨rfl, rfl⟩
  case storeFormat =>
    cases run
    split
    · exact entered _ (by simp)
    · exact ⟨rfl, rfl⟩
  case storeScan =>
    cases run
    split
    · exact entered _ (by simp)
    · exact ⟨rfl, rfl⟩
  case rawLineChange c high =>
    cases run
    split
    · exact ⟨rfl, rfl⟩
    · obtain ⟨-, -, -, -, -, pending, eeprom⟩ := State.outer_eq_iff.mp (s.outer_lineChange c high)
      exact ⟨pending, eeprom⟩
  all_goals
    cases run
    split <;> exact ⟨rfl, rfl⟩

/-- Settles O3, by the form of the command: checks around a rule, an effect when it is due, or a command outside both. -/
theorem queueUntouched : Obligations.QueueUntouched := by
  unfold Obligations.QueueUntouched
  intro i s t run
  obtain ⟨h, assigned, head⟩ | ⟨h, code, rfl⟩ | ⟨due, effect, event⟩ | out := command_cases i
  · rw [exec_order assigned head] at run
    cases run
    exact (State.pending_eeprom_of_base (base_takeOrder i h s)).1
  · cases run
    split
    · rfl
    · exact (State.pending_eeprom_of_base (base_takeWith (base_unassignedAnswer h code) s)).1
  · rw [exec_event event] at run
    cases run
    exact pending_takeEvent event s
  · exact (exec_outside_keeps out run).1

/-! ### The EEPROM (log entry 7) -/

theorem page_below (p : Fin 32) : 32 * p.val + 32 ≤ 4096 := by omega

theorem eepromCanonical_of_outer {s u : State} (same : u.outer = s.outer) (w : eepromCanonical s) : eepromCanonical u := by
  obtain ⟨-, -, -, -, -, -, eeprom⟩ := State.outer_eq_iff.mp same
  unfold eepromCanonical
  rwa [eeprom]

/-- The bytes free until a page's read-back lie in its page (R187). -/
theorem wf_scramblePage {s : State} (w : eepromCanonical s) (page : Fin 32) : eepromCanonical (s.scramblePage page) := by
  simp only [eepromCanonical, State.scramblePage]
  exact Memory.wf_writeAll w (by simpa using page_below page)

theorem wf_pageSent {s : State} (w : eepromCanonical s) (acknowledged : Bool) : eepromCanonical (pageSent acknowledged s) := by
  unfold pageSent
  dsimp only
  split
  · exact w
  · rename_i v _
    split
    · exact eepromCanonical_of_outer (by simp) (wf_scramblePage w v.page)
    · exact eepromCanonical_of_outer (by simp) (wf_scramblePage w v.page)

theorem wf_pageRead {s : State} (w : eepromCanonical s) (v : SaveRun) {data : List Byte} (page : data.length = 32) :
    eepromCanonical (s.pageRead v data) := by
  obtain ⟨-, -, -, -, -, -, eeprom⟩ := State.outer_eq_iff.mp (outer_pageRead s v data)
  unfold eepromCanonical
  rw [eeprom]
  exact Memory.wf_writeAll w (by rw [page]; exact page_below v.page)

/-- An event taken when it is due keeps the canonical form. -/
theorem wf_eventOf {i : Instr} {due : State → Bool} {effect : State → State} (e : eventOf i = some (due, effect)) {s : State}
    (now : due s = true) (w : eepromCanonical s) : eepromCanonical (effect s) := by
  by_cases sent : ∃ ok, i = .savePageSent ok
  · obtain ⟨ok, rfl⟩ := sent
    cases e
    exact wf_pageSent w ok
  by_cases read : ∃ data, i = .pageReadbackComplete data
  · obtain ⟨data, rfl⟩ := read
    cases e
    simp only [Bool.and_eq_true, decide_eq_true_eq] at now
    dsimp only
    split
    · exact w
    · exact wf_pageRead w _ now.2
  exact eepromCanonical_of_outer
    (outer_eventOf_of_no_write e (fun ok eq => sent ⟨ok, eq⟩) (fun data eq => read ⟨data, eq⟩) s) w

/-- Every command keeps the canonical form of the EEPROM. -/
theorem exec_keeps_eepromCanonical {i : Instr} {s t : State} (w : eepromCanonical s) (run : exec i s = .next t) :
    eepromCanonical t := by
  have of_eq : ∀ u : State, u.eeprom = s.eeprom → eepromCanonical u := by
    intro u same
    unfold eepromCanonical
    rwa [same]
  obtain ⟨h, assigned, head⟩ | ⟨h, code, rfl⟩ | ⟨due, effect, event⟩ | out := command_cases i
  · rw [exec_order assigned head] at run
    cases run
    exact of_eq _ (State.pending_eeprom_of_base (base_takeOrder i h s)).2
  · cases run
    split
    · exact w
    · exact of_eq _ (State.pending_eeprom_of_base (base_takeWith (base_unassignedAnswer h code) s)).2
  · rw [exec_event event] at run
    cases run
    unfold takeEvent
    split
    · rename_i taken
      unfold eepromCanonical
      rw [(State.pending_eeprom_of_base (base_finishEvent _)).2]
      exact wf_eventOf event taken.2.2 w
    · exact w
  · exact of_eq t (exec_outside_keeps out run).2

theorem eepromCanonical_tick {s : State} (w : eepromCanonical s) : eepromCanonical s.tick := by
  rw [State.tick_eq]
  split <;> exact w

/-- Settles O4: each command keeps the form, and so does the passing of time. -/
theorem eepromCanonicalKept : Obligations.EepromCanonicalKept := by
  unfold Obligations.EepromCanonicalKept
  intro s t w run
  unfold step at run
  split at run
  · rename_i i rest _
    have waiting : eepromCanonical { s with pending := rest } := w
    exact exec_keeps_eepromCanonical waiting run
  · split at run
    · rw [State.afterChoice_eq] at run
      have chosen : eepromCanonical { s with freeIndex := s.freeIndex + if 1 < s.ready.length then 1 else 0 } := w
      exact exec_keeps_eepromCanonical chosen run
    · cases run
      exact eepromCanonical_tick w

end Sys2Proof.Machine
end

section
/-! SUPPORT. The allowance unit along every command: A_eff is formed by the last event that touched what R75 forms it from, and
the schedule's active entry is one that PART holds (R60 to R76). -/

namespace Sys2Proof.Machine

/-! ### The invariant, said of the allowance unit and the WORKS settings alone -/

/-- The schedule part of the invariant: IDLE is the state without an active entry, PART holds the active one, and no entry links
to itself (R60, R64). -/
structure ScheduleSound (s : State) : Prop where
  idle : s.allow.sched = .idle ↔ s.allow.active = none
  posted : ∀ e, s.allow.active = some e → (s.entry e).byPart = true
  linked : ∀ e, (s.entry e).link ≠ some e

/-- The schedule is sound and A_eff is what R75 forms. -/
structure AllowanceSound (s : State) : Prop extends ScheduleSound s where
  formed : s.allow.aEff = s.formedAllowance

namespace State

variable {s u : State}

theorem entry_congr (allow : u.allow = s.allow) (e : Fin 8) : u.entry e = s.entry e := by simp [entry, allow]

/-- A_eff is formed from the allowance unit and the WORKS settings. -/
theorem formedAllowance_congr (allow : u.allow = s.allow) (works : u.works = s.works) :
    u.formedAllowance = s.formedAllowance := by
  simp [formedAllowance, entry, allow, works]

/-- With a sound schedule the model's form of A_eff is R75's. -/
theorem formedAllowance_eq (sound : ScheduleSound s) : s.formedAllowance = min (allowanceBase s) s.works.cLeg := by
  have idle := sound.idle
  unfold formedAllowance allowanceBase
  cases sched : s.allow.sched <;> cases active : s.allow.active <;> simp [sched, active] at idle ⊢

end State

theorem ScheduleSound.congr {s u : State} (sound : ScheduleSound s) (allow : u.allow = s.allow) : ScheduleSound u where
  idle := by rw [allow]; exact sound.idle
  posted e active := by
    rw [allow] at active
    rw [State.entry_congr allow]
    exact sound.posted e active
  linked e := by rw [State.entry_congr allow]; exact sound.linked e

theorem AllowanceSound.congr {s u : State} (sound : AllowanceSound s) (allow : u.allow = s.allow) (works : u.works = s.works) :
    AllowanceSound u where
  toScheduleSound := sound.toScheduleSound.congr allow
  formed := by rw [State.formedAllowance_congr allow works, allow]; exact sound.formed

theorem allowanceFormed_iff (s : State) : allowanceFormed s ↔ (s.stage = .running → AllowanceSound s) := by
  refine forall_congr' fun running => ⟨?_, ?_⟩
  · rintro ⟨formed, idle, posted, linked⟩
    have sound : ScheduleSound s := ⟨idle, posted, linked⟩
    exact { sound with formed := formed.trans (State.formedAllowance_eq sound).symm }
  · intro sound
    exact ⟨sound.formed.trans (State.formedAllowance_eq sound.toScheduleSound), sound.idle, sound.posted, sound.linked⟩

/-! ### Updates of the allowance unit -/

/-- Writing A_eff leaves the schedule. -/
theorem ScheduleSound.of_aEff {s u : State} {a : Nat} (sound : ScheduleSound s) (allow : u.allow = { s.allow with aEff := a }) :
    ScheduleSound u where
  idle := by rw [allow]; exact sound.idle
  posted e active := by
    rw [allow] at active
    simpa [State.entry, allow] using sound.posted e active
  linked e := by simpa [State.entry, allow] using sound.linked e

/-- What forms A_eff does not read A_eff. -/
theorem State.formedAllowance_of_aEff {s u : State} {a : Nat} (allow : u.allow = { s.allow with aEff := a })
    (works : u.works = s.works) : u.formedAllowance = s.formedAllowance := by
  simp [State.formedAllowance, State.entry, allow, works]

/-- After A_eff is formed over a sound schedule the whole is sound. -/
theorem AllowanceSound.of_formed {s u : State} (sound : ScheduleSound s)
    (allow : u.allow = { s.allow with aEff := s.formedAllowance }) (works : u.works = s.works) : AllowanceSound u where
  toScheduleSound := sound.of_aEff allow
  formed := by rw [State.formedAllowance_of_aEff allow works, allow]

theorem AllowanceSound.allowanceEvent {s : State} (sound : ScheduleSound s) (cause : AllowanceCause)
    (returned : Option (Fin 8)) : AllowanceSound (s.allowanceEvent cause returned) :=
  .of_formed sound (by simp) (by simp)

theorem AllowanceSound.formAllowance {s : State} (sound : ScheduleSound s) : AllowanceSound s.formAllowance :=
  .of_formed sound (by simp) (by simp)

/-- An update of one entry that keeps what the schedule reads of it. -/
theorem ScheduleSound.modEntry {s : State} (sound : ScheduleSound s) (e : Fin 8) (f : Entry → Entry)
    (posted : s.allow.active = some e → (f (s.entry e)).byPart = true) (linked : (f (s.entry e)).link ≠ some e) :
    ScheduleSound (s.modEntry e f) where
  idle := sound.idle
  posted k active := by
    by_cases eq : k = e
    · subst eq
      simpa using posted active
    · simpa [eq] using sound.posted k active
  linked k := by
    by_cases eq : k = e
    · subst eq
      simpa using linked
    · simpa [eq] using sound.linked k

/-- A_eff reads the rate of the active entry alone. -/
theorem State.formedAllowance_modEntry {s : State} (e : Fin 8) (f : Entry → Entry)
    (rate : s.allow.active = some e → (f (s.entry e)).rate = (s.entry e).rate) :
    (s.modEntry e f).formedAllowance = s.formedAllowance := by
  have read : ((s.modEntry e f).allow.active.map (fun k => ((s.modEntry e f).entry k).rate)) =
      s.allow.active.map (fun k => (s.entry k).rate) := by
    change s.allow.active.map _ = _
    cases active : s.allow.active with
    | none => rfl
    | some k =>
      by_cases eq : k = e
      · subst eq
        simp [rate active]
      · simp [eq]
  unfold State.formedAllowance
  rw [read]
  rfl

theorem AllowanceSound.modEntry {s : State} (sound : AllowanceSound s) (e : Fin 8) (f : Entry → Entry)
    (posted : s.allow.active = some e → (f (s.entry e)).byPart = true) (linked : (f (s.entry e)).link ≠ some e)
    (rate : s.allow.active = some e → (f (s.entry e)).rate = (s.entry e).rate) : AllowanceSound (s.modEntry e f) where
  toScheduleSound := sound.toScheduleSound.modEntry e f posted linked
  formed := by
    rw [State.formedAllowance_modEntry e f rate]
    exact sound.formed

/-- An update of the unit that keeps schedule state, active entry, entries and hold. -/
theorem AllowanceSound.modAllow {s : State} (sound : AllowanceSound s) (f : Allow → Allow)
    (sched : (f s.allow).sched = s.allow.sched) (active : (f s.allow).active = s.allow.active)
    (entries : (f s.allow).entries = s.allow.entries) (hold : (f s.allow).hold = s.allow.hold)
    (aEff : (f s.allow).aEff = s.allow.aEff) : AllowanceSound (s.modAllow f) where
  idle := by simpa [sched, active] using sound.idle
  posted e is := by
    simp only [State.modAllow_allow, active] at is
    simpa [State.entry, entries] using sound.posted e is
  linked e := by simpa [State.entry, entries] using sound.linked e
  formed := by
    simpa [State.formedAllowance, State.entry, sched, active, entries, hold, aEff] using sound.formed

/-- The schedule moves to a state and an active entry that PART holds. -/
theorem ScheduleSound.modAllow {s : State} (linked : ∀ e, (s.entry e).link ≠ some e) (f : Allow → Allow)
    (entries : (f s.allow).entries = s.allow.entries)
    (idle : (f s.allow).sched = .idle ↔ (f s.allow).active = none)
    (posted : ∀ e, (f s.allow).active = some e → (s.entry e).byPart = true) : ScheduleSound (s.modAllow f) where
  idle := idle
  posted e is := by simpa [State.entry, entries] using posted e is
  linked e := by simpa [State.entry, entries] using linked e

/-- Notices leave the unit. -/
theorem ScheduleSound.notify {s : State} (sound : ScheduleSound s) (k : Notice) (p : Port) : ScheduleSound (s.notify k p) :=
  sound.congr (by simp)

theorem AllowanceSound.notifyAll {s : State} (sound : AllowanceSound s) (k : Notice) (ps : List Port) :
    AllowanceSound (s.notifyAll k ps) := sound.congr (by simp) (by simp)

/-! ### The operations of the unit (R65 to R76) -/

section Operations

variable {s : State}

theorem AllowanceSound.renewLease (sound : AllowanceSound s) : AllowanceSound s.renewLease := by
  unfold State.renewLease
  split
  · exact sound.modAllow _ rfl rfl rfl rfl rfl
  · exact sound

theorem State.active_some_of_not_idle (sound : ScheduleSound s) (busy : s.allow.sched ≠ .idle) : ∃ e, s.allow.active = some e := by
  cases active : s.allow.active with
  | none => exact absurd (sound.idle.mpr active) busy
  | some e => exact ⟨e, rfl⟩

/-- An entry's successor is another entry, which PART holds. -/
theorem State.successor_posted (sound : ScheduleSound s) {e f : Fin 8} (next : s.successor e = some f) :
    f ≠ e ∧ (s.entry f).byPart = true := by
  obtain ⟨link, posted⟩ := Option.filter_eq_some_iff.mp next
  refine ⟨?_, posted⟩
  rintro rfl
  exact sound.linked f link

theorem AllowanceSound.advance (sound : ScheduleSound s) {e f : Fin 8} (other : f ≠ e) (posted : (s.entry f).byPart = true) :
    AllowanceSound (s.advance e f) := by
  have left : ∀ k, ((s.modEntry e (fun v => { v with byPart := false, status := .done })).entry k).link ≠ some k := by
    intro k
    by_cases eq : k = e
    · subst eq
      simpa using sound.linked k
    · simpa [eq] using sound.linked k
  have moved : ScheduleSound ((s.modEntry e (fun v => { v with byPart := false, status := .done })).modAllow
      (fun a => { a with active := some f, runSince := s.partTime, sched := .running })) := by
    refine .modAllow left _ rfl (by simp) (fun k is => ?_)
    obtain rfl := Option.some.inj is
    simpa [other] using posted
  exact .allowanceEvent (moved.notify _ _) _ _

theorem AllowanceSound.expireEntry (sound : ScheduleSound s) {e : Fin 8} (active : s.allow.active = some e) :
    AllowanceSound (s.expireEntry e) := by
  have written : ScheduleSound (s.modEntry e (fun v => { v with remaining := some 0 })) :=
    sound.modEntry e _ (fun _ => sound.posted e active) (sound.linked e)
  unfold State.expireEntry
  dsimp only
  split
  · rename_i f next
    obtain ⟨other, posted⟩ := State.successor_posted written next
    exact .advance written other posted
  · have overrun := written.modEntry e (fun v => { v with status := .overrun })
      (fun _ => written.posted e active) (written.linked e)
    have busy : (s.allow.active : Option (Fin 8)) ≠ none := by simp [active]
    have stalled := ScheduleSound.modAllow overrun.linked (fun a => { a with sched := .stalled }) rfl
      ⟨fun h => (nomatch h), fun none => absurd none busy⟩ overrun.posted
    exact .allowanceEvent (stalled.notify _ _) _ _

theorem AllowanceSound.startSchedule (sound : ScheduleSound s) {e : Fin 8} (posted : (s.entry e).byPart = true) :
    AllowanceSound (s.startSchedule e) := by
  unfold State.startSchedule
  refine .allowanceEvent (.modAllow sound.linked _ rfl (by simp) ?_) _ _
  intro k is
  obtain rfl := Option.some.inj is
  exact posted

theorem AllowanceSound.resumeSchedule (sound : ScheduleSound s) (lapsed : s.allow.sched = .lapsed) :
    AllowanceSound s.resumeSchedule := by
  obtain ⟨e, active⟩ := State.active_some_of_not_idle sound (by simp [lapsed])
  have resumed : ∀ x : Schedule, x ≠ .idle → AllowanceSound ((s.modAllow (fun a =>
      { a with sched := x, runSince := s.partTime, lease := some s.partTime })).allowanceEvent .resume none) := by
    intro x busy
    refine .allowanceEvent (.modAllow sound.linked _ rfl ?_ sound.posted) _ _
    simp [busy, active]
  unfold State.resumeSchedule
  dsimp only
  generalize mode : (if s.allow.active.any (fun e => decide ((s.entry e).status = .overrun)) = true then Schedule.stalled
    else .running) = x
  have sounds := resumed x (by subst mode; split <;> simp)
  split
  · rename_i k due
    unfold State.expiryDue at due
    split at due
    · exact .expireEntry sounds.toScheduleSound (Option.filter_eq_some_iff.mp due).1
    · cases due
  · exact sounds

theorem ScheduleSound.freezeActive (sound : ScheduleSound s) : ScheduleSound s.freezeActive := by
  unfold State.freezeActive
  split
  · exact sound
  · rename_i e active
    exact sound.modEntry e _ (fun _ => sound.posted e active) (sound.linked e)

theorem State.freezeActive_schedule (s : State) :
    s.freezeActive.allow.sched = s.allow.sched ∧ s.freezeActive.allow.active = s.allow.active
      ∧ s.freezeActive.allow.hold = s.allow.hold ∧ s.freezeActive.allow.aEff = s.allow.aEff
      ∧ s.freezeActive.allow.runSince = s.allow.runSince := by
  unfold State.freezeActive
  split <;> exact ⟨rfl, rfl, rfl, rfl, rfl⟩

theorem AllowanceSound.lapseLease (sound : ScheduleSound s) (busy : s.allow.sched ≠ .idle) : AllowanceSound s.lapseLease := by
  obtain ⟨e, active⟩ := State.active_some_of_not_idle sound busy
  have frozen := sound.freezeActive
  have same : s.freezeActive.allow.active = some e := (State.freezeActive_schedule s).2.1.trans active
  unfold State.lapseLease
  have lapsed := ScheduleSound.modAllow frozen.linked (fun a => { a with sched := .lapsed, lease := none }) rfl
    (by simp [same]) frozen.posted
  exact (AllowanceSound.allowanceEvent lapsed .lapse none).notifyAll _ _

/-- Entries that return keep their links. -/
theorem State.linked_foldl (f : State → Fin 8 → State) (es : List (Fin 8))
    (keeps : ∀ u e k, ((f u e).entry k).link = (u.entry k).link) (u : State) (k : Fin 8) :
    ((es.foldl f u).entry k).link = (u.entry k).link := by
  induction es generalizing u with
  | nil => rfl
  | cons e es ih => exact (ih _).trans (keeps u e k)

theorem AllowanceSound.stopSchedule (sound : ScheduleSound s) : AllowanceSound s.stopSchedule := by
  have frozen := sound.freezeActive
  unfold State.stopSchedule
  dsimp only
  generalize (List.finRange 8).filter (fun e => (s.entry e).byPart) = posted
  have idle : ScheduleSound ((posted.foldl (fun u e => u.modEntry e (fun v =>
      { v with byPart := false, status := if s.allow.active = some e then .cut else .abandoned })) s.freezeActive).modAllow
        (fun a => { a with active := none, sched := .idle, lease := none })) := by
    refine .modAllow (fun k => ?_) _ rfl (by simp) (fun k is => nomatch is)
    rw [State.linked_foldl]
    · exact frozen.linked k
    · intro u e j
      by_cases eq : j = e <;> simp [eq]
  split
  · exact .formAllowance idle
  · exact .allowanceEvent idle _ _

/-- The schedule does not read the hold. -/
theorem ScheduleSound.hold (sound : ScheduleSound s) (x : Option Nat) : ScheduleSound (s.modAllow (fun a => { a with hold := x })) :=
  .modAllow sound.linked _ rfl sound.idle sound.posted

theorem AllowanceSound.startHold (sound : ScheduleSound s) (minutes : Nat) : AllowanceSound (s.startHold minutes) := by
  have held := sound.hold (some (s.partTime + 60 * minutes))
  unfold State.startHold
  dsimp only
  split
  · exact .allowanceEvent held _ _
  · exact (AllowanceSound.allowanceEvent held _ _).notifyAll _ _

theorem AllowanceSound.endHold (sound : ScheduleSound s) (cause : AllowanceCause) : AllowanceSound (s.endHold cause) :=
  (AllowanceSound.allowanceEvent (sound.hold none) _ _).notifyAll _ _

theorem AllowanceSound.applyWorksSet (sound : ScheduleSound s) (v : WorksSettings) : AllowanceSound (s.applyWorksSet v) := by
  have set : ScheduleSound ({ s with works := v } : State) := sound.congr rfl
  unfold State.applyWorksSet
  extract_lets old set' limited
  have sound : AllowanceSound limited := by
    unfold limited
    split
    · rename_i same
      exact { set with formed := same.symm }
    · exact .allowanceEvent set _ _
  split
  · rename_i lapses
    simp only [Bool.and_eq_true, State.lapseDue, Bool.or_eq_true, decide_eq_true_eq] at lapses
    refine .lapseLease sound.toScheduleSound ?_
    rcases lapses.2.1 with sched | sched <;> simp [sched]
  · exact sound

end Operations

/-! ### The orders of the WORKS port -/

section WorksOrders

variable {s : State}

theorem AllowanceSound.entryWrite (sound : AllowanceSound s) (x : Byte) (rate duration : Word) (link : Byte) :
    AllowanceSound (entryWriteAnswer x rate duration link s).state := by
  unfold entryWriteAnswer
  split
  · exact sound
  · rename_i e _
    split
    · exact sound
    · rename_i own
      have inactive : s.allow.active ≠ some e := fun active => own (sound.posted e active)
      split
      · exact sound
      · split
        · exact sound
        · rename_i other
          dsimp only [doneOr, answer]
          refine .modEntry sound e _ ?_ ?_ ?_
          · exact fun active => absurd active inactive
          · exact other
          · exact fun active => absurd active inactive

theorem AllowanceSound.entryPost (sound : AllowanceSound s) (x : Byte) : AllowanceSound (entryPostAnswer x s).state := by
  have renewed := sound.renewLease
  unfold entryPostAnswer
  dsimp only
  split
  · exact renewed
  · rename_i e _
    split
    · exact renewed
    · dsimp only [answer]
      refine .modEntry renewed e _ ?_ ?_ ?_
      · exact fun _ => rfl
      · exact renewed.linked e
      · exact fun _ => rfl

theorem AllowanceSound.entryRecall (sound : AllowanceSound s) (x : Byte) : AllowanceSound (entryRecallAnswer x s).state := by
  unfold entryRecallAnswer
  split
  · exact sound
  · rename_i e _
    repeat' split
    · exact sound
    · exact sound
    · rename_i inactive
      dsimp only [answer]
      refine .modEntry sound e _ ?_ ?_ ?_
      · exact fun active => absurd active inactive
      · exact sound.linked e
      · exact fun _ => rfl

theorem AllowanceSound.kickOn (sound : AllowanceSound s) (e : Fin 8) : AllowanceSound (kickOn s e).state := by
  unfold Machine.kickOn
  split
  · rename_i f next
    obtain ⟨other, posted⟩ := State.successor_posted sound.toScheduleSound next
    exact .advance sound.toScheduleSound other posted
  · exact sound

theorem AllowanceSound.scheduleKick (sound : AllowanceSound s) (x : Byte) : AllowanceSound (scheduleKickAnswer x s).state := by
  have renewed := sound.renewLease
  unfold scheduleKickAnswer
  dsimp only
  split
  · exact renewed
  · rename_i o _
    unfold kickAnswer
    split
    · split
      · rename_i e named
        exact .startSchedule renewed.toScheduleSound (Option.filter_eq_some_iff.mp named).2
      · exact renewed
    · split
      · exact renewed
      · exact renewed.kickOn _
    · exact renewed.kickOn _
    · rename_i lapsed
      exact .resumeSchedule renewed.toScheduleSound lapsed
    · exact renewed

/-- Every order of the WORKS port keeps the allowance unit sound. -/
theorem AllowanceSound.orderRule (sound : AllowanceSound s) (i : Instr) : AllowanceSound (orderRule i s).state := by
  by_cases works : orderPorts i = [.works]
  · cases i <;> simp only [orderPorts, reduceCtorEq, List.cons.injEq, false_and] at works
    case entryWrite => exact sound.entryWrite ..
    case entryPost => exact sound.entryPost ..
    case entryRecall => exact sound.entryRecall ..
    case scheduleKick => exact sound.scheduleKick ..
    case scheduleStop => exact .stopSchedule sound.toScheduleSound
    case hold => exact .startHold sound.renewLease.toScheduleSound _
    case release =>
      change AllowanceSound (releaseAnswer s).state
      unfold releaseAnswer
      dsimp only
      split
      · exact .endHold sound.renewLease.toScheduleSound _
      · exact sound.renewLease
    case leaseRenew =>
      change AllowanceSound (leaseRenewAnswer s).state
      unfold leaseRenewAnswer
      split
      · exact sound
      · exact sound
      · exact sound.renewLease
    case worksSet h v =>
      obtain ⟨-, allow, works⟩ := kept_marking s (worksSetAnswer v)
      refine AllowanceSound.congr (s := (worksSetAnswer v s).state) ?_ allow works
      unfold worksSetAnswer
      repeat' split
      · exact sound
      · exact sound
      · exact (AllowanceSound.applyWorksSet sound.toScheduleSound (clampWorks (worksSent v))).congr (by simp) (by simp)
    all_goals
      unfold Machine.orderRule
      exact sound.congr (by simp) (by simp)
  · obtain ⟨allow, works⟩ := allow_orderRule works s
    exact sound.congr allow works

end WorksOrders

/-! ### Every command -/

/-- What the checks, an order's rule and the placing of its answer each keep, the order keeps (R170, R172). -/
theorem takeWith_preserves {i : Instr} {h : Head} {check : State → Answer} {P : State → Prop}
    (ends : ∀ t : State, P t → P t.finishEvent) (port : ∀ (t : State) p f, P t → P (t.modPort p f))
    (bundle : ∀ (t : State) x, P t → P { t with bundle := x }) (keeps : ∀ t, P t → P (check t).state) {s : State} (holds : P s) :
    P (takeWith i h check s) := by
  unfold takeWith respondShort respond
  split
  · split
    · exact port _ _ _ holds
    · exact holds
  · split
    · exact holds
    · split
      · exact holds
      · rename_i b _
        have checked := keeps _ (bundle s (some b) holds)
        unfold placeAnswer
        dsimp only
        split
        · exact bundle _ _ checked
        · exact port _ _ _ (ends _ (bundle _ _ checked))

theorem checkOrder_preserves {h : Head} {f : OrderForm} {body : State → Answer} {P : State → Prop}
    (keeps : ∀ t, P t → P (body t).state) (t : State) (holds : P t) : P (checkOrder t h f body).state := by
  unfold checkOrder checkGuard answer
  repeat' split
  all_goals first
    | exact holds
    | exact keeps t holds

theorem AllowanceSound.takeWith {i : Instr} {h : Head} {check : State → Answer} {s : State}
    (keeps : ∀ t, AllowanceSound t → AllowanceSound (check t).state) (sound : AllowanceSound s) :
    AllowanceSound (takeWith i h check s) :=
  takeWith_preserves (fun _ sound => sound.congr (by simp) (by simp)) (fun _ _ _ sound => sound.congr rfl rfl)
    (fun _ _ sound => sound.congr rfl rfl) keeps sound

theorem AllowanceSound.unassignedAnswer {s : State} (sound : AllowanceSound s) (h : Head) (code : Byte) :
    AllowanceSound (unassignedAnswer h code s).state := by
  unfold Machine.unassignedAnswer checkGuard answer
  repeat' split
  all_goals exact sound

/-- The timers of the unit are three; every other event leaves it (R66, R71, R74). -/
theorem allow_eventOf {i : Instr} {due : State → Bool} {effect : State → State} (e : eventOf i = some (due, effect))
    (other : i ≠ .entryExpiry ∧ i ≠ .leaseLapse ∧ i ≠ .holdExpiry) (s : State) :
    (effect s).allow = s.allow ∧ (effect s).works = s.works := by
  obtain ⟨entry, lapse, hold⟩ := other
  cases i <;> simp only [eventOf, Option.some.injEq, Prod.mk.injEq, reduceCtorEq] at e <;> obtain ⟨-, rfl⟩ := e
  case entryExpiry => exact absurd rfl entry
  case leaseLapse => exact absurd rfl lapse
  case holdExpiry => exact absurd rfl hold
  all_goals
    simp only [pageSent, State.scramblePage, State.pageRead]
    repeat' split
  all_goals simp

theorem State.active_of_expiryDue {s : State} {e : Fin 8} (due : s.expiryDue = some e) :
    s.allow.sched = .running ∧ s.allow.active = some e ∧ s.remainingNow e = some 0 := by
  unfold State.expiryDue at due
  split at due
  · rename_i running
    obtain ⟨active, zero⟩ := Option.filter_eq_some_iff.mp due
    exact ⟨running, active, by simpa using zero⟩
  · cases due

theorem AllowanceSound.eventOf {i : Instr} {due : State → Bool} {effect : State → State}
    (e : eventOf i = some (due, effect)) {s : State} (now : due s = true) (sound : AllowanceSound s) :
    AllowanceSound (effect s) := by
  by_cases entry : i = .entryExpiry
  · subst entry
    cases e
    dsimp only
    split
    · rename_i k expired
      exact .expireEntry sound.toScheduleSound (State.active_of_expiryDue expired).2.1
    · exact sound
  by_cases lapse : i = .leaseLapse
  · subst lapse
    cases e
    simp only [State.lapseDue, Bool.and_eq_true, Bool.or_eq_true, decide_eq_true_eq] at now
    refine .lapseLease sound.toScheduleSound ?_
    rcases now.1 with sched | sched <;> simp [sched]
  by_cases hold : i = .holdExpiry
  · subst hold
    cases e
    exact .endHold sound.toScheduleSound _
  obtain ⟨allow, works⟩ := allow_eventOf e ⟨entry, lapse, hold⟩ s
  exact sound.congr allow works

/-- The unit as start-up leaves it: IDLE with no active entry, A_eff at F within C_leg (R191). -/
theorem AllowanceSound.of_idleAllow {s : State} (allow : s.allow = idleAllow (min s.works.fallback s.works.cLeg)) :
    AllowanceSound s where
  idle := by simp [allow, idleAllow]
  posted e active := by simp [allow, idleAllow] at active
  linked e := by simp [State.entry, allow, idleAllow, freshEntry, Vector.get_eq_getElem]
  formed := by simp [State.formedAllowance, allow, idleAllow]

/-- Every command keeps the unit sound in RUNNING. -/
theorem exec_keeps_allowanceFormed {i : Instr} {s t : State} (formed : s.stage = .running → AllowanceSound s)
    (run : exec i s = .next t) (running : t.stage = .running) : AllowanceSound t := by
  obtain ⟨h, assigned, head⟩ | ⟨h, code, rfl⟩ | ⟨due, effect, event⟩ | out := command_cases i
  · rw [exec_order assigned head] at run
    cases run
    have stage : _ = s.stage := congrArg Prod.fst (base_takeOrder i h s)
    exact (formed (stage.symm.trans running)).takeWith
      (checkOrder_preserves (fun _ sound => sound.orderRule i))
  · cases run
    split at running
    · rename_i assigned
      rw [if_pos assigned]
      exact formed running
    · rename_i free
      rw [if_neg free]
      have stage : _ = s.stage := congrArg Prod.fst
        (base_takeWith (i := .unassignedCode h code) (h := h) (base_unassignedAnswer h code) s)
      exact (formed (stage.symm.trans running)).takeWith (fun _ sound => sound.unassignedAnswer h code)
  · rw [exec_event event] at run
    cases run
    unfold takeEvent at running ⊢
    split
    · rename_i taken
      exact ((formed taken.1).eventOf event taken.2.2).congr (by simp) (by simp)
    · rename_i stays
      rw [if_neg stays] at running
      exact formed running
  · cases i <;> simp only [isOutside, Bool.false_eq_true] at out
    case startUp => cases run; cases running
    case resetAssert => cases run; cases running
    case imageLoad ok =>
      cases run
      split
      · rename_i loading
        rw [if_pos loading] at running
        have stage := (State.outer_eq_iff.mp (State.outer_beginStore
          (s.imageRead (if ok = true then parseImage (Memory.readAll s.eeprom 0 1024) else none)))).1
        rw [running] at stage
        cases stage
      · rename_i other
        rw [if_neg other] at running
        exact formed running
    case storeFormat fails =>
      cases run
      split
      · refine .of_idleAllow ?_
        simp
      · rename_i other
        rw [if_neg other] at running
        exact formed running
    case storeScan =>
      cases run
      split
      · refine .of_idleAllow ?_
        simp
      · rename_i other
        rw [if_neg other] at running
        exact formed running
    case rawLineChange c high =>
      cases run
      split
      · rename_i busy
        rw [if_pos busy] at running
        exact formed running
      · rename_i free
        rw [if_neg free] at running
        have stage : (s.lineChange c high).stage = s.stage := (State.outer_eq_iff.mp (s.outer_lineChange c high)).1
        refine (formed (stage.symm.trans running)).congr ?_ ?_
        all_goals
          unfold State.lineChange
          dsimp only
          repeat' split
        all_goals rfl
    all_goals
      cases run
      split
      · rename_i taken
        rw [if_pos taken] at running
        exact (formed running).congr rfl rfl
      · rename_i other
        rw [if_neg other] at running
        exact formed running

/-- Settles O5: each command keeps the unit sound, and the passing of time leaves it. -/
theorem allowanceFormedKept : Obligations.AllowanceFormedKept := by
  unfold Obligations.AllowanceFormedKept
  intro s t formed run
  rw [allowanceFormed_iff] at formed ⊢
  intro running
  unfold step at run
  split at run
  · rename_i i rest _
    have waiting : s.stage = .running → AllowanceSound { s with pending := rest } := fun r => (formed r).congr rfl rfl
    exact exec_keeps_allowanceFormed waiting run running
  · split at run
    · rw [State.afterChoice_eq] at run
      have chosen : s.stage = .running →
          AllowanceSound { s with freeIndex := s.freeIndex + if 1 < s.ready.length then 1 else 0 } :=
        fun r => (formed r).congr rfl rfl
      exact exec_keeps_allowanceFormed chosen run running
    · cases run
      rw [State.tick_eq] at running ⊢
      split at running
      · rename_i stands
        rw [if_pos stands]
        exact formed running
      · rename_i runs
        rw [if_neg runs]
        exact (formed running).congr rfl rfl

/-- Settles O6: the empty list of cells is canonical, and the part is not in RUNNING yet. -/
theorem invariantsAtReset : Obligations.InvariantsAtReset := by
  unfold Obligations.InvariantsAtReset
  exact ⟨wf_reset, (allowanceFormed_iff _).mpr (fun running => nomatch running)⟩

end Sys2Proof.Machine
end

section
/-! SUPPORT. Fields in lists of bytes: their lengths, what a field of a concatenation is, and that a number written most
significant byte first is read back (R194, R195, 11.2.1). -/

namespace Sys2Proof

/-! ### Lengths -/

@[simp] theorem length_beBytes (n v : Nat) : (beBytes n v).length = n := by
  induction n generalizing v with
  | zero => rfl
  | succ n ih => simp [beBytes, ih]

@[simp] theorem length_responseBytes (n v : Nat) : (responseBytes n v).length = n := by
  unfold responseBytes
  split <;> simp

@[simp] theorem length_cappedBytes (n v : Nat) : (cappedBytes n v).length = n := by simp [cappedBytes]

@[simp] theorem length_absentBytes (n : Nat) (o : Option Nat) : (absentBytes n o).length = n := by
  cases o <;> simp [absentBytes]

@[simp] theorem length_wordBytes (w : Word) : (Machine.wordBytes w).length = 2 := by simp [Machine.wordBytes]

@[simp] theorem length_longBytes (w : Long) : (Machine.longBytes w).length = 4 := by simp [Machine.longBytes]

/-! ### Bytes and fields of a concatenation -/

section Append

variable {a b : List Byte} {i n : Nat}

theorem byteAt_append_of_lt (lt : i < a.length) : byteAt (a ++ b) i = byteAt a i := by
  simp [byteAt, List.getD_eq_getElem?_getD, List.getElem?_append_left lt]

theorem byteAt_append_of_le (le : a.length ≤ i) : byteAt (a ++ b) i = byteAt b (i - a.length) := by
  simp [byteAt, List.getD_eq_getElem?_getD, List.getElem?_append_right le]

theorem byteAt_of_length_le (le : a.length ≤ i) : byteAt a i = 0 := by
  simp [byteAt, List.getD_eq_getElem?_getD, List.getElem?_eq_none le]

theorem fieldAt_append_of_add_le (le : i + n ≤ a.length) : fieldAt (a ++ b) i n = fieldAt a i n := by
  induction n with
  | zero => rfl
  | succ n ih => rw [fieldAt, fieldAt, ih (by omega), byteAt_append_of_lt (by omega)]

theorem fieldAt_append_of_le (le : a.length ≤ i) : fieldAt (a ++ b) i n = fieldAt b (i - a.length) n := by
  induction n with
  | zero => rfl
  | succ n ih =>
    rw [fieldAt, fieldAt, ih, byteAt_append_of_le (by omega), show i + n - a.length = i - a.length + n by omega]

theorem fieldAt_one (bs : List Byte) (i : Nat) : fieldAt bs i 1 = byteAt bs i := by simp [fieldAt]

theorem fieldAt_cons_add_one (x : Byte) (bs : List Byte) (i n : Nat) : fieldAt (x :: bs) (i + 1) n = fieldAt bs i n := by
  simpa using fieldAt_append_of_le (a := [x]) (b := bs) (i := i + 1) (n := n) (by simp)

theorem fieldAt_cons_zero (x : Byte) (bs : List Byte) (n : Nat) :
    fieldAt (x :: bs) 0 (n + 1) = x.toNat * 256 ^ n + fieldAt bs 0 n := by
  induction n with
  | zero => simp [fieldAt, byteAt]
  | succ n ih =>
    have next : byteAt (x :: bs) (0 + (n + 1)) = byteAt bs (0 + n) := by simp [byteAt]
    rw [fieldAt, ih, next, fieldAt]
    ring

theorem fieldAt_lt (bs : List Byte) (i n : Nat) : fieldAt bs i n < 256 ^ n := by
  induction n with
  | zero => simp [fieldAt]
  | succ n ih =>
    have byte : byteAt bs (i + n) < 256 := (bs.getD (i + n) 0#8).isLt
    simp only [fieldAt, pow_succ]
    omega

end Append

/-! ### A field written is read back -/

/-- The n bytes of a number read as the number, as far as n bytes carry it. -/
theorem fieldAt_beBytes (n v : Nat) : fieldAt (beBytes n v) 0 n = v % 256 ^ n := by
  induction n with
  | zero => simp [fieldAt, Nat.mod_one]
  | succ n ih =>
    have split : v % 256 ^ (n + 1) = v % 256 ^ n + 256 ^ n * (v / 256 ^ n % 256) := by
      rw [pow_succ, Nat.mod_mul]
    rw [beBytes, fieldAt_cons_zero, ih, split]
    simp only [BitVec.toNat_ofNat, Nat.reducePow]
    ring

/-- A number within the field is read back whole. -/
theorem fieldAt_responseBytes {n v : Nat} (le : v ≤ fieldMax n) : fieldAt (responseBytes n v) 0 n = v := by
  have lt : v < 256 ^ n := by
    have := Nat.pow_pos (n := n) (show 0 < 256 by decide)
    unfold fieldMax at le
    omega
  rw [responseBytes, if_pos le, fieldAt_beBytes, Nat.mod_eq_of_lt lt]

theorem fieldAt_absentBytes_some {n v : Nat} (le : v ≤ fieldMax n) : fieldAt (absentBytes n (some v)) 0 n = v :=
  fieldAt_responseBytes le

/-- An absent field reads all ones. -/
theorem fieldAt_absentBytes_none (n : Nat) : fieldAt (absentBytes n none) 0 n = fieldMax n := by
  have ones : ∀ m, fieldAt (List.replicate m 255#8) 0 m = 256 ^ m - 1 := by
    intro m
    induction m with
    | zero => rfl
    | succ m ih =>
      have := Nat.pow_pos (n := m) (show 0 < 256 by decide)
      rw [List.replicate_succ, fieldAt_cons_zero, ih, pow_succ]
      simp only [BitVec.toNat_ofNat, Nat.reducePow]
      omega
  exact ones n

theorem fieldAt_wordBytes (w : Word) : fieldAt (Machine.wordBytes w) 0 2 = w.toNat := by
  rw [Machine.wordBytes, fieldAt_beBytes]
  exact Nat.mod_eq_of_lt w.isLt

theorem fieldAt_longBytes (w : Long) : fieldAt (Machine.longBytes w) 0 4 = w.toNat := by
  rw [Machine.longBytes, fieldAt_beBytes]
  exact Nat.mod_eq_of_lt w.isLt

/-- A list brought to n bytes keeps its fields that lie within n. -/
theorem byteAt_padTo {n i : Nat} {bs : List Byte} (lt : i < n) : byteAt (padTo n bs) i = byteAt bs i := by
  have padded : ∀ k, byteAt (bs ++ List.replicate k 0#8) i = byteAt bs i := by
    intro k
    by_cases inside : i < bs.length
    · exact byteAt_append_of_lt inside
    · have beyond : byteAt bs i = 0 := byteAt_of_length_le (by omega)
      rw [byteAt_append_of_le (by omega), beyond]
      simp only [byteAt, List.getD_eq_getElem?_getD, List.getElem?_replicate]
      split <;> rfl
  rw [← padded (n - bs.length)]
  simp [padTo, byteAt, List.getD_eq_getElem?_getD, lt]

theorem fieldAt_padTo {n i k : Nat} {bs : List Byte} (le : i + k ≤ n) : fieldAt (padTo n bs) i k = fieldAt bs i k := by
  induction k with
  | zero => rfl
  | succ k ih => rw [fieldAt, fieldAt, ih (by omega), byteAt_padTo (by omega)]

namespace Machine

/-! ### The reading functions of the operands -/

theorem wordAt_of_fieldAt {bs : List Byte} {i : Nat} {w : Word} (field : fieldAt bs i 2 = w.toNat) : wordAt bs i = w := by
  simp [wordAt, field]

theorem toNat_wordAt (bs : List Byte) (i : Nat) : (wordAt bs i).toNat = fieldAt bs i 2 := by
  rw [wordAt, BitVec.toNat_ofNat]
  exact Nat.mod_eq_of_lt (fieldAt_lt bs i 2)

theorem toNat_fieldByte (bs : List Byte) (i : Nat) : (fieldByte bs i).toNat = byteAt bs i := rfl

end Machine

theorem longAt_of_fieldAt {bs : List Byte} {i : Nat} {w : Long} (field : fieldAt bs i 4 = w.toNat) : longAt bs i = w := by
  simp [longAt, field]

end Sys2Proof
end

section
/-! SUPPORT. The bytes of an order split back into the order: the operand bytes of each code are as long as the table says, and
each operand is read where it was written (11.1, 11.2, R169, R194). -/

namespace Sys2Proof.Machine

/-! ### Groups of operands -/

@[simp] theorem wordAt_wordBytes (w : Word) : wordAt (wordBytes w) 0 = w := wordAt_of_fieldAt (fieldAt_wordBytes w)

@[simp] theorem longAt_longBytes (w : Long) : longAt (longBytes w) 0 = w := longAt_of_fieldAt (fieldAt_longBytes w)

theorem readWorks_worksBytes (v : WorksOperands) : readWorks (worksBytes v) 0 = v := by
  cases v
  simp only [readWorks, WorksOperands.mk.injEq]
  exact ⟨wordAt_wordBytes _, wordAt_wordBytes _, rfl, wordAt_wordBytes _, wordAt_wordBytes _, rfl, rfl, rfl, rfl,
    wordAt_wordBytes _⟩

theorem readTank_tankBytes (x : Byte) (v : TankOperands) : readTank ([x] ++ tankBytes v) 1 = v := by
  cases v
  simp only [readTank, TankOperands.mk.injEq]
  exact ⟨rfl, rfl, wordAt_wordBytes _, rfl, wordAt_wordBytes _, rfl, rfl, wordAt_wordBytes _, wordAt_wordBytes _,
    wordAt_wordBytes _⟩

theorem readBind_bindBytes (x y : Byte) (v : BindOperands) : readBind ([x, y] ++ bindBytes v) 2 = v := by
  cases v
  simp only [readBind, BindOperands.mk.injEq]
  exact ⟨rfl, rfl, rfl, rfl, wordAt_wordBytes _⟩

theorem readSpill_spillBytes (v : SpillOperands) : readSpill (spillBytes v) 0 = v := by
  cases v
  simp only [readSpill, SpillOperands.mk.injEq]
  exact ⟨rfl, rfl, wordAt_wordBytes _, wordAt_wordBytes _, wordAt_wordBytes _, rfl, rfl⟩

theorem readGaugeBind_gaugeBindBytes (x : Byte) (v : GaugeBindOperands) :
    readGaugeBind ([x] ++ gaugeBindBytes v) 1 = v := by
  cases v
  simp only [readGaugeBind, GaugeBindOperands.mk.injEq]
  exact ⟨rfl, rfl, rfl, wordAt_wordBytes _⟩

/-- The four bytes of a point slot (11.2). -/
def pointBytes (q : PointOperand) : List Byte := wordBytes q.level ++ wordBytes q.volume

/-- A point's level and volume stand in its slot. -/
theorem fieldAt_points (l : List PointOperand) (rest : List Byte) (k : Nat) (lt : k < l.length) :
    fieldAt (l.flatMap pointBytes ++ rest) (4 * k) 2 = l[k].level.toNat
      ∧ fieldAt (l.flatMap pointBytes ++ rest) (4 * k + 2) 2 = l[k].volume.toNat := by
  have slot : ∀ q : PointOperand, (pointBytes q).length = 4 := fun q => by simp [pointBytes]
  induction l generalizing k with
  | nil => simp at lt
  | cons q l ih =>
    simp only [List.flatMap_cons, List.append_assoc]
    cases k with
    | zero =>
      rw [fieldAt_append_of_add_le (by simp [slot]), fieldAt_append_of_add_le (by simp [slot])]
      refine ⟨fieldAt_append_of_add_le (by simp) |>.trans (fieldAt_wordBytes _), ?_⟩
      exact (fieldAt_append_of_le (by simp)).trans (by simpa using fieldAt_wordBytes q.volume)
    | succ k =>
      simp only [List.length_cons, Nat.add_lt_add_iff_right] at lt
      obtain ⟨level, volume⟩ := ih k lt
      have shift : ∀ d, fieldAt (pointBytes q ++ (l.flatMap pointBytes ++ rest)) (4 * (k + 1) + d) 2 =
          fieldAt (l.flatMap pointBytes ++ rest) (4 * k + d) 2 := by
        intro d
        rw [fieldAt_append_of_le (by rw [slot]; omega), slot, show 4 * (k + 1) + d - 4 = 4 * k + d by omega]
      exact ⟨(shift 0).trans level, (shift 2).trans volume⟩

theorem readShape_shapeBytes (x : Byte) (v : ShapeOperands) : readShape ([x] ++ shapeBytes v) 1 = v := by
  obtain ⟨count, points⟩ := v
  have operands : [x] ++ shapeBytes ⟨count, points⟩ = x :: count :: (points.toList.flatMap pointBytes ++ []) := by
    rw [List.append_nil]
    rfl
  simp only [readShape, ShapeOperands.mk.injEq]
  refine ⟨rfl, Vector.ext fun k lt => ?_⟩
  obtain ⟨level, volume⟩ := fieldAt_points points.toList [] k (by simpa using lt)
  rw [operands, Vector.getElem_ofFn, show 1 + 1 + 4 * k = 4 * k + 1 + 1 by omega, show 1 + 3 + 4 * k = 4 * k + 2 + 1 + 1 by omega,
    wordAt_of_fieldAt ((fieldAt_cons_add_one _ _ _ _).trans ((fieldAt_cons_add_one _ _ _ _).trans level)),
    wordAt_of_fieldAt ((fieldAt_cons_add_one _ _ _ _).trans ((fieldAt_cons_add_one _ _ _ _).trans volume))]
  simp

/-- The thresholds of a level stand in eight bytes after those before them. -/
theorem readThreshold_append (before after : List Byte) (v : ThresholdOperand) :
    readThreshold (before ++ (thresholdBytes v ++ after)) before.length = v := by
  have field : ∀ k, k + 2 ≤ 8 → fieldAt (before ++ (thresholdBytes v ++ after)) (before.length + k) 2 =
      fieldAt (thresholdBytes v) k 2 := by
    intro k le
    rw [fieldAt_append_of_le (by omega), Nat.add_sub_cancel_left, fieldAt_append_of_add_le (by simpa [thresholdBytes] using le)]
  cases v
  simp only [readThreshold, ThresholdOperand.mk.injEq]
  exact ⟨wordAt_of_fieldAt ((field 0 (by omega)).trans (fieldAt_wordBytes _)),
    wordAt_of_fieldAt ((field 2 (by omega)).trans (fieldAt_wordBytes _)),
    wordAt_of_fieldAt ((field 4 (by omega)).trans (fieldAt_wordBytes _)),
    wordAt_of_fieldAt ((field 6 (by omega)).trans (fieldAt_wordBytes _))⟩

theorem readGauge_gaugeBytes (v : GaugeOperands) : readGauge (gaugeBytes v) 0 = v := by
  obtain ⟨tips, watch, warn, storm, tClear⟩ := v
  have eight : ∀ x, (thresholdBytes x).length = 8 := fun x => by simp [thresholdBytes]
  simp only [readGauge, GaugeOperands.mk.injEq]
  refine ⟨Vector.ext fun g lt => ?_, ?_, ?_, ?_, ?_⟩
  · have inside : g < tips.toList.length := by simpa using lt
    simp [gaugeBytes, fieldByte, List.getD_eq_getElem?_getD, List.getElem?_append_left inside, lt]
  · simpa [gaugeBytes] using readThreshold_append tips.toList (thresholdBytes warn ++ (thresholdBytes storm ++ [tClear])) watch
  · simpa [gaugeBytes, eight] using readThreshold_append (tips.toList ++ thresholdBytes watch) (thresholdBytes storm ++ [tClear]) warn
  · simpa [gaugeBytes, eight] using
      readThreshold_append (tips.toList ++ (thresholdBytes watch ++ thresholdBytes warn)) [tClear] storm
  · simp [gaugeBytes, fieldByte, List.getD_eq_getElem?_getD, eight]

/-! ### Orders -/

/-- The operands of a well-formed order fill the length of its code, which fits one byte. -/
theorem operands_fit {i : Instr} (formed : wellFormed i = true) {h : Head} {code : Nat} {operands : List Byte}
    (parts : orderParts i = some (h, code, operands)) : operands.length = operandLength code ∧ code < 256 := by
  cases i <;> simp only [orderParts, Option.some.injEq, Prod.mk.injEq, reduceCtorEq] at parts <;>
    obtain ⟨rfl, rfl, rfl⟩ := parts
  case unassignedCode => exact Laws.EncodeLength.unassignedCode _ _ formed _ _ _ rfl
  case shapeSet => exact Laws.EncodeLength.shapeSet _ _ _ formed _ _ _ rfl
  case gaugeSet => exact Laws.EncodeLength.gaugeSet _ _ formed _ _ _ rfl
  all_goals exact ⟨rfl, by decide⟩

theorem orderOf_of_unassigned {h : Head} {code : Byte} (free : codeAssigned code.toNat = false) (operands : List Byte) :
    orderOf h code operands = .unassignedCode h code := by
  unfold orderOf
  split
  all_goals first
    | rfl
    | rename_i eq; rw [eq] at free; exact absurd free (by decide)

/-- Code and operands of a well-formed order spell it. -/
theorem orderOf_orderParts {i : Instr} (formed : wellFormed i = true) {h : Head} {code : Nat} {operands : List Byte}
    (parts : orderParts i = some (h, code, operands)) : orderOf h (BitVec.ofNat 8 code) operands = i := by
  cases i <;> simp only [orderParts, Option.some.injEq, Prod.mk.injEq, reduceCtorEq] at parts <;>
    obtain ⟨rfl, rfl, rfl⟩ := parts
  case unassignedCode code =>
    simp only [wellFormed, Bool.and_eq_true, Bool.not_eq_true'] at formed
    rw [BitVec.ofNat_toNat, BitVec.setWidth_eq]
    exact orderOf_of_unassigned formed.2 _
  case noticeMask => exact congrArg _ (wordAt_wordBytes _)
  case entryWrite h x rate duration link =>
    exact congrArg₂ (fun r d => Instr.entryWrite h x r d link) (wordAt_wordBytes rate) (wordAt_wordBytes duration)
  case worksSet => exact congrArg _ (readWorks_worksBytes _)
  case tankSet => exact congrArg _ (readTank_tankBytes _ _)
  case shapeSet => exact congrArg _ (readShape_shapeBytes _ _)
  case channelBind => exact congrArg _ (readBind_bindBytes _ _ _)
  case drainRequest h x m n => exact congrArg₂ (Instr.drainRequest h x) (wordAt_wordBytes m) (wordAt_wordBytes n)
  case grantAck h x serial rate => exact congrArg₂ (Instr.grantAck h x) (wordAt_wordBytes serial) (wordAt_wordBytes rate)
  case clockSet => exact congrArg _ (longAt_longBytes _)
  case readFrom => exact congrArg _ (longAt_longBytes _)
  case archiveUpto => exact congrArg _ (longAt_longBytes _)
  case spillSet => exact congrArg _ (readSpill_spillBytes _)
  case gaugeSet => exact congrArg _ (readGauge_gaugeBytes _)
  case gaugeBind => exact congrArg _ (readGaugeBind_gaugeBindBytes _ _)
  all_goals rfl

/-- A code and a guard with the operands of their length, and the bytes after them. -/
theorem decodeOrder_cons (p : Port) (index count : Nat) (code guard : Byte) (operands rest : List Byte)
    (fits : operands.length = operandLength code.toNat) :
    decodeOrder p index count ([code, guard] ++ operands ++ rest) =
      some (orderOf { port := p, guard := guard, index := index, count := count } code operands, rest) := by
  simp [decodeOrder, ← fits]

/-- Settles O7: the operands have their length, and each is read where it was written. -/
theorem orderBytesRoundTrip : Obligations.OrderBytesRoundTrip := by
  unfold Obligations.OrderBytesRoundTrip
  intro i h rest formed head
  obtain ⟨⟨h', code, operands⟩, parts, rfl⟩ := Option.map_eq_some_iff.mp head
  obtain ⟨fits, byte⟩ := operands_fit formed parts
  have code_eq : (BitVec.ofNat 8 code).toNat = code := by
    rw [BitVec.toNat_ofNat]
    exact Nat.mod_eq_of_lt byte
  unfold encodeOrder
  rw [parts]
  exact (decodeOrder_cons _ _ _ _ _ _ _ (by rw [code_eq]; exact fits)).trans
    (by rw [show orderOf _ _ operands = i from orderOf_orderParts formed parts])

end Sys2Proof.Machine
end

section
/-! SUPPORT. The proofs about transfers, frames without orders, the checks of an order, unassigned codes and the place of an
answer (R96, R166 to R176). -/

namespace Sys2Proof.Machine

/-! ### Transfers (R167, R168) -/

theorem portFree_of_idle {s : State} {p : Port} (up : s.stage ≠ .held) (closed : s.bundle = none)
    (idle : (s.port p).transfer = .idle) : portFree s p = true := by simp [portFree, up, closed, idle]

/-- Two updates that agree on the port as it stands make the same state. -/
theorem State.modPort_congr {s : State} {p : Port} {f g : PortState → PortState} (eq : f (s.port p) = g (s.port p)) :
    s.modPort p f = s.modPort p g := by
  simp [State.modPort, eq]

/-- Settles O11: the port is free, so each transfer has its effect. -/
theorem transfersOfAPort : Obligations.TransfersOfAPort := by
  unfold Obligations.TransfersOfAPort
  intro p s up closed idle
  have free := portFree_of_idle up closed idle
  refine ⟨fun bytes first => ?_, fun n some => ?_⟩
  · show execRequestStart p bytes s = _
    simp only [execRequestStart, free, decide_eq_true first, Bool.and_self, if_true]
  · show execResponseRead p n s = _
    simp only [execResponseRead, free, decide_eq_true some, Bool.and_self, if_true]
    refine congrArg _ (State.modPort_congr ?_)
    cases (s.port p).response <;> simp [readOut, readWhole]

/-! ### Frames without orders (R169, R170) -/

theorem requestStands_of_not_sending {s : State} {p : Port} (up : s.stage ≠ .held) (closed : s.bundle = none)
    (other : (s.port p).transfer ≠ .sending) : requestStands s p = true := by simp [requestStands, up, closed, other]

theorem takeWith_of_startingUp {i : Instr} {h : Head} {s : State} (starting : startingUp s = true)
    (frame : frameHolds s i h = true) (check : State → Answer) : takeWith i h check s = respondShort s h.port 2#8 := by
  simp [takeWith, starting, frame]

/-- Settles O12: in RUNNING the frame is malformed and nothing else, in start-up no frame is looked into. -/
theorem framesWithoutOrders : Obligations.FramesWithoutOrders := by
  unfold Obligations.FramesWithoutOrders
  intro p s closed
  refine ⟨fun running receiving malformed => ?_, fun starting => ?_⟩
  · have stands : requestStands s p = true :=
      requestStands_of_not_sending (by simp [running]) closed (by simp [receiving])
    show execFrameError p s = _
    simp [execFrameError, stands, frameMalformed, malformed, not_startingUp running, respondShort, respond]
  · have up : s.stage ≠ .held := by rcases starting with stage | stage <;> simp [stage]
    have start : startingUp s = true := by simpa [startingUp] using starting
    refine ⟨fun other => ?_, fun i h assigned head port frame => ?_⟩
    · show execNotReady p s = _
      simp [execNotReady, requestStands_of_not_sending up closed other, start, respondShort, respond]
    · subst port
      rw [exec_order assigned head, takeOrder, takeWith_of_startingUp start frame]
      rfl

/-! ### The checks of an order (R171 to R176) -/

section Checks

variable {s : State} {h : Head} {f : OrderForm} {room : Nat} {body : State → Answer}

theorem checkGuard_of_invalid (invalid : guardValid h.guard = false) :
    checkGuard s h room body = answer s .refusedGuard := by simp [checkGuard, invalid]

theorem checkGuard_of_false (valid : guardValid h.guard = true) (value : guardValue s h.guard = false) :
    checkGuard s h room body = answer s .skipped := by simp [checkGuard, valid, value]

theorem checkGuard_of_no_room (valid : guardValid h.guard = true) (value : guardValue s h.guard = true)
    (short : spaceLeft s h < room) : checkGuard s h room body = answer s .noRoom := by
  simp [checkGuard, valid, value, short]

theorem checkOrder_of_reserved (reserved : f.reserved = true) : checkOrder s h f body = answer s .refusedCode := by
  simp [checkOrder, reserved]

theorem checkOrder_of_other_role (clear : f.reserved = false) (other : h.port ∉ f.ports) :
    checkOrder s h f body = answer s .refusedRole := by simp [checkOrder, clear, other]

theorem checkOrder_of_role (clear : f.reserved = false) (role : h.port ∈ f.ports) :
    checkOrder s h f body = checkGuard s h f.room body := by simp [checkOrder, clear, role]

end Checks

/-- What the checks answer an order at its place, the part answers. -/
theorem exec_of_checked {i : Instr} {h : Head} {s t : State} {b : Bundle} {c : Code} (assigned : assignedOrder i = true)
    (stands : Stands i h s b) (checked : checkOrder (s.during b) h (orderForm i) (orderRule i) = answer t c) :
    exec i s = answered t c [] b := by
  rw [exec_order assigned stands.head, takeOrder, takeWith_of_stands stands, checked]
  rfl

/-- Settles O13: each check is one equation of the checks in their order. -/
theorem orderChecks : Obligations.OrderChecks := by
  unfold Obligations.OrderChecks
  intro i h s b assigned stands
  refine ⟨fun reserved => ?_, fun clear other => ?_, fun clear role => ⟨fun invalid => ?_, fun valid value => ?_,
    fun valid value short => ?_⟩⟩
  · exact exec_of_checked assigned stands (checkOrder_of_reserved reserved)
  · exact exec_of_checked assigned stands (checkOrder_of_other_role clear other)
  · exact exec_of_checked assigned stands ((checkOrder_of_role clear role).trans (checkGuard_of_invalid invalid))
  · exact exec_of_checked assigned stands ((checkOrder_of_role clear role).trans (checkGuard_of_false valid value))
  · exact exec_of_checked assigned stands ((checkOrder_of_role clear role).trans (checkGuard_of_no_room valid value short))

/-! ### Unassigned codes (R173) -/

/-- An unassigned code is decided by its class and, in the middle class, by its guard, with no order of its own to ask for
room. -/
theorem unassignedAnswer_eq (h : Head) (code : Byte) (s : State) :
    unassignedAnswer h code s = answer s
      (if 0xF0 ≤ code.toNat then .ignored
       else if 0xE0 ≤ code.toNat then
         (if guardValid h.guard = false then .refusedGuard else if guardValue s h.guard = false then .skipped
          else .refusedCode)
       else .refusedCode) := by
  unfold unassignedAnswer
  split
  · rfl
  split
  · cases valid : guardValid h.guard
    · exact checkGuard_of_invalid valid
    cases value : guardValue s h.guard
    · exact checkGuard_of_false valid value
    · exact checkGuard_passes valid value (Nat.zero_le _)
  · rfl

/-- Settles O15. -/
theorem unassignedCodeClasses : Obligations.UnassignedCodeClasses := by
  unfold Obligations.UnassignedCodeClasses
  intro h code s b stands free
  show execUnassignedCode h code s = _
  rw [execUnassignedCode, free, if_neg Bool.false_ne_true, takeWith_of_stands stands, unassignedAnswer_eq]
  rfl

/-! ### The place of an answer (R96, R170, R171) -/

/-- Where the transfers stand, each port stands but for its notices. -/
theorem State.port_of_transfers {s u : State} (same : u.transfers = s.transfers) (q : Port) :
    { u.port q with notices := 0#16 } = { s.port q with notices := 0#16 } := by
  have at_q := congrArg (fun v : Vector PortState 4 => v.get (portIndex q)) same
  simpa only [State.transfers, State.port, Vector.get_eq_getElem, Vector.getElem_map] using at_q

/-- Settles O16: the end of an event leaves the transfers as they are. -/
theorem answersArePlaced : Obligations.AnswersArePlaced := by
  unfold Obligations.AnswersArePlaced
  intro s c data b placed t u
  refine ⟨fun more => ?_, fun last => ⟨?_, ?_, fun q => ?_⟩⟩
  · simp [t, placeAnswer, more, placed]
  · simp [t, u, placeAnswer, last, placed, respond]
  · obtain ⟨-, -, -, -, bundle, -⟩ := State.outer_eq_iff.mp (State.kept_finishEvent { s with bundle := none }).1
    exact bundle
  · obtain ⟨-, transfers, -⟩ := State.kept_finishEvent { s with bundle := none }
    exact (congrArg PortState.response (State.port_of_transfers transfers q) :)

end Sys2Proof.Machine
end

section
/-! SUPPORT. The proofs about the readings of the ports (R19, R40, R57, R63, R112, R140, R165, R173, R182, R183): each reading is
answered with its data, and the fields of ALERT_READ and ENTRY_READ are read at their offsets. -/

namespace Sys2Proof.Machine

/-! ### Answers with data -/

/-- An admitted order is answered with the code and the data its rule answers, in the state the rule leaves (R172). -/
theorem exec_of_reading {i : Instr} {h : Head} {s t : State} {b : Bundle} {c : Code} {data : List Byte} {body : State → Answer}
    (form : exec i s = .next (takeOrder i h (orderForm i) body s)) (admitted : Admitted i h s b)
    (rule : body (s.during b) = { state := t, code := c, data := data }) : exec i s = answered t c data b := by
  rw [form, takeOrder_answers admitted, rule]
  rfl

theorem exec_of_admitted {i : Instr} {h : Head} {s : State} {b : Bundle} {body : State → Answer}
    (form : exec i s = .next (takeOrder i h (orderForm i) body s)) (admitted : Admitted i h s b) :
    exec i s = .next (placeAnswer (body (s.during b)) b) := by
  rw [form, takeOrder_answers admitted]

theorem index_of_lt {n : Nat} {x : Byte} (lt : x.toNat < n) : index n x = some ⟨x.toNat, lt⟩ := index_of_val rfl

theorem indexOrFF_of_lt {n : Nat} {x : Byte} (small : n ≤ 255) (lt : x.toNat < n) :
    indexOrFF n x = some (some ⟨x.toNat, lt⟩) := indexOrFF_of_val small rfl

/-! ### The channel of a binder (R2) -/

namespace State

variable {s : State} {x : Binder}

theorem channelOf_eq_none_iff : s.channelOf x = none ↔ ∀ c, (s.channel c).binder ≠ x := by simp [channelOf]

theorem binder_of_channelOf {c : Fin 16} (of : s.channelOf x = some c) : (s.channel c).binder = x := by
  simpa using List.find?_some of

theorem channelOf_eq_some {c : Fin 16} (held : (s.channel c).binder = x) (one : ∀ d, (s.channel d).binder = x → d = c) :
    s.channelOf x = some c := by
  cases of : s.channelOf x with
  | none => exact absurd held (channelOf_eq_none_iff.mp of c)
  | some d => rw [one d (binder_of_channelOf of)]

theorem channelOf_isSome_iff : (s.channelOf x).isSome = true ↔ ∃ c, (s.channel c).binder = x := by
  rw [← Option.ne_none_iff_isSome, Ne, channelOf_eq_none_iff]
  push Not
  rfl

end State

/-! ### Bytes and fields at their offsets -/

theorem byteAt_cons_zero (x : Byte) (l : List Byte) : byteAt (x :: l) 0 = x.toNat := rfl

theorem byteAt_cons_add_one (x : Byte) (l : List Byte) (k : Nat) : byteAt (x :: l) (k + 1) = byteAt l k := by simp [byteAt]

theorem toNat_byteOf_of_lt {v : Nat} (lt : v < 256) : (byteOf v).toNat = v := by
  simp [byteOf, Nat.mod_eq_of_lt lt]

theorem toNat_byteOf_bit (b : Bool) : (byteOf (bit b)).toNat = if b then 1 else 0 := by cases b <;> rfl

theorem toNat_byteOf_alertCode (l : AlertLevel) : (byteOf (alertCode l)).toNat = alertCode l := by cases l <;> rfl

theorem toNat_byteOf_availCode (a : Availability) : (byteOf (availCode a)).toNat = availCode a := by cases a <;> rfl

/-- The fields of ALERT_READ for a gauge, at the offsets of 11.2.1. -/
theorem alertGaugeData_fields (s : State) (g : Fin 4) :
    let d := alertGaugeData s g
    let k := s.gauge g
    d.length = 31 ∧ byteAt d 0 = alertCode s.rain.catchment ∧ byteAt d 1 = (if s.rain.timer.isSome then 1 else 0)
      ∧ fieldAt d 2 2 = fieldAt (absentBytes 2 (s.rain.timer.map (fun t => s.partTime - t))) 0 2
      ∧ byteAt d 4 = (byteOf s.rain.tClear).toNat ∧ byteAt d 5 = (byteOf (indexCode (s.channelOf (.gauge g)))).toNat
      ∧ byteAt d 6 = availCode k.avail ∧ byteAt d 7 = (byteOf k.tipDepth).toNat ∧ byteAt d 8 = alertCode k.level
      ∧ fieldAt d 9 4 = fieldAt (responseBytes 4 k.d15) 0 4 ∧ fieldAt d 13 4 = fieldAt (responseBytes 4 k.i15) 0 4
      ∧ fieldAt d 17 4 = fieldAt (responseBytes 4 k.d60) 0 4 ∧ fieldAt d 21 4 = fieldAt (responseBytes 4 k.d24) 0 4
      ∧ fieldAt d 25 2 = fieldAt (responseBytes 2 k.rejected) 0 2 ∧ fieldAt d 27 4 = k.totalTips.toNat := by
  simp [alertGaugeData, fieldAt_append_of_le, fieldAt_append_of_add_le, byteAt_append_of_le,
    byteAt_cons_zero, byteAt_cons_add_one, fieldAt_cons_add_one,
    toNat_byteOf_bit, toNat_byteOf_alertCode, toNat_byteOf_availCode, fieldAt_longBytes]

theorem toNat_byteOf_scheduleCode (x : Schedule) : (byteOf (scheduleCode x)).toNat = scheduleCode x := by cases x <;> rfl

theorem toNat_byteOf_entryStatusCode (x : EntryStatus) : (byteOf (entryStatusCode x)).toNat = entryStatusCode x := by
  cases x <;> rfl

/-- The fields of ENTRY_READ, at the offsets of 11.2.1. -/
theorem entryData_fields (s : State) (e : Fin 8) :
    let d := entryData s e
    let v := s.entry e
    byteAt d 0 = (byteOf e.val).toNat ∧ fieldAt d 1 2 = fieldAt (responseBytes 2 v.rate) 0 2
      ∧ fieldAt d 3 2 = fieldAt (responseBytes 2 v.duration) 0 2 ∧ byteAt d 5 = (byteOf (indexCode v.link)).toNat
      ∧ byteAt d 6 = (if v.byPart then 1 else 0) ∧ byteAt d 7 = entryStatusCode v.status
      ∧ fieldAt d 8 3 = fieldAt (absentBytes 3 (s.remainingNow e)) 0 3 ∧ byteAt d 11 = scheduleCode s.allow.sched
      ∧ byteAt d 12 = (byteOf (indexCode s.allow.active)).toNat ∧ fieldAt d 13 2 = fieldAt (absentBytes 2 (leaseLeft s)) 0 2
      ∧ byteAt d 15 = (if s.allow.hold.isSome then 1 else 0)
      ∧ fieldAt d 16 2 = fieldAt (absentBytes 2 (s.allow.hold.map (fun x => x - s.partTime))) 0 2
      ∧ fieldAt d 18 2 = fieldAt (responseBytes 2 s.works.fallback) 0 2
      ∧ fieldAt d 20 2 = fieldAt (responseBytes 2 s.works.cLeg) 0 2
      ∧ fieldAt d 22 2 = fieldAt (responseBytes 2 s.allow.aEff) 0 2 := by
  simp [entryData, fieldAt_append_of_le, fieldAt_append_of_add_le, byteAt_append_of_le, byteAt_cons_zero, byteAt_cons_add_one,
    fieldAt_cons_add_one, toNat_byteOf_bit, toNat_byteOf_scheduleCode, toNat_byteOf_entryStatusCode]

theorem toNat_byteOf_indexCode_some {n : Nat} (small : n ≤ 256) (i : Fin n) : (byteOf (indexCode (some i))).toNat = i.val :=
  toNat_byteOf_of_lt (by have := i.isLt; show i.val < 256; omega)

/-! ### The answers of the readings -/

section Answers

variable (s : State) (x part : Byte)

theorem statusAnswer_eq : statusAnswer x s =
    if x = 255#8 then doneData s 60 (summaryData s)
    else if hx : x.toNat < 4 then doneData s 60 (groupData s ⟨x.toNat, hx⟩) else answer s .refusedRange := by
  split_ifs with ff lt
  · simp [statusAnswer, ff]
  · simp [statusAnswer, indexOrFF_of_lt (by decide) lt]
  · simp [statusAnswer, indexOrFF_of_le (Nat.le_of_not_lt lt) ff]

theorem alertReadAnswer_eq : alertReadAnswer x s =
    if x = 255#8 then doneData s 40 (thresholdsData s)
    else if hx : x.toNat < 4 then doneData s 40 (alertGaugeData s ⟨x.toNat, hx⟩) else answer s .refusedRange := by
  split_ifs with ff lt
  · simp [alertReadAnswer, ff]
  · simp [alertReadAnswer, indexOrFF_of_lt (by decide) lt]
  · simp [alertReadAnswer, indexOrFF_of_le (Nat.le_of_not_lt lt) ff]

theorem tankReadAnswer_eq : tankReadAnswer x part s =
    if hx : x.toNat < 8 then
      (if part = 0#8 then doneData s 53 (tankStateData s ⟨x.toNat, hx⟩)
       else if part = 1#8 then doneData s 53 (tankSettingsData s ⟨x.toNat, hx⟩) else answer s .refusedRange)
    else answer s .refusedRange := by
  by_cases lt : x.toNat < 8
  · simp [tankReadAnswer, index_of_lt lt, lt]
  · simp [tankReadAnswer, index_of_le (Nat.le_of_not_lt lt), lt]

theorem entryReadAnswer_eq : entryReadAnswer x s =
    if hx : x.toNat < 8 then doneData s 24 (entryData s ⟨x.toNat, hx⟩) else answer s .refusedRange := by
  by_cases lt : x.toNat < 8
  · simp [entryReadAnswer, index_of_lt lt, lt]
  · simp [entryReadAnswer, index_of_le (Nat.le_of_not_lt lt), lt]

theorem countReadAnswer_eq : countReadAnswer x s =
    if x = 255#8 then doneData s 56 (countSettingsData s)
    else if hx : x.toNat < 8 then doneData s 56 (countData s ⟨x.toNat, hx⟩) else answer s .refusedRange := by
  split_ifs with ff lt
  · simp [countReadAnswer, ff]
  · simp [countReadAnswer, indexOrFF_of_lt (by decide) lt]
  · simp [countReadAnswer, indexOrFF_of_le (Nat.le_of_not_lt lt) ff]

/-- The answer of a reading order of an owner site, by the tank it names and its owner (R22). -/
theorem ownTank_eq {p : Port} (site : p ∈ sitePorts) (body : Fin 8 → State → Answer) : ownTank p x body s =
    if hx : x.toNat < 8 then
      (if (s.tank ⟨x.toNat, hx⟩).owner = portOwner p then body ⟨x.toNat, hx⟩ s else answer s .refusedOwner)
    else answer s .refusedRange := by
  split_ifs with lt own
  · exact ownTank_of_owner rfl site own
  · exact ownTank_of_other_owner rfl own
  · exact ownTank_of_no_tank (Nat.le_of_not_lt lt)

end Answers

theorem length_padTo_self (n : Nat) (l : List Byte) : (padTo n l).length = n := by simp [length_padTo]

/-- Settles O18: each reading's answer by its operand, and the fields of a gauge at their offsets. -/
theorem readingsOfEveryPort : Obligations.ReadingsOfEveryPort := by
  unfold Obligations.ReadingsOfEveryPort
  intro h s b
  refine ⟨fun admitted => ?_, fun admitted => ?_, fun x admitted => ?_, fun x part admitted => ?_, fun x admitted => ?_, fun g => ?_⟩
  · exact exec_of_rule (body := fun s => answer s .done) rfl admitted rfl
  · exact exec_of_reading (body := fun s => doneData s 20 (identifyData s h.port)) rfl admitted rfl
  · rw [exec_of_admitted (body := statusAnswer x) rfl admitted, statusAnswer_eq]
    split_ifs <;> rfl
  · rw [exec_of_admitted (body := tankReadAnswer x part) rfl admitted, tankReadAnswer_eq]
    split_ifs <;> rfl
  · rw [exec_of_admitted (body := alertReadAnswer x) rfl admitted, alertReadAnswer_eq]
    split_ifs <;> rfl
  · intro d k
    have byte : ∀ i < 40, byteAt d i = byteAt (alertGaugeData (s.during b) g) i := fun i lt => byteAt_padTo lt
    have field : ∀ i n, i + n ≤ 40 → fieldAt d i n = fieldAt (alertGaugeData (s.during b) g) i n := fun i n le => fieldAt_padTo le
    obtain ⟨len, f0, f1, f2, f4, f5, f6, f7, f8, f9, f13, f17, f21, f25, f27⟩ := alertGaugeData_fields (s.during b) g
    rw [← byte _ (by decide)] at f0 f1 f4 f5 f6 f7 f8
    rw [← field _ _ (by decide)] at f2 f9 f13 f17 f21 f25 f27
    refine ⟨length_padTo_self _ _, f0, f1, fun stopped => ?_, fun t runs le => ?_, fun le => ?_, fun unbound => ?_, fun c one => ?_,
      f6, fun le => ?_, f8, fun le => ?_, fun le => ?_, fun le => ?_, fun le => ?_, fun le => ?_, f27, fun j le => ?_⟩
    · rw [f2, show (s.during b).rain.timer = none from stopped]
      exact fieldAt_absentBytes_none 2
    · rw [f2, show (s.during b).rain.timer = some t from runs]
      exact fieldAt_absentBytes_some le
    · exact f4.trans (toNat_byteOf_of_lt (show s.rain.tClear < 256 by omega))
    · rw [f5, State.channelOf_eq_none_iff (s := s.during b) |>.mpr unbound]
      rfl
    · rw [f5, State.channelOf_eq_some (s := s.during b) ((one c).mpr rfl) (fun d held => (one d).mp held)]
      exact toNat_byteOf_indexCode_some (by decide) c
    · exact f7.trans (toNat_byteOf_of_lt (show k.tipDepth < 256 by omega))
    · exact f9.trans (fieldAt_responseBytes le)
    · exact f13.trans (fieldAt_responseBytes le)
    · exact f17.trans (fieldAt_responseBytes le)
    · exact f21.trans (fieldAt_responseBytes le)
    · exact f25.trans (fieldAt_responseBytes le)
    · by_cases lt : j < 40
      · rw [byte j lt]
        exact byteAt_of_length_le (by omega)
      · exact byteAt_of_length_le (by rw [length_padTo_self]; omega)

/-- Settles O19: each reading's answer by its operand, and the fields of an entry at their offsets. -/
theorem readingsOfOnePort : Obligations.ReadingsOfOnePort := by
  unfold Obligations.ReadingsOfOnePort
  intro h s b
  refine ⟨fun x admitted => ?_, fun admitted => ?_, fun x admitted => ?_, fun x admitted => ?_, fun part admitted => ?_, fun e => ?_⟩
  · rw [exec_of_admitted (body := entryReadAnswer x) rfl admitted, entryReadAnswer_eq]
    split_ifs <;> rfl
  · exact exec_of_reading (body := fun s => doneData s 59 (drawData s)) rfl admitted rfl
  · rw [exec_of_admitted (body := ownTank h.port x (fun t s => doneData s 60 (cycleData s t))) rfl admitted,
      ownTank_eq _ _ admitted.role]
    split_ifs <;> first | rfl | contradiction
  · rw [exec_of_admitted (body := countReadAnswer x) rfl admitted, countReadAnswer_eq]
    split_ifs <;> rfl
  · rw [exec_of_admitted (body := storeReadAnswer part) rfl admitted, storeReadAnswer]
    split_ifs <;> rfl
  · intro d v
    have byte : ∀ i < 24, byteAt d i = byteAt (entryData (s.during b) e) i := fun i lt => byteAt_padTo lt
    have field : ∀ i n, i + n ≤ 24 → fieldAt d i n = fieldAt (entryData (s.during b) e) i n := fun i n le => fieldAt_padTo le
    obtain ⟨f0, f1, f3, f5, f6, f7, f8, f11, f12, f13, f15, f16, f18, f20, f22⟩ := entryData_fields (s.during b) e
    rw [← byte _ (by decide)] at f0 f5 f6 f7 f11 f12 f15
    rw [← field _ _ (by decide)] at f1 f3 f8 f13 f16 f18 f20 f22
    refine ⟨length_padTo_self _ _, f0.trans (toNat_byteOf_of_lt (by omega)), fun le => f1.trans (fieldAt_responseBytes le),
      fun le => f3.trans (fieldAt_responseBytes le), fun unlinked => ?_, fun f linked => ?_, f6, f7, fun endless => ?_,
      fun r finite le => ?_, f11, fun idle => ?_, fun f active => ?_, fun stopped => ?_, fun t runs le => ?_, f15, fun free => ?_,
      fun t held le => ?_, fun le => f18.trans (fieldAt_responseBytes le), fun le => f20.trans (fieldAt_responseBytes le),
      fun le => f22.trans (fieldAt_responseBytes le)⟩
    · rw [f5, show ((s.during b).entry e).link = none from unlinked]
      rfl
    · rw [f5, show ((s.during b).entry e).link = some f from linked]
      exact toNat_byteOf_indexCode_some (by decide) f
    · have absent : (s.during b).remainingNow e = none := by
        simp [State.remainingNow_eq, remainingAt, show (s.entry e).remaining = none from endless]
      rw [f8, absent]
      exact fieldAt_absentBytes_none 3
    · have left : (s.during b).remainingNow e =
          some (if s.allow.sched = .running ∧ s.allow.active = some e then r - (s.partTime - s.allow.runSince) else r) := by
        simp [State.remainingNow_eq, remainingAt, show (s.entry e).remaining = some r from finite]
        split_ifs <;> rfl
      rw [f8, left]
      exact fieldAt_absentBytes_some (le_trans (by split_ifs <;> omega) le)
    · rw [f12, show (s.during b).allow.active = none from idle]
      rfl
    · rw [f12, show (s.during b).allow.active = some f from active]
      exact toNat_byteOf_indexCode_some (by decide) f
    · rw [f13, leaseLeft, show (s.during b).allow.lease = none from stopped]
      exact fieldAt_absentBytes_none 2
    · rw [f13, leaseLeft, show (s.during b).allow.lease = some t from runs]
      exact fieldAt_absentBytes_some le
    · rw [f16, show (s.during b).allow.hold = none from free]
      exact fieldAt_absentBytes_none 2
    · rw [f16, show (s.during b).allow.hold = some t from held]
      exact fieldAt_absentBytes_some le

end Sys2Proof.Machine
end

section
/-! SUPPORT. The proofs about the notice orders, SAVE_SETTINGS, ENTRY_POST and ENTRY_RECALL, CLOCK_SET and a raw line's change
(R7, R8, R61, R62, R179 to R181, R186, R188, R193). -/

namespace Sys2Proof.Machine

/-! ### The notice orders (R179 to R181) -/

/-- A port with an empty set asks for no attention. -/
theorem attention_of_no_notices {s : State} {p : Port} (empty : (s.port p).notices = 0#16) : attention s p = false := by
  simp [attention, empty]

/-- Settles O20. -/
theorem noticeOrders : Obligations.NoticeOrders := by
  unfold Obligations.NoticeOrders
  intro h s b
  refine ⟨fun admitted => ⟨?_, attention_of_no_notices (by simp)⟩, fun mask admitted => ?_, fun admitted => ?_⟩
  · exact exec_of_reading (body := noticesAnswer h.port) rfl admitted rfl
  · exact exec_of_rule (body := fun s => answer (s.modPort h.port (fun q => { q with mask := mask })) .done) rfl admitted rfl
  · exact exec_of_rule rfl admitted
      (body := fun s => answer (s.modPort h.port (fun q => { q with notices := 0#16, mask := defaultMask h.port })) .done) rfl

/-! ### SAVE_SETTINGS (R186, R188) -/

theorem saveAnswer_of_idle {s : State} (idle : s.save.run = none) (p : Port) :
    saveAnswer p s = answer (s.saveStart (requester p)) .done := by simp [saveAnswer, idle]

theorem saveAnswer_of_saving {s : State} {v : SaveRun} (saving : s.save.run = some v) (p : Port) :
    saveAnswer p s = answer (s.joinFollowOn p) .queued := by simp [saveAnswer, saving]

/-- Settles O22, by the save in flight. -/
theorem saveSettingsBeginsOrQueues : Obligations.SaveSettingsBeginsOrQueues := by
  unfold Obligations.SaveSettingsBeginsOrQueues
  intro h s b admitted
  cases run : s.save.run with
  | none => exact exec_of_rule (body := saveAnswer h.port) rfl admitted (saveAnswer_of_idle (s := s.during b) run h.port)
  | some v => exact exec_of_rule (body := saveAnswer h.port) rfl admitted (saveAnswer_of_saving (s := s.during b) run h.port)

/-! ### ENTRY_POST and ENTRY_RECALL (R61, R62) -/

/-- The renewal of R70 is the one Safety states. -/
theorem State.renewLease_eq (s : State) : s.renewLease = renewedLease s := rfl

@[simp] theorem entry_renewedLease (s : State) (e : Fin 8) : (renewedLease s).entry e = s.entry e := by
  unfold renewedLease
  split <;> rfl

section EntryOrders

variable {x : Byte} {s : State} {e : Fin 8}

theorem entryPostAnswer_of_no_entry (out : 8 ≤ x.toNat) : entryPostAnswer x s = answer (renewedLease s) .refusedRange := by
  simp [entryPostAnswer, index_of_le out, State.renewLease_eq]

theorem entryPostAnswer_of_byPart (named : e.val = x.toNat) (posted : (s.entry e).byPart = true) :
    entryPostAnswer x s = answer (renewedLease s) .refusedOwner := by
  simp [entryPostAnswer, index_of_val named, State.renewLease_eq, posted]

theorem entryPostAnswer_of_own (named : e.val = x.toNat) (own : (s.entry e).byPart = false) :
    entryPostAnswer x s = answer ((renewedLease s).modEntry e (fun v =>
      { v with byPart := true, status := .fresh, remaining := if v.duration = 0 then none else some (60 * v.duration) })) .done := by
  simp [entryPostAnswer, index_of_val named, State.renewLease_eq, own, durationSeconds]

theorem entryRecallAnswer_of_no_entry (out : 8 ≤ x.toNat) : entryRecallAnswer x s = answer s .refusedRange := by
  simp [entryRecallAnswer, index_of_le out]

theorem entryRecallAnswer_of_entry (named : e.val = x.toNat) :
    entryRecallAnswer x s =
      if (s.entry e).byPart = false then answer s .notPosted
      else if s.allow.active = some e then answer s .refusedState
      else answer (s.modEntry e (fun v => { v with byPart := false, status := .recalled })) .done := by
  simp [entryRecallAnswer, index_of_val named]

end EntryOrders

/-- Settles O25, by the entry named and who holds it. -/
theorem entryPostAndRecall : Obligations.EntryPostAndRecall := by
  unfold Obligations.EntryPostAndRecall
  intro h x s b
  refine ⟨fun admitted => ⟨fun out => ?_, fun e named => ?_⟩, fun admitted => ⟨fun out => ?_, fun e named => ?_⟩⟩
  · exact exec_of_rule (body := entryPostAnswer x) rfl admitted (entryPostAnswer_of_no_entry out)
  · split_ifs with posted
    · exact exec_of_rule (body := entryPostAnswer x) rfl admitted (entryPostAnswer_of_byPart named posted)
    · exact exec_of_rule (body := entryPostAnswer x) rfl admitted
        (entryPostAnswer_of_own (s := s.during b) named (by simpa using posted))
  · exact exec_of_rule (body := entryRecallAnswer x) rfl admitted (entryRecallAnswer_of_no_entry out)
  · rw [exec_of_admitted (body := entryRecallAnswer x) rfl admitted, entryRecallAnswer_of_entry (s := s.during b) named]
    simp only [during_entry, during_rest]
    split_ifs <;> rfl

/-! ### CLOCK_SET (R193) -/

theorem clockSetAnswer_of_zero (s : State) : clockSetAnswer 0#32 s = answer s .refusedRange := by simp [clockSetAnswer]

/-- Civil time is set so that it shows the time carried now. -/
def State.clockSet (s : State) (v : Long) : State :=
  ({ s with civil := some ((v.toNat : Int) - (s.partTime : Int)) } : State).clockRecord s.civilTime

theorem clockSetAnswer_of_nonzero {v : Long} (set : v ≠ 0#32) (s : State) :
    clockSetAnswer v s = answer (s.clockSet v) .done := by simp [clockSetAnswer, set, State.clockSet]

theorem State.outer_clockSet (s : State) (v : Long) :
    (s.clockSet v).outer = ({ s with civil := some ((v.toNat : Int) - (s.partTime : Int)) } : State).outer := by
  simp [clockSet]

theorem State.partTime_mono {s : State} {later : Nat} (le : s.clock ≤ later) :
    s.partTime ≤ ({ s with clock := later } : State).partTime := by
  have seconds : s.clock / 1000000 ≤ later / 1000000 := Nat.div_le_div_right le
  simp only [partTime]
  omega

/-- From a civil time set at one part time, civil time shows what is carried and the seconds since. -/
theorem State.civilTime_of_set {s : State} {v pt : Nat} (civil : s.civil = some ((v : Int) - (pt : Int))) (le : pt ≤ s.partTime) :
    s.civilTime = some (v + (s.partTime - pt)) := by
  simp only [civilTime, civil, Option.map_some, Option.some.injEq]
  omega

theorem State.onlyChanges_clockSet (s : State) (v : Long) : onlyChanges [.outer, .store, .notices] s (s.clockSet v) := by
  intro area other
  cases area <;> simp [unchanged, clockSet] at other ⊢

/-- Settles O40: the record that CLOCK_SET writes leaves the clock and the civil time set. -/
theorem clockSetRule : Obligations.ClockSetRule := by
  unfold Obligations.ClockSetRule
  intro h v s b admitted
  refine ⟨?_, fun set => ?_⟩
  · rintro rfl
    exact exec_of_rule (body := clockSetAnswer 0#32) rfl admitted (clockSetAnswer_of_zero _)
  · obtain ⟨stage, clock, civil, lines, bundle, pending, eeprom⟩ := State.outer_eq_iff.mp ((s.during b).outer_clockSet v)
    have now : ((s.during b).clockSet v).partTime = s.partTime := by simp only [State.partTime, clock]; rfl
    refine ⟨_, exec_of_rule (body := clockSetAnswer v) rfl admitted (clockSetAnswer_of_nonzero set _), ?_, clock,
      fun later le => ?_, stage, lines, bundle, eeprom, pending, (s.during b).onlyChanges_clockSet v⟩
    · rw [State.civilTime_of_set civil now.ge, now]
      simp
    · have after := State.partTime_mono le
      rw [State.civilTime_of_set (s := { (s.during b).clockSet v with clock := later }) civil (now.ge.trans after), now]
      rfl

/-! ### A raw line's change (R7, R8) -/

/-- Settles O45. -/
theorem rawLineChangeRule : Obligations.RawLineChangeRule := by
  unfold Obligations.RawLineChangeRule
  intro c high s closed change
  show execRawLineChange c high s = _
  simp only [execRawLineChange, closed, State.lineChange, change, Option.isSome_none, Bool.false_eq_true, if_false]
  by_cases bound : s.stage = .running ∧ (s.channel c).binder ≠ .none
  · obtain ⟨running, held⟩ := bound
    rw [if_neg (by rintro (other | free) <;> contradiction), if_pos ⟨running, held⟩]
    refine congrArg _ (congrArg _ (funext fun k => ?_))
    simp [Channel.levelActive]
  · rw [if_pos (by tauto), if_neg bound]

end Sys2Proof.Machine
end

section
/-! SUPPORT. The proof about the three steps of a page of a save (R187, R188): what the end of a save leaves, and that a page's
bytes alone of the EEPROM are written. -/

namespace Sys2Proof.Machine

namespace Memory

variable {m : List Host.Cell} {a x : Nat}

/-- A write leaves every other byte, whatever the order of the cells. -/
theorem read_write_of_ne (ne : x ≠ a) (b : Byte) : read (write m a b) x = read m x := by
  induction m with
  | nil =>
    simp only [write]
    split <;> simp [read, ne]
  | cons c rest ih =>
    obtain ⟨k, y⟩ := c
    simp only [write]
    split_ifs with before unlisted at_k unlisted
    · rfl
    · simp [read, ne]
    · subst at_k
      simp [read, ne]
    · subst at_k
      simp [read, ne]
    · simp [read, ih]

theorem read_writeAll_of_out {bs : List Byte} (out : x < a ∨ a + bs.length ≤ x) : read (writeAll m a bs) x = read m x := by
  induction bs generalizing m a with
  | nil => rfl
  | cons b bs ih =>
    simp only [List.length_cons] at out
    rw [writeAll, ih (by omega), read_write_of_ne (by omega)]

end Memory

namespace State

variable (s : State)

theorem mem_requesterPorts_iff (r : BitVec 4) (p : Port) : p ∈ requesterPorts r ↔ r &&& requester p ≠ 0#4 := by
  cases p <;> simp [requesterPorts]

theorem beginFollowOn_of_none {s : State} (none : s.save.followOn = none) : s.beginFollowOn = s := by
  simp [beginFollowOn, none]

/-- A follow-on begins with the working settings as they stand (R188). -/
theorem save_beginFollowOn_of_some {s : State} {r : BitVec 4} (waiting : s.save.followOn = some r) : s.beginFollowOn.save =
    { s.save with
        run := some { page := 0, step := .sending, snapshot := formImage s.workingSettings, requesters := r }
        followOn := none, changed := false } := by
  have settings : (s.modSave (fun v => { v with followOn := none })).workingSettings = s.workingSettings :=
    workingSettings_congr rfl rfl rfl rfl rfl rfl
  simp [beginFollowOn, waiting, saveStart, settings]

theorem ports_beginFollowOn : s.beginFollowOn.ports = s.ports := by
  unfold beginFollowOn
  split <;> rfl

/-- The end of a save: its requesters hear of it and a follow-on begins (R187, R188). -/
theorem saveEnded_saveEnd (v : SaveRun) (result : SaveResult) (failed : Bool) :
    saveEnded s (s.saveEnd v result failed) v result failed := by
  set told := (s.modSave (fun q => { q with run := none, last := result, changed := q.changed || failed })).notifyAll .settings
    (requesterPorts v.requesters) with told_eq
  have save : told.save = { s.save with run := none, last := result, changed := s.save.changed || failed } := by simp [told_eq]
  have settings : told.workingSettings = s.workingSettings := by
    rw [told_eq, notifyAll_rest]
    exact workingSettings_congr rfl rfl rfl rfl rfl rfl
  refine ⟨?_, fun p => ?_⟩
  · show told.beginFollowOn.save = _
    cases waiting : s.save.followOn with
    | none => rw [beginFollowOn_of_none (by simp [save, waiting]), save]
    | some r => rw [save_beginFollowOn_of_some (r := r) (by simp [save, waiting]), save, settings]
  · have ports : (s.saveEnd v result failed).port p = told.port p := by
      show told.beginFollowOn.ports.get _ = _
      rw [ports_beginFollowOn]
      rfl
    rw [ports, told_eq, port_notifyAll]
    by_cases asked : v.requesters &&& requester p = 0#4
    · simp [mem_requesterPorts_iff, asked, port]
    · simp [mem_requesterPorts_iff, asked, port]

/-- The frame of the end of a save. -/
theorem onlyChanges_saveEnd (v : SaveRun) (result : SaveResult) (failed : Bool) :
    onlyChanges [.save, .notices] s (s.saveEnd v result failed) := by
  intro area other
  cases area <;> simp [unchanged] at other ⊢

end State

/-- A save's end is judged from the EEPROM and the free values alike: it reads neither. -/
theorem saveEnded_of_eeprom {s t : State} {m : List Host.Cell} {n : Nat} {v : SaveRun} {result : SaveResult} {failed : Bool}
    (e : saveEnded { s with eeprom := m, freeIndex := n } t v result failed) : saveEnded s t v result failed := e

/-- The EEPROM changes in one page alone, and nothing else of what only the outside writes, the array or the retired list
does (R187). -/
def keepsOtherPages (s : State) (page : Fin 32) (t : State) : Prop :=
  t.outer = ({ s with eeprom := t.eeprom } : State).outer ∧ t.array = s.array ∧ t.retired = s.retired
    ∧ ∀ a, (a < 32 * page.val ∨ 32 * page.val + 32 ≤ a) → Memory.read t.eeprom a = Memory.read s.eeprom a

/-- Bytes of a page stored, and then nothing of the EEPROM, the array or the retired list. -/
theorem keepsOtherPages_of_stored {s u : State} {page : Fin 32} {bs : List Byte} (fits : bs.length = 32)
    (outer : u.outer = ({ s with eeprom := Memory.writeAll s.eeprom (32 * page.val) bs } : State).outer)
    (array : u.array = s.array) (retired : u.retired = s.retired) : keepsOtherPages s page u := by
  obtain ⟨-, -, -, -, -, -, eeprom⟩ := State.outer_eq_iff.mp outer
  refine ⟨State.outer_of_eeprom outer, array, retired, fun a out => ?_⟩
  rw [eeprom]
  exact Memory.read_writeAll_of_out (by rw [fits]; exact out)

/-! ### The steps of a page -/

section Steps

variable {s : State} {v : SaveRun}

/-- The bytes of a page whose content no rule gives are some 32 bytes (log entry 7). -/
theorem scramblePage_stores (page : Fin 32) : ∃ (bs : List Byte) (n : Nat), bs.length = 32 ∧
    s.scramblePage page = { s with eeprom := Memory.writeAll s.eeprom (32 * page.val) bs, freeIndex := n } :=
  ⟨_, _, by simp, rfl⟩

theorem scramblePage_keepsOtherPages (page : Fin 32) : keepsOtherPages s page (s.scramblePage page) := by
  obtain ⟨bs, n, fits, eq⟩ := scramblePage_stores (s := s) page
  rw [eq]
  exact keepsOtherPages_of_stored fits rfl rfl rfl

theorem pageSent_of_acknowledged (run : s.save.run = some v) :
    pageSent true s = (s.scramblePage v.page).modSave (fun q => { q with run := some { v with step := .writing s.clock } }) := by
  have clock : (s.scramblePage v.page).clock = s.clock := by
    obtain ⟨bs, n, -, eq⟩ := scramblePage_stores (s := s) v.page
    rw [eq]
  simp [pageSent, run, clock]

theorem pageSent_of_refused (run : s.save.run = some v) : pageSent false s = (s.scramblePage v.page).saveFail v .noAck := by
  simp [pageSent, run]

theorem keepsOtherPages.trans {t u : State} {page : Fin 32} (first : keepsOtherPages s page t) (outer : u.outer = t.outer)
    (media : u.media = t.media) : keepsOtherPages s page u := by
  obtain ⟨same, array, retired, others⟩ := first
  simp only [State.media, Prod.mk.injEq] at media
  obtain ⟨-, -, -, -, -, -, eeprom⟩ := State.outer_eq_iff.mp outer
  refine ⟨State.outer_of_eeprom (outer.trans same), media.1.trans array, media.2.1.trans retired, fun a out => ?_⟩
  rw [eeprom, others a out]

theorem onlyChanges_scramblePage (page : Fin 32) : onlyChanges [.outer, .media] s (s.scramblePage page) := by
  obtain ⟨bs, n, -, eq⟩ := scramblePage_stores (s := s) page
  rw [eq]
  intro area other
  cases area <;> first | rfl | exact absurd (by simp) other

/-- A frame over fewer areas is one over more. -/
theorem onlyChanges_mono {few more : List Area} {t : State} (sub : few ⊆ more) (frame : onlyChanges few s t) :
    onlyChanges more s t := fun a out => frame a (fun mem => out (sub mem))

theorem exec_savePageSent {acknowledged : Bool} (o : Open s) (run : s.save.run = some v) (sending : v.step = .sending) :
    exec (.savePageSent acknowledged) s = ended (pageSent acknowledged s) :=
  exec_event_due o rfl (by simp [saveSending, run, sending])

theorem exec_eepromWriteComplete {since : Nat} (o : Open s) (run : s.save.run = some v) (writing : v.step = .writing since)
    (intime : s.clock ≤ since + 5000) :
    exec .eepromWriteComplete s = ended (s.modSave (fun q => { q with run := some { v with step := .reading } })) := by
  have due : (writingSince s).any (fun t => decide (s.clock ≤ t + 5000)) = true := by
    obtain ⟨page, step, snapshot, requesters⟩ := v
    subst writing
    simp [writingSince, run, intime]
  rw [exec_event_due o rfl due]
  simp [State.modSave, run]

theorem exec_eepromWriteTimeout {since : Nat} (o : Open s) (run : s.save.run = some v) (writing : v.step = .writing since)
    (late : since + 5000 ≤ s.clock) : exec .eepromWriteTimeout s = ended (s.saveFail v .timeout) := by
  have due : writeLate s = true := by
    obtain ⟨page, step, snapshot, requesters⟩ := v
    subst writing
    simp [writeLate, writingSince, run, late]
  rw [exec_event_due o rfl due]
  simp only [run]

theorem exec_pageReadbackComplete {data : List Byte} (o : Open s) (run : s.save.run = some v) (reading : v.step = .reading)
    (page : data.length = 32) : exec (.pageReadbackComplete data) s = ended (s.pageRead v data) := by
  have due : (saveReading s && decide (data.length = 32)) = true := by simp [saveReading, run, reading, page]
  rw [exec_event_due o rfl due]
  simp only [run]

/-- The state in which a read-back is judged: the page holds the bytes read. -/
def State.storePage (s : State) (page : Fin 32) (data : List Byte) : State :=
  { s with eeprom := Memory.writeAll s.eeprom (32 * page.val) data }

theorem pageRead_of_equal {data : List Byte} (equal : data = State.savePage v) (more : v.page ≠ 31) :
    s.pageRead v data =
      (s.storePage v.page data).modSave (fun q => { q with run := some { v with page := v.page + 1, step := .sending } }) := by
  simp only [State.pageRead, if_pos equal, if_neg more]
  rfl

theorem pageRead_of_last {data : List Byte} (equal : data = State.savePage v) (last : v.page = 31) :
    s.pageRead v data = (s.storePage v.page data).saveEnd v .saved false := by
  simp only [State.pageRead, if_pos equal, if_pos last]
  rfl

theorem pageRead_of_different {data : List Byte} (different : data ≠ State.savePage v) :
    s.pageRead v data = (s.storePage v.page data).saveEnd v (.failed v.page .mismatch) true := by
  simp only [State.pageRead, if_neg different]
  rfl

theorem media_pageRead (data : List Byte) : (s.pageRead v data).media = s.media := by
  unfold State.pageRead
  dsimp only
  repeat' split
  all_goals simp

theorem onlyChanges_pageRead (data : List Byte) : onlyChanges [.outer, .save, .notices] s (s.pageRead v data) := by
  have stored : onlyChanges [.outer, .save, .notices] s (s.storePage v.page data) := by
    intro area other
    cases area <;> first | rfl | exact absurd (by simp) other
  by_cases equal : data = State.savePage v
  · by_cases last : v.page = 31
    · rw [pageRead_of_last equal last]
      exact onlyChanges_trans stored (onlyChanges_mono (by simp) (State.onlyChanges_saveEnd _ v _ _))
    · rw [pageRead_of_equal equal last]
      refine onlyChanges_trans stored fun area other => ?_
      cases area <;> first | rfl | exact absurd (by simp) other
  · rw [pageRead_of_different equal]
    exact onlyChanges_trans stored (onlyChanges_mono (by simp) (State.onlyChanges_saveEnd _ v _ _))

theorem eeprom_pageRead (data : List Byte) : (s.pageRead v data).eeprom = Memory.writeAll s.eeprom (32 * v.page.val) data := by
  obtain ⟨-, -, -, -, -, -, eeprom⟩ := State.outer_eq_iff.mp (outer_pageRead s v data)
  exact eeprom

end Steps

/-- Settles O23, by the step of the save and what its event brings. -/
theorem saveStepsOfAPage : Obligations.SaveStepsOfAPage := by
  unfold Obligations.SaveStepsOfAPage
  intro s v o run inPage
  refine ⟨fun sending => ⟨⟨_, exec_savePageSent o run sending, ?_⟩, ⟨_, exec_savePageSent o run sending, ?_⟩⟩,
    fun since writing => ⟨fun intime => exec_eepromWriteComplete o run writing intime,
      fun late => ⟨_, exec_eepromWriteTimeout o run writing late, s.saveEnded_saveEnd v _ _, s.onlyChanges_saveEnd v _ _⟩⟩,
    fun data reading page => ⟨_, exec_pageReadbackComplete o run reading page, ?_⟩⟩
  · obtain ⟨bs, n, fits, eq⟩ := scramblePage_stores (s := s) v.page
    rw [pageSent_of_acknowledged run, eq]
    refine ⟨rfl, keepsOtherPages_of_stored fits rfl rfl rfl, fun area other => ?_⟩
    cases area <;> first | rfl | exact absurd (by simp) other
  · have frame := onlyChanges_scramblePage (s := s) v.page
    have pages := scramblePage_keepsOtherPages (s := s) v.page
    obtain ⟨bs, n, -, eq⟩ := scramblePage_stores (s := s) v.page
    rw [pageSent_of_refused run]
    rw [eq] at frame pages ⊢
    refine ⟨saveEnded_of_eeprom (State.saveEnded_saveEnd _ v _ _), pages.trans (by simp) (by simp),
      onlyChanges_trans (onlyChanges_mono (by simp) frame) (onlyChanges_mono (by simp) (State.onlyChanges_saveEnd _ v _ _))⟩
  · have media := media_pageRead (s := s) (v := v) data
    simp only [State.media, Prod.mk.injEq] at media
    refine ⟨keepsOtherPages_of_stored page (outer_pageRead s v data) media.1 media.2.1, onlyChanges_pageRead data, fun canonical k => ?_,
      fun equal more => ?_, fun equal last => ?_, fun different => ?_⟩
    · simp only [eepromCanonical, Memory.wf, Bool.and_eq_true] at canonical
      rw [eeprom_pageRead]
      exact Memory.read_writeAll_of_inside canonical.1 (by omega)
    · rw [pageRead_of_equal equal more]
      exact ⟨rfl, rfl⟩
    · rw [pageRead_of_last equal last]
      exact saveEnded_of_eeprom (State.saveEnded_saveEnd _ v _ _)
    · rw [pageRead_of_different different]
      exact saveEnded_of_eeprom (State.saveEnded_saveEnd _ v _ _)

end Sys2Proof.Machine
end

section
/-! SUPPORT. The cells of the array and the statuses of the blocks, and the proof about START_UP and RESET_ASSERT (R145, R166,
R189; log entry 23). -/

namespace Sys2Proof.Machine

namespace State

variable (s : State)

/-! ### The array (R145) -/

@[simp] theorem arrayPage_setArrayPage (r q : PageRef) (p : Page) :
    (s.setArrayPage r p).arrayPage q = if q = r then p else s.arrayPage q := by
  obtain ⟨b, k⟩ := r
  obtain ⟨c, l⟩ := q
  by_cases block : c = b
  · subst block
    by_cases page : l = k <;> simp [arrayPage, setArrayPage, page]
  · simp [arrayPage, setArrayPage, block]

@[simp] theorem factoryBad_setArrayPage (r : PageRef) (p : Page) (b : Fin 64) :
    ((s.setArrayPage r p).array.get b).factoryBad = (s.array.get b).factoryBad := by
  by_cases block : b = r.block
  · subst block
    simp [setArrayPage]
  · simp [setArrayPage, block]

@[simp] theorem arrayPage_setArrayBlock (b : Fin 64) (q : PageRef) (p : Page) :
    (s.setArrayBlock b p).arrayPage q = if q.block = b then p else s.arrayPage q := by
  by_cases block : q.block = b
  · subst block
    simp only [arrayPage, setArrayBlock, get_put, if_true]
    simp [Vector.get_eq_getElem]
  · simp [arrayPage, setArrayBlock, block]

@[simp] theorem factoryBad_setArrayBlock (b c : Fin 64) (p : Page) :
    ((s.setArrayBlock b p).array.get c).factoryBad = (s.array.get c).factoryBad := by
  by_cases block : c = b
  · subst block
    simp [setArrayBlock]
  · simp [setArrayBlock, block]

@[simp] theorem arrayPage_drawFree (q : PageRef) : s.drawFree.arrayPage q = s.arrayPage q := rfl

@[simp] theorem array_drawFree : s.drawFree.array = s.array := rfl

/-! ### An operation that RESET interrupts (R189; log entry 23) -/

theorem tearPage_pages (r : PageRef) (records : List (List Byte)) :
    pageSound ((s.tearPage r records).arrayPage r) = false ∧ ∀ q, q ≠ r → (s.tearPage r records).arrayPage q = s.arrayPage q := by
  refine ⟨by simp [tearPage], fun q other => by simp [tearPage, other]⟩

theorem factoryBad_tearOperation (b : Fin 64) :
    (s.tearOperation.array.get b).factoryBad = (s.array.get b).factoryBad := by
  unfold tearOperation
  split <;> simp [tearPage]

end State

/-- Settles O8, by the operation in progress. -/
theorem restartClearsEveryBlock : Obligations.RestartClearsEveryBlock := by
  unfold Obligations.RestartClearsEveryBlock
  intro s u
  have kept := restart_keeps s .loading
  obtain ⟨pending, eeprom, lines⟩ : u.pending = s.pending ∧ u.eeprom = s.eeprom ∧ u.lines = s.lines := kept
  have restarts : ∀ stage, s.restart stage = { State.reset with
      stage := stage, freeIndex := u.freeIndex, lines := s.lines, eeprom := s.eeprom, array := u.array, pending := s.pending } := by
    intro stage
    rw [← lines, ← eeprom, ← pending]
    rfl
  refine ⟨congrArg _ (restarts .loading), congrArg _ (restarts .held), s.factoryBad_tearOperation, ?_⟩
  cases op : s.store.op with
  | none => simp [u, State.tearOperation, op]
  | some operation =>
    cases operation with
    | program r again =>
      have torn : u = s.tearPage r (s.store.program.getD []) := by simp [u, State.tearOperation, op]
      rw [torn]
      exact s.tearPage_pages r _
    | copy p source target =>
      have torn : u = s.tearPage ⟨target, p⟩ (pageRecords (s.arrayPage ⟨source, p⟩)) := by simp [u, State.tearOperation, op]
      rw [torn]
      exact s.tearPage_pages ⟨target, p⟩ _
    | erase b =>
      have torn : u = s.setArrayBlock b .unreadable := by simp [u, State.tearOperation, op]
      rw [torn]
      exact ⟨fun p => by simp, fun q other => by simp [other]⟩
    | read r target => simp [u, State.tearOperation, op]

end Sys2Proof.Machine
end

section
/-! SUPPORT. The proof about the share-out (R90 to R94): a pass grants each of its tanks once, within the rate and the tank's m,
as R91 and R92 pour it; and the passes remove claims as R93 says. -/

namespace Sys2Proof.Machine

/-! ### Grants as a list (R90) -/

theorem grantOf_cons (g : Fin 8 × Nat) (gs : List (Fin 8 × Nat)) (t : Fin 8) :
    grantOf (g :: gs) t = if g.1 = t then g.2 else grantOf gs t := by
  unfold grantOf
  by_cases same : g.1 = t <;> simp [same]

theorem grantOf_of_mem {gs : List (Fin 8 × Nat)} (once : (gs.map (fun g => g.1)).Nodup) {t : Fin 8} {n : Nat} (mem : (t, n) ∈ gs) :
    grantOf gs t = n := by
  induction gs with
  | nil => simp at mem
  | cons g gs ih =>
    simp only [List.map_cons, List.nodup_cons, List.mem_map, not_exists, not_and] at once
    rw [grantOf_cons]
    rcases List.mem_cons.mp mem with rfl | inner
    · simp
    · rw [if_neg (fun same => once.1 (t, n) inner same.symm), ih once.2 inner]

theorem grantOf_of_not_mem {gs : List (Fin 8 × Nat)} {t : Fin 8} (none : t ∉ gs.map (fun g => g.1)) : grantOf gs t = 0 := by
  have absent : gs.find? (fun g => g.1 = t) = .none := by
    rw [List.find?_eq_none]
    intro g mem
    simpa using fun same : g.1 = t => none (List.mem_map.mpr ⟨g, mem, same⟩)
  simp [grantOf, absent]

theorem grantOf_append_of_not_mem {gs hs : List (Fin 8 × Nat)} {t : Fin 8} (none : t ∉ gs.map (fun g => g.1)) :
    grantOf (gs ++ hs) t = grantOf hs t := by
  induction gs with
  | nil => rfl
  | cons g gs ih =>
    simp only [List.map_cons, List.mem_cons, not_or] at none
    rw [List.cons_append, grantOf_cons, if_neg (fun same => none.1 same.symm), ih none.2]

/-! ### The leftover (R92) -/

theorem length_handLeftover (k : Nat) (l : List (Fin 8 × Nat)) : (handLeftover k l).length = l.length := by
  induction l generalizing k with
  | nil => cases k <;> rfl
  | cons g l ih => cases k with
    | zero => rfl
    | succ k => simp [handLeftover, ih]

theorem getElem_handLeftover (k : Nat) (l : List (Fin 8 × Nat)) (i : Nat) (lt : i < (handLeftover k l).length) :
    (handLeftover k l)[i] =
      ((l[i]'(by rwa [length_handLeftover] at lt)).1, (l[i]'(by rwa [length_handLeftover] at lt)).2 + if i < k then 1 else 0) := by
  induction l generalizing k i with
  | nil => simp [length_handLeftover] at lt
  | cons g l ih => cases k with
    | zero => simp [handLeftover]
    | succ k => cases i with
      | zero => simp [handLeftover]
      | succ i => simp [handLeftover, ih]

theorem map_fst_handLeftover (k : Nat) (l : List (Fin 8 × Nat)) :
    (handLeftover k l).map (fun g => g.1) = l.map (fun g => g.1) := by
  induction l generalizing k with
  | nil => cases k <;> rfl
  | cons g l ih => cases k <;> simp [handLeftover, ih]

theorem sum_handLeftover_le (k : Nat) (l : List (Fin 8 × Nat)) :
    ((handLeftover k l).map (fun g => g.2)).sum ≤ (l.map (fun g => g.2)).sum + k := by
  induction l generalizing k with
  | nil => cases k <;> simp [handLeftover]
  | cons g l ih => cases k with
    | zero => simp [handLeftover]
    | succ k =>
      have := ih k
      simp only [handLeftover, List.map_cons, List.sum_cons]
      omega

/-! ### Shares (R91) -/

/-- The shares, rounded down, of some of the claims do not exceed the rate. -/
theorem sum_share_le (rest total : Nat) (l : List Claim) (le : weightSum l ≤ total) :
    (l.map (share rest total)).sum ≤ rest := by
  rcases Nat.eq_zero_or_pos total with zero | pos
  · have none : ∀ x ∈ l.map (share rest total), x = 0 := by simp [share, zero]
    rw [List.sum_eq_zero none]
    exact Nat.zero_le _
  have bound : ∀ m : List Claim, (m.map (share rest total)).sum * total ≤ rest * weightSum m := by
    intro m
    induction m with
    | nil => simp
    | cons c m ih =>
      have one : share rest total c * total ≤ rest * c.weight := Nat.div_mul_le_self _ _
      simp only [List.map_cons, List.sum_cons, weightSum] at ih ⊢
      rw [Nat.add_mul, Nat.mul_add]
      omega
  exact Nat.le_of_mul_le_mul_right ((bound l).trans (Nat.mul_le_mul_left rest le)) pos

theorem weightSum_filter_le (p : Claim → Bool) (l : List Claim) : weightSum (l.filter p) ≤ weightSum l := by
  induction l with
  | nil => simp
  | cons c l ih =>
    simp only [weightSum, List.filter_cons] at ih ⊢
    split <;> simp <;> omega

/-- The claims whose m their share reaches take no more than the rate. -/
theorem sum_full_le (rest total : Nat) (l : List Claim) (le : weightSum l ≤ total) :
    ((l.filter (fun c => decide (c.m ≤ share rest total c))).map (fun c => c.m)).sum ≤ rest := by
  refine le_trans (List.sum_le_sum (g := share rest total) fun c mem => ?_)
    (sum_share_le rest total _ ((weightSum_filter_le _ l).trans le))
  simpa using (List.mem_filter.mp mem).2

/-! ### A pass (R91, R92) -/

/-- What the grants of one pass over claims are: one for each claim, within the rate and the claim's m, as R91 pours it. -/
structure Pass (rest : Nat) (l : List Claim) (gs : List (Fin 8 × Nat)) : Prop where
  tanks : (gs.map (fun g => g.1)).Perm (l.map (fun c => c.tank))
  within : (gs.map (fun g => g.2)).sum ≤ rest
  bounded : ∀ t n, (t, n) ∈ gs → ∃ c ∈ l, c.tank = t ∧ n ≤ c.m
  poured : Poured rest l (grantOf gs)

/-- The share in the words of R91. -/
theorem share_eq (rest : Nat) (l : List Claim) (c : Claim) :
    share rest (weightSum l) c = rest * c.weight / (l.map (fun x => x.weight)).sum := rfl

/-- The grants of the unsettled claims before the leftover. -/
def tentative (rest : Nat) (l : List Claim) : List (Fin 8 × Nat) := l.map (fun c => (c.tank, share rest (weightSum l) c))

theorem settleShares_eq (rest : Nat) (l : List Claim) :
    settleShares rest l = handLeftover (rest - (l.map (share rest (weightSum l))).sum) (tentative rest l) := by
  simp only [settleShares, tentative, List.map_map]
  rfl

theorem map_fst_settleShares (rest : Nat) (l : List Claim) : (settleShares rest l).map (fun g => g.1) = l.map (fun c => c.tank) := by
  rw [settleShares_eq, map_fst_handLeftover, tentative, List.map_map]
  rfl

theorem pass_settleShares {rest : Nat} {l : List Claim} (once : (l.map (fun c => c.tank)).Nodup)
    (short : ∀ c ∈ l, share rest (weightSum l) c < c.m) : Pass rest l (settleShares rest l) := by
  have tanks := map_fst_settleShares rest l
  have len : (settleShares rest l).length = l.length := by simpa using congrArg List.length tanks
  have entry : ∀ i (lt : i < l.length), (settleShares rest l)[i]'(by rwa [len]) =
      (l[i].tank, share rest (weightSum l) l[i] + if i < rest - (l.map (share rest (weightSum l))).sum then 1 else 0) := by
    intro i lt
    simp only [settleShares_eq, getElem_handLeftover, tentative, List.getElem_map]
  refine ⟨by rw [tanks], ?_, fun t n mem => ?_, .shares rest l _ short fun i lt => ?_⟩
  · have given : (((tentative rest l).map (fun g => g.2)).sum) = (l.map (share rest (weightSum l))).sum := by
      rw [tentative, List.map_map]
      rfl
    have most := sum_share_le rest (weightSum l) l le_rfl
    have handed := sum_handLeftover_le (rest - (l.map (share rest (weightSum l))).sum) (tentative rest l)
    rw [settleShares_eq]
    omega
  · obtain ⟨i, lt, eq⟩ := List.getElem_of_mem mem
    rw [len] at lt
    rw [entry i lt, Prod.mk.injEq] at eq
    have less := short l[i] (List.getElem_mem lt)
    refine ⟨l[i], List.getElem_mem lt, eq.1, ?_⟩
    rw [← eq.2]
    split <;> omega
  · refine grantOf_of_mem (by rwa [tanks]) ?_
    have mem := List.getElem_mem (l := settleShares rest l) (n := i) (by rwa [len])
    rw [entry i lt] at mem
    exact mem

/-- What a pour says of a tank out of its claims does not matter. -/
theorem Poured.congr {rest : Nat} {l : List Claim} {f g : Fin 8 → Nat} (poured : Poured rest l f)
    (same : ∀ c ∈ l, g c.tank = f c.tank) : Poured rest l g := by
  induction poured with
  | settled rest f => exact .settled rest g
  | shares rest l f short each =>
    exact .shares rest l g short fun i lt => (same l[i] (List.getElem_mem lt)).trans (each i lt)
  | filled rest l full f eq some each inner ih =>
    refine .filled rest l full g eq some (fun c mem => ?_) (ih fun c mem => same c (List.mem_filter.mp mem).1)
    rw [eq] at mem
    rw [same c (List.mem_filter.mp mem).1, each c (eq ▸ mem)]

/-- The claims whose m their share reaches, and the others. -/
def reached (rest : Nat) (l : List Claim) : List Claim := l.filter (fun c => decide (c.m ≤ share rest (weightSum l) c))

def unreached (rest : Nat) (l : List Claim) : List Claim := l.filter (fun c => !decide (c.m ≤ share rest (weightSum l) c))

theorem rounds_nil (k rest : Nat) : rounds k rest [] = [] := by cases k <;> simp [rounds]

theorem rounds_of_none_reached {k rest : Nat} {l : List Claim} (some : l ≠ []) (none : reached rest l = []) :
    rounds (k + 1) rest l = settleShares rest l := by
  simp only [rounds, if_neg some]
  exact if_pos none

theorem rounds_of_reached {k rest : Nat} {l : List Claim} (some : reached rest l ≠ []) :
    rounds (k + 1) rest l = (reached rest l).map (fun c => (c.tank, c.m))
      ++ rounds k (rest - ((reached rest l).map (fun c => c.m)).sum) (unreached rest l) := by
  have nonempty : l ≠ [] := by
    rintro rfl
    exact some rfl
  simp only [rounds, if_neg nonempty]
  exact if_neg some

theorem unreached_eq (rest : Nat) (l : List Claim) :
    unreached rest l = l.filter (fun c => decide (rest * c.weight / (l.map (fun x => x.weight)).sum < c.m)) := by
  refine List.filter_congr fun c _ => ?_
  rw [share_eq, ← decide_not]
  simp

theorem length_reached_add (rest : Nat) (l : List Claim) : (reached rest l).length + (unreached rest l).length = l.length :=
  (List.length_eq_length_filter_add _).symm

theorem perm_reached_append (rest : Nat) (l : List Claim) : (reached rest l ++ unreached rest l).Perm l :=
  List.filter_append_perm _ l

/-- The rounds of a pass grant as R91 and R92 say, with rounds enough. -/
theorem pass_rounds {k rest : Nat} {l : List Claim} (once : (l.map (fun c => c.tank)).Nodup) (fuel : l.length < k) :
    Pass rest l (rounds k rest l) := by
  induction k generalizing rest l with
  | zero => omega
  | succ k ih =>
    by_cases empty : l = []
    · subst empty
      rw [rounds_nil]
      exact ⟨.refl _, by simp, by simp, .settled _ _⟩
    by_cases none : reached rest l = []
    · rw [rounds_of_none_reached empty none]
      refine pass_settleShares once fun c mem => ?_
      by_contra large
      have inside : c ∈ reached rest l := List.mem_filter.mpr ⟨mem, by simpa using large⟩
      simp [none] at inside
    have perm := (perm_reached_append rest l).map (fun c => c.tank)
    rw [List.map_append] at perm
    have disjoint := (perm.nodup_iff.mpr once)
    obtain ⟨-, restOnce, apart⟩ := List.nodup_append.mp disjoint
    have shorter : (unreached rest l).length < k := by
      have := List.length_pos_iff.mpr none
      have := length_reached_add rest l
      omega
    obtain ⟨tanks, within, bounded, poured⟩ := ih (rest := rest - ((reached rest l).map (fun c => c.m)).sum) restOnce shorter
    rw [rounds_of_reached none]
    set later := rounds k (rest - ((reached rest l).map (fun c => c.m)).sum) (unreached rest l)
    have firsts : ((reached rest l).map (fun c => (c.tank, c.m))).map (fun g => g.1) = (reached rest l).map (fun c => c.tank) := by
      simp
    have allTanks : (((reached rest l).map (fun c => (c.tank, c.m)) ++ later).map (fun g => g.1)).Perm (l.map (fun c => c.tank)) := by
      rw [List.map_append, firsts]
      exact (tanks.append_left _).trans perm
    refine ⟨allTanks, ?_, fun t n mem => ?_, ?_⟩
    · have most := sum_full_le rest (weightSum l) l le_rfl
      have same : ((reached rest l).map (fun c => (c.tank, c.m))).map (fun g => g.2) = (reached rest l).map (fun c => c.m) := by simp
      rw [show l.filter _ = reached rest l from rfl] at most
      rw [List.map_append, List.sum_append, same]
      omega
    · rcases List.mem_append.mp mem with full | other
      · obtain ⟨c, inside, eq⟩ := List.mem_map.mp full
        cases eq
        exact ⟨c, (List.mem_filter.mp inside).1, rfl, le_rfl⟩
      · obtain ⟨c, inside, rest⟩ := bounded t n other
        exact ⟨c, (List.mem_filter.mp inside).1, rest⟩
    · refine .filled rest l (reached rest l) _ rfl none (fun c mem => ?_) ?_
      · exact grantOf_of_mem (allTanks.nodup_iff.mpr once)
          (List.mem_append_left _ (List.mem_map.mpr ⟨c, mem, rfl⟩))
      · rw [← unreached_eq]
        refine poured.congr fun c mem => grantOf_append_of_not_mem ?_
        rw [firsts]
        intro inside
        exact apart _ inside _ (List.mem_map.mpr ⟨c, mem, rfl⟩) rfl

/-! ### The passes (R93) -/

/-- The claim that R93 removes, with those before and after it. -/
theorem lowestLatest_filter {p : Claim → Bool} {l : List Claim} {d : Claim} (found : lowestLatest (l.filter p) = some d) :
    ∃ before after, l = before ++ d :: after ∧ p d = true
      ∧ (∀ c ∈ before, p c = true → d.weight ≤ c.weight) ∧ ∀ c ∈ after, p c = true → d.weight < c.weight := by
  induction l generalizing d with
  | nil => simp [lowestLatest] at found
  | cons c l ih =>
    by_cases holds : p c = true
    · rw [List.filter_cons_of_pos holds, lowestLatest] at found
      cases later : lowestLatest (l.filter p) with
      | none =>
        rw [later] at found
        cases found
        have none : l.filter p = [] := by
          cases rest : l.filter p with
          | nil => rfl
          | cons x xs =>
            rw [rest, lowestLatest] at later
            split at later
            · cases later
            · split at later <;> cases later
        refine ⟨[], l, rfl, holds, by simp, fun x mem px => ?_⟩
        exact absurd (List.mem_filter.mpr ⟨mem, px⟩) (by simp [none])
      | some e =>
        obtain ⟨before, after, split_l, pe, low, lower⟩ := ih later
        rw [later] at found
        simp only at found
        split at found
        · rename_i lighter
          cases found
          refine ⟨[], l, rfl, holds, by simp, fun x mem px => ?_⟩
          rw [split_l] at mem
          rcases List.mem_append.mp mem with inside | inside
          · exact lighter.trans_le (low x inside px)
          rcases List.mem_cons.mp inside with rfl | inside
          · exact lighter
          · exact lighter.trans (lower x inside px)
        · rename_i heavier
          cases found
          refine ⟨c :: before, after, by simp [split_l], pe, fun x mem px => ?_, lower⟩
          rcases List.mem_cons.mp mem with rfl | inside
          · omega
          · exact low x inside px
    · rw [List.filter_cons_of_neg holds] at found
      obtain ⟨before, after, split_l, pe, low, lower⟩ := ih found
      refine ⟨c :: before, after, by simp [split_l], pe, fun x mem px => ?_, lower⟩
      rcases List.mem_cons.mp mem with rfl | inside
      · exact absurd px holds
      · exact low x inside px

theorem lowestLatest_eq_none {l : List Claim} : lowestLatest l = none ↔ l = [] := by
  cases l with
  | nil => simp [lowestLatest]
  | cons c l =>
    simp only [lowestLatest, reduceCtorEq, iff_false]
    split
    · simp
    · split <;> simp

/-- The passes end with one that leaves no claim below its n, and remove before as R93 says. -/
theorem passes_sharedOut {k aEff : Nat} {l : List Claim} (once : (l.map (fun c => c.tank)).Nodup) (fuel : l.length < k) :
    ∃ last, last.Sublist l ∧ Pass aEff last (passes k aEff l) ∧ (∀ c ∈ last, c.n ≤ grantOf (passes k aEff l) c.tank)
      ∧ SharedOut aEff l last (grantOf (passes k aEff l)) := by
  induction k generalizing l with
  | zero => omega
  | succ k ih =>
    have pass := pass_rounds (rest := aEff) once (Nat.lt_succ_self l.length)
    rw [passes]
    cases low : lowestLatest (l.filter (fun c => decide (grantOf (rounds (l.length + 1) aEff l) c.tank < c.n))) with
    | none =>
      have enough : ∀ c ∈ l, c.n ≤ grantOf (rounds (l.length + 1) aEff l) c.tank := by
        intro c mem
        have none := List.filter_eq_nil_iff.mp (lowestLatest_eq_none.mp low) c mem
        simpa using none
      exact ⟨l, .refl l, pass, enough, .last l _ pass.poured enough⟩
    | some d =>
      obtain ⟨before, after, rfl, below, lowest, latest⟩ := lowestLatest_filter low
      have others : (before ++ d :: after).filter (fun c => decide (c.tank ≠ d.tank)) = before ++ after := by
        simp only [List.map_append, List.map_cons, List.nodup_append, List.nodup_cons, List.mem_map, List.mem_cons] at once
        obtain ⟨-, ⟨notAfter, -⟩, apart⟩ := once
        rw [List.filter_append, List.filter_cons_of_neg (by simp)]
        congr 1
        · exact List.filter_eq_self.mpr fun c mem => by
            simpa using apart c.tank ⟨c, mem, rfl⟩ d.tank (.inl rfl)
        · exact List.filter_eq_self.mpr fun c mem => by
            simpa using fun same : c.tank = d.tank => notAfter ⟨c, mem, same⟩
      have sub : (before ++ after).Sublist (before ++ d :: after) :=
        (List.Sublist.refl before).append (List.sublist_cons_self d after)
      dsimp only
      rw [others]
      obtain ⟨last, part, final, enough, shared⟩ :=
        ih (once.sublist (sub.map _)) (by simp only [List.length_append, List.length_cons] at fuel ⊢; omega)
      refine ⟨last, part.trans sub, final, enough, .removal before after last d _ _ pass.poured (by simpa using below)
        (fun c mem less => lowest c mem (by simpa using less)) (fun c mem less => latest c mem (by simpa using less)) shared⟩

/-- Settles O58: the last pass grants each of its tanks once and within its bounds. -/
theorem shareOutBounds : Obligations.ShareOutBounds := by
  unfold Obligations.ShareOutBounds
  intro aEff l once
  obtain ⟨last, part, pass, enough, shared⟩ := passes_sharedOut (aEff := aEff) once (Nat.lt_add_one l.length)
  rw [show passes (l.length + 1) aEff l = shareOut aEff l from rfl] at pass enough shared
  have granted : ((shareOut aEff l).map (fun g => g.1)).Nodup := pass.tanks.nodup_iff.mpr (once.sublist (part.map _))
  refine ⟨pass.within, granted, fun t n mem => ?_, last, shared, fun t => ?_⟩
  · obtain ⟨c, inside, tank, le⟩ := pass.bounded t n mem
    refine ⟨c, part.subset inside, tank, le, ?_⟩
    have least := enough c inside
    rwa [tank, grantOf_of_mem granted mem] at least
  · have mem := pass.tanks.mem_iff (a := t)
    rw [List.mem_map, List.mem_map] at mem
    exact mem

/-! ### Who is granted anything -/

theorem tank_of_mem_rounds {k rest : Nat} {l : List Claim} {g : Fin 8 × Nat} (mem : g ∈ rounds k rest l) :
    ∃ c ∈ l, c.tank = g.1 := by
  induction k generalizing rest l with
  | zero => simp [rounds] at mem
  | succ k ih =>
    by_cases empty : l = []
    · simp [empty, rounds_nil] at mem
    by_cases none : reached rest l = []
    · rw [rounds_of_none_reached empty none] at mem
      have tank := List.mem_map_of_mem (f := fun g : Fin 8 × Nat => g.1) mem
      rw [map_fst_settleShares] at tank
      exact List.mem_map.mp tank
    · rw [rounds_of_reached none] at mem
      rcases List.mem_append.mp mem with full | other
      · obtain ⟨c, inside, rfl⟩ := List.mem_map.mp full
        exact ⟨c, (List.mem_filter.mp inside).1, rfl⟩
      · obtain ⟨c, inside, tank⟩ := ih other
        exact ⟨c, (List.mem_filter.mp inside).1, tank⟩

theorem tank_of_mem_passes {k aEff : Nat} {l : List Claim} {g : Fin 8 × Nat} (mem : g ∈ passes k aEff l) :
    ∃ c ∈ l, c.tank = g.1 := by
  induction k generalizing l with
  | zero => simp [passes] at mem
  | succ k ih =>
    rw [passes] at mem
    split at mem
    · exact tank_of_mem_rounds mem
    · obtain ⟨c, inside, tank⟩ := ih mem
      exact ⟨c, (List.mem_filter.mp inside).1, tank⟩

/-- A tank without a claim is granted nothing. -/
theorem grantOf_shareOut_of_no_claim {aEff : Nat} {l : List Claim} {t : Fin 8} (none : ∀ c ∈ l, c.tank ≠ t) :
    grantOf (shareOut aEff l) t = 0 := by
  refine grantOf_of_not_mem fun mem => ?_
  obtain ⟨g, inside, tank⟩ := List.mem_map.mp mem
  obtain ⟨c, claim, same⟩ := tank_of_mem_passes inside
  exact none c claim (same.trans tank)

end Sys2Proof.Machine
end

section
/-! SUPPORT. The proof about the end of an event (R86 to R97, R103): what an allocation makes of one tank, that the fold over the
drain list does this to each listed tank, and what a publication makes of the tanks whose grant it changes. -/

namespace Sys2Proof.Machine

namespace State

variable (s : State)

/-! ### Which areas an operation reads -/

theorem gauge_congr {s u : State} (rain : u.rain = s.rain) (g : Fin 4) : u.gauge g = s.gauge g := by simp [gauge, rain]

theorem outfall_congr {s u : State} (spill : u.spill = s.spill) (o : Fin 8) : u.outfall o = s.outfall o := by
  simp [outfall, spill]

theorem channel_congr {s u : State} (channels : u.channels = s.channels) (c : Fin 16) : u.channel c = s.channel c := by
  simp [channel, channels]

theorem channelOf_congr {s u : State} (channels : u.channels = s.channels) (x : Binder) : u.channelOf x = s.channelOf x := by
  simp [channelOf, channel_congr channels]

theorem outfallEnabled_congr {s u : State} (channels : u.channels = s.channels) (spill : u.spill = s.spill) :
    u.outfallEnabled = s.outfallEnabled := by
  funext o
  simp [outfallEnabled, channelOf_congr channels, outfall_congr spill]

/-! ### The exclusions (R86 to R89) -/

/-- What an exclusion reads of a tank. -/
def excludedBy (catchment : AlertLevel) (k : Tank) : Option DrainReason :=
  if k.phase.blind then some .levelFault
  else if k.grant.overdueSince.isSome then some .overdue
  else if catchment = .storm && k.set.stormSuspend && !k.spilling then some .stormSuspend
  else none

theorem exclusion_eq (t : Fin 8) : s.exclusion t = excludedBy s.rain.catchment (s.tank t) := rfl

/-- Status, reason and grant of a tank by its exclusion and its share (R94). -/
def allocated (aEff : Nat) (gs : List (Fin 8 × Nat)) (t : Fin 8) (excluded : Option DrainReason) :
    DrainStatus × Option DrainReason × Nat :=
  match excluded with
  | some r => (.queued, some r, 0)
  | none =>
    if 0 < grantOf gs t then (.draining, none, grantOf gs t)
    else if !(gs.any (fun g => g.1 = t)) then (.queued, some .belowMin, 0)
    else (.queued, some (if aEff = 0 then .allowanceZero else .shareZero), 0)

theorem allocation_eq (gs : List (Fin 8 × Nat)) (t : Fin 8) : s.allocation gs t = allocated s.allow.aEff gs t (s.exclusion t) := by
  unfold allocation allocated
  cases s.exclusion t <;> rfl

/-- A cycle whose metering mode is fixed (R37). -/
def modeFixed (metered : Bool) (c : Cycle) : Cycle :=
  match c.mode with
  | some _ => c
  | none => { c with mode := some (if metered then .metered else .unmetered) }

theorem modeFixed_eq (s : State) (t : Fin 8) : modeFixed (s.channelOf (.tank t .draw)).isSome = fun c => { c with
    mode := match c.mode with
      | some m => some m
      | none => some (if ∃ d, (s.channel d).binder = .tank t .draw then .metered else .unmetered) } := by
  funext c
  obtain ⟨number, start, lateStart, peakFill, peakTime, toFull, spillRef, mode, litres, admission, returned, endTime, endReason⟩ := c
  simp only [modeFixed, channelOf_isSome_iff]
  cases mode <;> rfl

/-- A tank that takes status, reason and grant; its first entry to DRAINING in a cycle fixes the metering mode (R37, R94). -/
def allocatedTank (metered : Bool) (a : DrainStatus × Option DrainReason × Nat) (k : Tank) : Tank :=
  { k with
    drain := { k.drain with status := a.1, reason := a.2.1 }, grant := { k.grant with granted := a.2.2 }
    openCycle := if k.drain.status ≠ .draining ∧ a.1 = .draining then k.openCycle.map (modeFixed metered) else k.openCycle }

theorem allocatedTank_twice (metered : Bool) (a : DrainStatus × Option DrainReason × Nat) (k : Tank) :
    allocatedTank metered a (allocatedTank metered a k) = allocatedTank metered a k := by
  by_cases draining : a.1 = .draining <;> simp [allocatedTank, draining]

theorem tank_allocateTank (gs : List (Fin 8 × Nat)) (t u : Fin 8) :
    (allocateTank gs s t).tank u =
      if u = t then allocatedTank (s.channelOf (.tank t .draw)).isSome (s.allocation gs t) (s.tank t) else s.tank u := by
  have channelOf : ∀ f g, ((s.modDrain t f).modGrant t g).channelOf (.tank t .draw) = s.channelOf (.tank t .draw) :=
    fun _ _ => channelOf_congr rfl _
  by_cases same : u = t
  · subst same
    by_cases was : (s.tank u).drain.status = .draining
    · simp [allocateTank, allocatedTank, was]
    · by_cases will : (s.allocation gs u).1 = .draining
      · simp [allocateTank, allocatedTank, was, will, fixMode, modCycle, channelOf]
        rfl
      · simp [allocateTank, allocatedTank, was, will]
  · unfold allocateTank
    dsimp only
    split <;> simp [same, fixMode, modCycle]

theorem ports_allocateTank (gs : List (Fin 8 × Nat)) (t : Fin 8) : (allocateTank gs s t).ports = s.ports := by
  unfold allocateTank
  dsimp only
  split <;> rfl

/-- No allocation moves the exclusion of a tank, so none moves another's allocation. -/
theorem allocation_allocateTank (gs : List (Fin 8 × Nat)) (t u : Fin 8) :
    (allocateTank gs s t).allocation gs u = s.allocation gs u := by
  have exclusion : (allocateTank gs s t).exclusion u = s.exclusion u := by
    rw [exclusion_eq, exclusion_eq, tank_allocateTank]
    by_cases same : u = t
    · subst same
      simp [excludedBy, allocatedTank]
    · simp [same]
  rw [allocation_eq, allocation_eq, exclusion]
  simp

/-- The fold over the drain list allocates each listed tank, once or again. -/
theorem tank_foldl_allocateTank (gs : List (Fin 8 × Nat)) (l : List (Fin 8)) (u : Fin 8) :
    (l.foldl (allocateTank gs) s).tank u =
      if u ∈ l then allocatedTank (s.channelOf (.tank u .draw)).isSome (s.allocation gs u) (s.tank u) else s.tank u := by
  induction l generalizing s with
  | nil => simp
  | cons t l ih =>
    have channelOf : (allocateTank gs s t).channelOf (.tank u .draw) = s.channelOf (.tank u .draw) := channelOf_congr (by simp) _
    rw [List.foldl_cons, ih, allocation_allocateTank, tank_allocateTank, channelOf]
    by_cases same : u = t
    · subst same
      simp [allocatedTank_twice]
    · simp [same]

/-! ### The publication (R97, R103) -/

theorem publishGrant_twice (serial : Word) (now confirm : Nat) (g : Grant) :
    publishGrant serial now confirm (publishGrant serial now confirm g) = publishGrant serial now confirm g := by
  unfold publishGrant
  by_cases unsettled : g.unsettled <;> simp [unsettled]

theorem publishGrant_eq (serial : Word) (now confirm : Nat) (g : Grant) :
    publishGrant serial now confirm g = { g with
      published := g.granted, serial := serial, unsettled := true
      deadline := if g.unsettled then g.deadline else some { setAt := now, due := now + confirm } } := by
  unfold publishGrant
  by_cases unsettled : g.unsettled <;> simp [unsettled]

theorem tank_foldl_publishGrant (serial : Word) (l : List (Fin 8)) (u : Fin 8) :
    (l.foldl (fun s t => s.modGrant t (publishGrant serial s.partTime s.works.tConfirm)) s).tank u =
      if u ∈ l then { s.tank u with grant := publishGrant serial s.partTime s.works.tConfirm (s.tank u).grant } else s.tank u := by
  induction l generalizing s with
  | nil => simp
  | cons t l ih =>
    rw [List.foldl_cons, ih]
    have partTime : ∀ f, (s.modGrant t f).partTime = s.partTime := fun _ => rfl
    by_cases same : u = t
    · subst same
      by_cases again : u ∈ l <;> simp [again, partTime, publishGrant_twice]
    · simp [same, partTime]

theorem mem_ownerPort_iff (o : Owner) (p : Port) : p ∈ ownerPort o ↔ o ≠ .nobody ∧ o = portOwner p := by
  cases o <;> cases p <;> simp [ownerPort, portOwner]

theorem tank_notifyAll (k : Notice) (ps : List Port) (u : Fin 8) : (s.notifyAll k ps).tank u = s.tank u := tank_congr (by simp) u

theorem port_foldl_notifyOwner (k : Notice) (l : List (Fin 8)) (p : Port) :
    (l.foldl (fun s t => s.notifyOwner k t) s).port p =
      { s.port p with
        notices := if ∃ t ∈ l, p ∈ ownerPort (s.tank t).owner then (s.port p).notices ||| noticeWord k else (s.port p).notices } := by
  induction l generalizing s with
  | nil => simp
  | cons t l ih =>
    rw [List.foldl_cons, ih]
    simp only [notifyOwner, tank_notifyAll, port_notifyAll]
    by_cases first : p ∈ ownerPort (s.tank t).owner <;> by_cases later : ∃ t ∈ l, p ∈ ownerPort (s.tank t).owner <;>
      simp [first, later, BitVec.or_assoc]

theorem mem_changedGrants_iff (t : Fin 8) : t ∈ s.changedGrants ↔ (s.tank t).grant.granted ≠ (s.tank t).grant.published := by
  simp [changedGrants]

/-- The state of a publication before its notices: the new serial, and the grants published under it (R103). -/
def published (ts : List (Fin 8)) : State :=
  ts.foldl (fun s' t => s'.modGrant t (publishGrant (s.globalSerial + 1#16) s'.partTime s'.works.tConfirm))
    { s with globalSerial := s.globalSerial + 1#16 }

theorem publish_of_some {ts : List (Fin 8)} (some : ts ≠ []) :
    s.publish ts = ts.foldl (fun s t => s.notifyOwner .grantChanged t) (s.published ts) := by
  unfold publish
  rw [if_neg some]
  rfl

theorem publish_nil : s.publish [] = s := rfl

theorem tank_published (ts : List (Fin 8)) (u : Fin 8) :
    (s.published ts).tank u =
      if u ∈ ts then
        { s.tank u with grant := publishGrant (s.globalSerial + 1#16) s.partTime s.works.tConfirm (s.tank u).grant }
      else s.tank u := tank_foldl_publishGrant _ _ ts u

/-- The tanks of a publication under its serial (R103). -/
theorem tank_publish (ts : List (Fin 8)) (u : Fin 8) :
    (s.publish ts).tank u =
      if u ∈ ts then
        { s.tank u with grant := publishGrant (s.globalSerial + 1#16) s.partTime s.works.tConfirm (s.tank u).grant }
      else s.tank u := by
  by_cases none : ts = []
  · simp [none, publish_nil]
  · rw [publish_of_some s none, ← tank_published]
    exact tank_congr (tanks_foldl _ _ (fun _ _ => by simp) ts) u

theorem drains_publish (ts : List (Fin 8)) :
    (s.publish ts).drains = (s.drainList, if ts = [] then s.globalSerial else s.globalSerial + 1#16) := by
  by_cases none : ts = []
  · subst none
    rfl
  · rw [publish_of_some s none, drains_foldl _ _ (fun _ _ => by simp) ts, if_neg none]
    unfold published
    refine (drains_foldl _ _ ?_ ts).trans rfl
    intro _ _
    rfl

theorem notices_publish (ts : List (Fin 8)) (p : Port) :
    ((s.publish ts).port p).notices =
      if ∃ t ∈ ts, p ∈ ownerPort (s.tank t).owner then (s.port p).notices ||| noticeWord .grantChanged else (s.port p).notices := by
  by_cases none : ts = []
  · simp [none, publish_nil]
  have ports : (s.published ts).ports = s.ports := by
    unfold published
    refine (foldl_keeps _ (fun q => q.ports) _ ?_ ts).trans rfl
    intro _ _
    rfl
  have owner : ∀ t, ((s.published ts).tank t).owner = (s.tank t).owner := by
    intro t
    rw [tank_published]
    split <;> rfl
  rw [publish_of_some s none, port_foldl_notifyOwner]
  simp only [owner, port, ports]

/-! ### The reallocation (R90 to R97) -/

/-- The state of a reallocation before its publication. -/
def allocatedAll : State := s.drainList.foldl (allocateTank (shareOut s.allow.aEff s.claims)) s

theorem reallocate_eq : s.reallocate = s.allocatedAll.publish s.allocatedAll.changedGrants := rfl

theorem tank_allocatedAll (t : Fin 8) :
    s.allocatedAll.tank t =
      if t ∈ s.drainList then
        allocatedTank (s.channelOf (.tank t .draw)).isSome (s.allocation (shareOut s.allow.aEff s.claims) t) (s.tank t)
      else s.tank t := s.tank_foldl_allocateTank _ _ t

theorem drains_allocatedAll : s.allocatedAll.drains = s.drains := drains_foldl _ _ (fun _ _ => by simp) _

/-- An excluded tank has no claim and so no grant; of an eligible one the allocation takes its grant. -/
theorem allocation_grant (t : Fin 8) :
    (s.allocation (shareOut s.allow.aEff s.claims) t).2.2 = grantOf (shareOut s.allow.aEff s.claims) t := by
  rw [allocation_eq]
  cases excluded : s.exclusion t with
  | some r =>
    refine (grantOf_shareOut_of_no_claim fun c claim => ?_).symm
    simp only [claims, List.mem_map, List.mem_filter] at claim
    obtain ⟨u, ⟨-, eligible⟩, rfl⟩ := claim
    rintro (rfl : u = t)
    simp [excluded] at eligible
  | none =>
    unfold allocated
    dsimp only
    split_ifs <;> dsimp only <;> omega

end State

/-! ### The end of an event (R96) -/

theorem finishEvent_of_no_trigger {s : State} (none : s.trigger = false) : s.finishEvent = s.dropOwed := by
  simp [State.finishEvent, none]

theorem finishEvent_of_trigger {s : State} (noted : s.trigger = true) :
    s.finishEvent = ({ s with trigger := false } : State).reallocate.dropOwed := by
  simp [State.finishEvent, noted]

theorem State.onlyChanges_finishEvent (s : State) : onlyChanges [.trigger, .notices, .tanks, .drains, .store] s s.finishEvent := by
  intro area other
  cases area <;> simp [unchanged] at other ⊢

/-- The claims in the words of R86 to R90. -/
theorem State.claims_eq (s : State) :
    s.claims = (s.drainList.filter (fun t =>
      decide (¬ ((s.tank t).phase = .offline ∨ (s.tank t).phase = .unknown) ∧ (s.tank t).grant.overdueSince = none
        ∧ ¬ (s.rain.catchment = .storm ∧ (s.tank t).set.stormSuspend = true ∧ (s.tank t).spilling = false)))).map (fun t =>
          { tank := t, weight := (s.tank t).weight, m := ((s.tank t).drain.request.map (fun r => r.m)).getD 0,
            n := ((s.tank t).drain.request.map (fun r => r.n)).getD 0 }) := by
  refine congrArg (List.map s.claim) (List.filter_congr fun t _ => ?_)
  rw [Bool.eq_iff_iff, exclusion_eq]
  simp only [excludedBy, Phase.blind, decide_eq_true_eq]
  by_cases blind : (s.tank t).phase = .offline ∨ (s.tank t).phase = .unknown
  · simp [blind]
  · by_cases overdue : (s.tank t).grant.overdueSince = none
    · by_cases stormed : s.rain.catchment = .storm ∧ (s.tank t).set.stormSuspend = true ∧ (s.tank t).spilling = false
      · simp [blind, overdue, stormed]
      · simp [blind, overdue, stormed, and_assoc]
    · simp [blind, overdue, Option.isSome_iff_ne_none]

/-- A tank's status is DRAINING exactly with a grant above 0 (R94). -/
theorem State.allocation_status (s : State) (t : Fin 8) :
    (s.allocation (shareOut s.allow.aEff s.claims) t).1 =
      if 0 < grantOf (shareOut s.allow.aEff s.claims) t then .draining else .queued := by
  rw [← s.allocation_grant t, allocation_eq]
  cases s.exclusion t with
  | some r => rfl
  | none =>
    unfold allocated
    dsimp only
    split_ifs <;> first | rfl | (dsimp only at *; omega)

/-- A tank's reason: its exclusion, or none with a grant, or why the computation grants it nothing (R94). -/
theorem State.allocation_reason (s : State) (gs : List (Fin 8 × Nat)) (t : Fin 8) :
    (s.allocation gs t).2.1 =
      (if (s.tank t).phase = .offline ∨ (s.tank t).phase = .unknown then some .levelFault
       else if (s.tank t).grant.overdueSince.isSome then some .overdue
       else if s.rain.catchment = .storm ∧ (s.tank t).set.stormSuspend = true ∧ (s.tank t).spilling = false then some .stormSuspend
       else if 0 < grantOf gs t then none
       else if ∀ g ∈ gs, g.1 ≠ t then some .belowMin
       else if s.allow.aEff = 0 then some .allowanceZero
       else some .shareZero) := by
  have absent : (!(gs.any (fun g => g.1 = t))) = true ↔ ∀ g ∈ gs, g.1 ≠ t := by simp
  have storm : (s.rain.catchment = .storm && (s.tank t).set.stormSuspend && !(s.tank t).spilling) = true ↔
      s.rain.catchment = .storm ∧ (s.tank t).set.stormSuspend = true ∧ (s.tank t).spilling = false := by simp [and_assoc]
  have blind : (s.tank t).phase.blind = true ↔ (s.tank t).phase = .offline ∨ (s.tank t).phase = .unknown := by simp [Phase.blind]
  rw [allocation_eq, exclusion_eq]
  unfold excludedBy allocated
  simp only [blind, storm, absent]
  split_ifs <;> rfl

/-- Settles O17: the reallocation is the fold of the allocations and its publication, and each part of the statement is one of
their lemmas. -/
theorem eventEndReallocates : Obligations.EventEndReallocates := by
  unfold Obligations.EventEndReallocates
  intro s
  refine ⟨fun none => ?_, fun noted => ?_⟩
  · rw [finishEvent_of_no_trigger none]
    rfl
  intro u gs blind stormed
  set v : State := { s with trigger := false } with v_eq
  have ends : u = (v.allocatedAll.publish v.allocatedAll.changedGrants).dropOwed := by
    rw [← State.reallocate_eq]
    exact finishEvent_of_trigger noted
  have frame := s.onlyChanges_finishEvent
  have listed : ∀ t, v.allocatedAll.tank t =
      if t ∈ s.drainList then State.allocatedTank (s.channelOf (.tank t .draw)).isSome (s.allocation gs t) (s.tank t) else s.tank t :=
    v.tank_allocatedAll
  set w := v.allocatedAll with w_eq
  have published : ∀ t, (w.tank t).grant.published = (s.tank t).grant.published := by
    intro t
    rw [listed]
    split <;> rfl
  have owner : ∀ t, (w.tank t).owner = (s.tank t).owner := by
    intro t
    rw [listed]
    split <;> rfl
  have drains : w.drainList = s.drainList ∧ w.globalSerial = s.globalSerial := Prod.mk.inj v.drains_allocatedAll
  have ports : w.ports = s.ports := State.foldl_keeps v (fun q => q.ports) _ (fun s t => State.ports_allocateTank s _ t) _
  have works : w.works = s.works := State.works_foldl v _ (fun _ _ => by simp) _
  have now : w.partTime = s.partTime := by
    have outer : w.outer = v.outer := State.outer_foldl v _ (fun _ _ => by simp) _
    obtain ⟨-, clock, -⟩ := State.outer_eq_iff.mp outer
    exact congrArg (fun c => min (c / 1000000) 4294967295) clock
  have tank : ∀ t, u.tank t = if t ∈ w.changedGrants then
      { w.tank t with grant := State.publishGrant (s.globalSerial + 1#16) s.partTime s.works.tConfirm (w.tank t).grant }
      else w.tank t := by
    intro t
    rw [ends, ← drains.2, ← works, ← now, ← State.tank_publish]
    exact State.tank_congr (by simp) t
  have granted : ∀ t, (u.tank t).grant.granted = (w.tank t).grant.granted := by
    intro t
    rw [tank]
    split
    · rw [State.publishGrant_eq]
    · rfl
  have changed : ∀ t, t ∈ w.changedGrants ↔ (u.tank t).grant.granted ≠ (s.tank t).grant.published := by
    intro t
    rw [State.mem_changedGrants_iff, granted, published]
  have serial : u.drains = (s.drainList, if w.changedGrants = [] then s.globalSerial else s.globalSerial + 1#16) := by
    rw [ends, ← drains.1, ← drains.2, ← State.drains_publish]
    simp
  obtain ⟨list, serial⟩ := Prod.mk.inj serial
  refine ⟨frame, by simp [ends, w_eq, State.allocatedAll, State.trigger_foldl, v_eq], list, ?_, s.claims_eq, fun same => ?_, fun t differs => ?_, fun p => ?_,
    fun t => ?_⟩
  · rw [ends, State.dropOwed, State.modStore_store, State.outfallEnabled_congr (s := s) (by simp [w_eq, State.allocatedAll,
      State.channels_foldl, v_eq]) (by simp [w_eq, State.allocatedAll, State.spill_foldl, v_eq])]
    simp [w_eq, State.allocatedAll, State.store_foldl, v_eq]
  · rw [serial, if_pos (List.eq_nil_iff_forall_not_mem.mpr fun t mem => (changed t).mp mem (same t))]
  · rw [serial, if_neg (List.ne_nil_of_mem ((changed t).mpr differs))]
  · have set : (u.port p).notices = ((w.publish w.changedGrants).port p).notices := by
      rw [ends]
      rfl
    rw [set, State.notices_publish]
    simp only [changed, owner, State.mem_ownerPort_iff, State.port, ports]
  · have drain : (u.tank t).drain = (w.tank t).drain := by rw [tank]; split <;> rfl
    have cycle : (u.tank t).openCycle = (w.tank t).openCycle := by rw [tank]; split <;> rfl
    refine ⟨fun out => ?_, ?_, fun inside => ?_, ?_⟩
    · rw [drain, cycle, listed, if_neg out]
      exact ⟨rfl, rfl⟩
    · rw [granted, listed]
      split
      · exact s.allocation_grant t
      · rfl
    · rw [drain, cycle, listed, if_pos inside]
      have draining : (s.allocation gs t).1 = .draining ↔ 0 < grantOf gs t := by
        rw [s.allocation_status t]
        split_ifs with some <;> simp only [gs, some]
      refine ⟨rfl, s.allocation_status t, s.allocation_reason gs t, ?_⟩
      simp only [State.allocatedTank, draining, State.modeFixed_eq] <;> rfl
    · rw [tank]
      by_cases differs : t ∈ w.changedGrants
      · have different := (changed t).mp differs
        rw [tank, if_pos differs] at different
        rw [if_pos differs, if_neg different, State.publishGrant_eq, serial, if_neg (List.ne_nil_of_mem differs), listed]
        split <;> rfl
      · have same : (u.tank t).grant.granted = (s.tank t).grant.published := not_not.mp ((changed t).not.mp differs)
        rw [tank, if_neg differs] at same
        rw [if_neg differs, if_pos same, listed]
        split <;> rfl

end Sys2Proof.Machine
end

section
/-! SUPPORT. What the record store's operations make of the notices: STORE on RECORD at most (R143, R151, R153, R157); and what
it says of a port's notices that they hold a kind (R177). -/

namespace Sys2Proof.Machine

/-- Ports with STORE set on RECORD. -/
def storeTold (ports : Vector PortState 4) : Vector PortState 4 :=
  put ports (portIndex .record) { ports.get (portIndex .record) with
    notices := (ports.get (portIndex .record)).notices ||| noticeWord .store }

namespace State

/-- The ports as they stand once STORE is set on RECORD: what the record store's operations keep. -/
def portsTold (s : State) : Vector PortState 4 := storeTold s.ports

variable (s : State)

@[simp] theorem storeTold_ports : storeTold s.ports = s.portsTold := rfl

@[simp] theorem portsTold_mk (stage clock civil freeIndex lines ports bundle trigger channels tanks rain allow drainList serial
    leg works spill store retired save eeprom array pending) :
    (State.mk stage clock civil freeIndex lines ports bundle trigger channels tanks rain allow drainList serial leg works spill
      store retired save eeprom array pending).portsTold = storeTold ports := rfl

@[simp] theorem portsTold_updates :
    (∀ f, (s.modStore f).portsTold = s.portsTold) ∧ (∀ f, (s.modSave f).portsTold = s.portsTold)
      ∧ (∀ f, (s.modAllow f).portsTold = s.portsTold) ∧ (∀ e f, (s.modEntry e f).portsTold = s.portsTold)
      ∧ (∀ o f, (s.modOutfall o f).portsTold = s.portsTold) ∧ (∀ o f, (s.modEvent o f).portsTold = s.portsTold)
      ∧ (∀ c f, (s.modChannel c f).portsTold = s.portsTold) ∧ (∀ t f, (s.modTank t f).portsTold = s.portsTold)
      ∧ (∀ t f, (s.modGrant t f).portsTold = s.portsTold) ∧ (∀ g f, (s.modGauge g f).portsTold = s.portsTold)
      ∧ s.noteTrigger.portsTold = s.portsTold ∧ s.drawFree.portsTold = s.portsTold :=
  ⟨fun _ => rfl, fun _ => rfl, fun _ => rfl, fun _ _ => rfl, fun _ _ => rfl, fun _ _ => rfl, fun _ _ => rfl, fun _ _ => rfl,
    fun _ _ => rfl, fun _ _ => rfl, rfl, rfl⟩

@[simp] theorem portsTold_notify_store : (s.notify .store .record).portsTold = s.portsTold := by
  refine Vector.ext fun i lt => ?_
  by_cases record : i = 3
  · subst record
    simp [portsTold, storeTold, notify, modPort, port, put, Vector.get_eq_getElem, portIndex, BitVec.or_assoc]
  · simp [portsTold, storeTold, notify, modPort, port, put, portIndex, Ne.symm record]

/-- Where the ports stand but for STORE on RECORD, every other port stands. -/
theorem port_of_portsTold {s u : State} (told : u.portsTold = s.portsTold) {p : Port} (other : p ≠ .record) : u.port p = s.port p := by
  have index : portIndex p ≠ portIndex .record := by cases p <;> simp [portIndex] at other ⊢
  have at_p := congrArg (fun v : Vector PortState 4 => v.get (portIndex p)) told
  simpa [portsTold, storeTold, index, port] using at_p

/-! ### The hand-over of a record (R142, R143) -/

theorem portsTold_fillAssembly (n : Nat) : (fillAssembly n s).portsTold = s.portsTold := by
  induction n generalizing s with
  | zero => rfl
  | succ n ih =>
    unfold fillAssembly
    split
    · rfl
    · split
      · rw [ih]
        rfl
      · rfl

@[simp] theorem portsTold_loseRecord : s.loseRecord.portsTold = s.portsTold := by simp [loseRecord]

@[simp] theorem portsTold_becomeWorn : s.becomeWorn.portsTold = s.portsTold := by
  unfold becomeWorn
  split <;> simp

@[simp] theorem portsTold_handOver (kind subject : Nat) (body : Nat → List Byte) :
    (s.handOver kind subject body).2.portsTold = s.portsTold := by
  unfold handOver
  dsimp only
  split_ifs <;> simp [portsTold_fillAssembly]

@[simp] theorem portsTold_writeRecord (kind subject : Nat) (body : List Byte) :
    (s.writeRecord kind subject body).portsTold = s.portsTold := by simp [writeRecord]

/-! ### The notices of a port (R177) -/

/-- Setting a kind sets it. -/
theorem or_noticeWord_and_ne_zero (w : Word) (k : Notice) : (w ||| noticeWord k) &&& noticeWord k ≠ 0#16 := by
  rw [and_noticeWord_ne_zero_iff, noticeWord_eq_twoPow]
  have lt : noticeBit k < 16 := by cases k <;> decide
  simp [lt]

end State

/-- Every notice that a port holds it still holds. -/
def NoticesGrow (s t : State) : Prop :=
  ∀ p k, (s.port p).notices &&& noticeWord k ≠ 0#16 → (t.port p).notices &&& noticeWord k ≠ 0#16

namespace NoticesGrow

variable {s t u : State}

theorem of_ports (same : t.ports = s.ports) : NoticesGrow s t := by
  intro p k held
  simpa [State.port, same] using held

theorem trans (first : NoticesGrow s t) (second : NoticesGrow t u) : NoticesGrow s u := fun p k held => second p k (first p k held)

theorem of_or {s t : State} (more : ∀ p, ∃ w, (t.port p).notices = (s.port p).notices ||| w) : NoticesGrow s t := by
  intro p k held
  obtain ⟨w, eq⟩ := more p
  rw [eq]
  rw [and_noticeWord_ne_zero_iff] at held ⊢
  simp [held]

theorem notifyAll (s : State) (k : Notice) (ps : List Port) : NoticesGrow s (s.notifyAll k ps) := by
  refine of_or fun p => ?_
  rw [State.port_notifyAll]
  by_cases told : p ∈ ps
  · exact ⟨noticeWord k, by simp [told]⟩
  · exact ⟨0#16, by simp [told]⟩

theorem notify (s : State) (k : Notice) (p : Port) : NoticesGrow s (s.notify k p) := notifyAll s k [p]

theorem notifyOwner (s : State) (k : Notice) (t : Fin 8) : NoticesGrow s (s.notifyOwner k t) := notifyAll s k _

end NoticesGrow

namespace State

variable (s : State)

theorem told_notifyAll {k : Notice} {ps : List Port} {p : Port} (mem : p ∈ ps) :
    ((s.notifyAll k ps).port p).notices &&& noticeWord k ≠ 0#16 := by
  rw [port_notifyAll]
  simpa [mem] using or_noticeWord_and_ne_zero (s.port p).notices k

theorem told_notify (k : Notice) (p : Port) : ((s.notify k p).port p).notices &&& noticeWord k ≠ 0#16 := by
  simpa using or_noticeWord_and_ne_zero (s.port p).notices k

end State

end Sys2Proof.Machine
end

section
/-! SUPPORT. What the operations of the allowance unit make of it, and the proofs about SCHEDULE_KICK, SCHEDULE_STOP, HOLD and
RELEASE and the allowance timers (R60 to R78). -/

namespace Sys2Proof.Machine

namespace State

variable {s : State} {e f : Fin 8}

/-! ### Frames -/

/-- The frame of an operation of the allowance unit. -/
def allowanceAreas : List Area := [.allow, .store, .notices, .trigger]

theorem onlyChanges_modAllow (g : Allow → Allow) : onlyChanges allowanceAreas s (s.modAllow g) := by
  intro area other
  cases area <;> first | rfl | exact absurd (by simp [allowanceAreas]) other

theorem onlyChanges_allowanceEvent (cause : AllowanceCause) (returned : Option (Fin 8)) :
    onlyChanges allowanceAreas s (s.allowanceEvent cause returned) := by
  intro area other
  cases area <;> simp [unchanged, allowanceAreas] at other ⊢

theorem onlyChanges_formAllowance : onlyChanges allowanceAreas s s.formAllowance := by
  intro area other
  cases area <;> simp [unchanged, allowanceAreas] at other ⊢

theorem onlyChanges_advance : onlyChanges allowanceAreas s (s.advance e f) := by
  intro area other
  cases area <;> simp [unchanged, allowanceAreas] at other ⊢

theorem onlyChanges_expireEntry : onlyChanges allowanceAreas s (s.expireEntry e) := by
  intro area other
  cases area <;> simp [unchanged, allowanceAreas] at other ⊢

theorem onlyChanges_startSchedule : onlyChanges allowanceAreas s (s.startSchedule e) := by
  intro area other
  cases area <;> simp [unchanged, allowanceAreas] at other ⊢

theorem onlyChanges_resumeSchedule : onlyChanges allowanceAreas s s.resumeSchedule := by
  intro area other
  cases area <;> simp [unchanged, allowanceAreas] at other ⊢

theorem onlyChanges_stopSchedule : onlyChanges allowanceAreas s s.stopSchedule := by
  intro area other
  cases area <;> simp [unchanged, allowanceAreas] at other ⊢

theorem onlyChanges_lapseLease : onlyChanges allowanceAreas s s.lapseLease := by
  intro area other
  cases area <;> simp [unchanged, allowanceAreas] at other ⊢

theorem onlyChanges_startHold (minutes : Nat) : onlyChanges allowanceAreas s (s.startHold minutes) := by
  intro area other
  cases area <;> simp [unchanged, allowanceAreas] at other ⊢

theorem onlyChanges_endHold (cause : AllowanceCause) : onlyChanges allowanceAreas s (s.endHold cause) := by
  intro area other
  cases area <;> simp [unchanged, allowanceAreas] at other ⊢

theorem onlyChanges_renewedLease : onlyChanges allowanceAreas s (renewedLease s) := by
  unfold renewedLease
  split
  · exact onlyChanges_modAllow _
  · exact onlyChanges_refl _ _

/-! ### A_eff (R75) -/

theorem formedAllowance_of_busy (busy : s.allow.sched = .running ∨ s.allow.sched = .stalled) (active : s.allow.active = some e) :
    s.formedAllowance = if s.allow.hold.isSome then 0 else min (s.entry e).rate s.works.cLeg := by
  unfold formedAllowance
  rcases busy with sched | sched <;> cases hold : s.allow.hold <;> simp [sched, active]

theorem formedAllowance_modAllow {g : Allow → Allow} (busy : (g s.allow).sched = .running ∨ (g s.allow).sched = .stalled)
    (active : (g s.allow).active = some e) :
    (s.modAllow g).formedAllowance =
      if (g s.allow).hold.isSome then 0 else min ((g s.allow).entries.get e).rate s.works.cLeg :=
  formedAllowance_of_busy (s := s.modAllow g) busy active

theorem formedAllowance_of_fallback (rest : s.allow.sched = .idle ∨ s.allow.sched = .lapsed) :
    s.formedAllowance = if s.allow.hold.isSome then 0 else min s.works.fallback s.works.cLeg := by
  unfold formedAllowance
  rcases rest with sched | sched <;> cases hold : s.allow.hold <;> simp [sched]

@[simp] theorem portsTold_formAllowance : s.formAllowance.portsTold = s.portsTold := by
  unfold formAllowance
  split <;> simp

@[simp] theorem portsTold_allowanceEvent (cause : AllowanceCause) (returned : Option (Fin 8)) :
    (s.allowanceEvent cause returned).portsTold = s.portsTold := by
  simp [allowanceEvent, allowanceRecord]

/-! ### An advance and an expiry (R66, R67) -/

/-- An entry that returns DONE. -/
def doneEntry (v : Entry) : Entry := { v with byPart := false, status := .done }

theorem allow_advance : (s.advance e f).allow = { s.allow with
    entries := put s.allow.entries e (doneEntry (s.entry e)), active := some f, runSince := s.partTime, sched := .running
    aEff := if s.allow.hold.isSome then 0 else min (s.entry f).rate s.works.cLeg } := by
  unfold advance
  dsimp only
  rw [allowanceEvent_allow, formedAllowance_of_busy (e := f) (.inl rfl) rfl]
  have rate : (((s.modEntry e (fun v => { v with byPart := false, status := .done })).entry f)).rate = (s.entry f).rate := by
    by_cases same : f = e <;> simp [same]
  exact congrArg (fun r => ({ s.allow with
    entries := put s.allow.entries e (doneEntry (s.entry e)), active := some f, runSince := s.partTime, sched := .running
    aEff := if s.allow.hold.isSome then 0 else min r s.works.cLeg } : Allow)) rate

/-- SCHEDULE stands on WORKS after an allowance event that follows it. -/
theorem told_schedule (cause : AllowanceCause) (returned : Option (Fin 8)) :
    ((((s.notify .schedule .works).allowanceEvent cause returned).port .works)).notices &&& noticeWord .schedule ≠ 0#16 := by
  rw [port_of_portsTold (portsTold_allowanceEvent cause returned) (by decide)]
  exact s.told_notify .schedule .works

theorem told_advance : ((s.advance e f).port .works).notices &&& noticeWord .schedule ≠ 0#16 := told_schedule _ _

theorem successor_modEntry (g : Entry → Entry) (link : (g (s.entry e)).link = (s.entry e).link)
    (byPart : (g (s.entry e)).byPart = (s.entry e).byPart) (k : Fin 8) : (s.modEntry e g).successor k = s.successor k := by
  have links : ((s.modEntry e g).entry k).link = (s.entry k).link := by
    by_cases same : k = e
    · subst same
      simpa using link
    · simp [same]
  have holders : ∀ j, ((s.modEntry e g).entry j).byPart = (s.entry j).byPart := by
    intro j
    by_cases same : j = e
    · subst same
      simpa using byPart
    · simp [same]
  simp only [successor, links, holders]

/-- An entry that has run out. -/
def ranOut (s : State) (e : Fin 8) : State := s.modEntry e (fun v => { v with remaining := some 0 })

theorem expireEntry_of_some (next : s.successor e = some f) : s.expireEntry e = (s.ranOut e).advance e f := by
  have same := successor_modEntry (s := s) (e := e) (fun v => { v with remaining := some 0 }) rfl rfl e
  unfold expireEntry
  dsimp only
  rw [same, next]
  rfl

/-- The state in which the allowance unit judges the stall of an entry without a successor. -/
def stalled (s : State) (e : Fin 8) : State :=
  (((s.ranOut e).modEntry e (fun v => { v with status := .overrun })).modAllow (fun a => { a with sched := .stalled })).notify
    .schedule .works

/-- The stall of an entry without a successor. -/
def stall (s : State) (e : Fin 8) : State := (s.stalled e).allowanceEvent .stall none

theorem expireEntry_of_none (none : s.successor e = none) : s.expireEntry e = s.stall e := by
  have same := successor_modEntry (s := s) (e := e) (fun v => { v with remaining := some 0 }) rfl rfl e
  unfold expireEntry
  dsimp only
  rw [same, none]
  rfl

theorem put_put {α : Type} {n : Nat} (v : Vector α n) (i : Fin n) (x y : α) : put (put v i x) i y = put v i y := by
  simp [put]

theorem allow_stalled : (s.stalled e).allow = { s.allow with
    entries := put s.allow.entries e { s.entry e with remaining := some 0, status := .overrun }, sched := .stalled } := by
  have ran : (s.ranOut e).allow.entries.get e = { s.entry e with remaining := some 0 } := get_put_self _ _ _
  refine (congrArg (fun x => ({ s.allow with entries := x, sched := .stalled } : Allow)) (put_put _ e _ _)).trans ?_
  rw [ran]

theorem allow_stall (active : s.allow.active = some e) : (s.stall e).allow = { s.allow with
    entries := put s.allow.entries e { s.entry e with remaining := some 0, status := .overrun }, sched := .stalled
    aEff := if s.allow.hold.isSome then 0 else min (s.entry e).rate s.works.cLeg } := by
  have formed := formedAllowance_of_busy (s := s.stalled e) (e := e) (.inr rfl) active
  have rate : ((s.stalled e).entry e).rate = (s.entry e).rate := by simp [entry, allow_stalled]
  rw [rate, allow_stalled] at formed
  rw [stall, allowanceEvent_allow, formed, allow_stalled]
  rfl

theorem told_stall : ((s.stall e).port .works).notices &&& noticeWord .schedule ≠ 0#16 := told_schedule _ _

theorem successor_eq_none (unposted : ∀ f, (s.entry e).link = some f → (s.entry f).byPart = false) : s.successor e = none := by
  cases next : s.successor e with
  | none => rfl
  | some f =>
    obtain ⟨link, posted⟩ := Option.filter_eq_some_iff.mp next
    simp [unposted f link] at posted

theorem successor_eq_some (link : (s.entry e).link = some f) (posted : (s.entry f).byPart = true) : s.successor e = some f :=
  Option.filter_eq_some_iff.mpr ⟨link, posted⟩

theorem entry_of_entries {t : State} {v : Entry} (entries : t.allow.entries = put s.allow.entries e v) (g : Fin 8) :
    t.entry g = if g = e then v else s.entry g := by simp [entry, entries]

theorem allow_expireEntry_of_some (next : s.successor e = some f) : (s.expireEntry e).allow = { s.allow with
    entries := put s.allow.entries e { s.entry e with byPart := false, status := .done, remaining := some 0 }
    active := some f, runSince := s.partTime, sched := .running
    aEff := if s.allow.hold.isSome then 0 else min (s.entry f).rate s.works.cLeg } := by
  have ran : ∀ g, (s.ranOut e).entry g = if g = e then { s.entry e with remaining := some 0 } else s.entry g :=
    entry_of_entries rfl
  have rate : ((s.ranOut e).entry f).rate = (s.entry f).rate := by
    rw [ran]
    by_cases same : f = e <;> simp [same]
  have entries : (s.ranOut e).allow.entries = put s.allow.entries e { s.entry e with remaining := some 0 } := rfl
  rw [expireEntry_of_some next, allow_advance, rate, entries, put_put, ran, if_pos rfl]
  rfl

/-! ### A resumption (R68) -/

/-- The state in which a resumption looks for an expiry. -/
def resumed (s : State) : State :=
  (s.modAllow (fun a => { a with
    sched := if s.allow.active.any (fun e => (s.entry e).status = .overrun) then .stalled else .running
    runSince := s.partTime, lease := some s.partTime })).allowanceEvent .resume none

theorem resumeSchedule_eq (s : State) : s.resumeSchedule =
    match s.resumed.expiryDue with
    | some e => s.resumed.expireEntry e
    | none => s.resumed := rfl

theorem allow_resumed (active : s.allow.active = some e) : s.resumed.allow = { s.allow with
    sched := if (s.entry e).status = .overrun then .stalled else .running, runSince := s.partTime, lease := some s.partTime
    aEff := if s.allow.hold.isSome then 0 else min (s.entry e).rate s.works.cLeg } := by
  have mode : s.allow.active.any (fun e => decide ((s.entry e).status = .overrun)) = decide ((s.entry e).status = .overrun) := by
    simp [active]
  unfold resumed
  rw [allowanceEvent_allow, formedAllowance_modAllow (e := e) ?_ ?_]
  · simp only [mode, decide_eq_true_eq]
    rfl
  · split <;> simp
  · exact active

theorem works_resumed : s.resumed.works = s.works := by simp [resumed]

theorem partTime_resumed : s.resumed.partTime = s.partTime := by
  have outer : s.resumed.outer = s.outer := by simp [resumed]
  obtain ⟨-, clock, -⟩ := outer_eq_iff.mp outer
  simp only [partTime, clock]

theorem entry_resumed (active : s.allow.active = some e) (g : Fin 8) : s.resumed.entry g = s.entry g := by
  simp [entry, allow_resumed active]

theorem successor_resumed (active : s.allow.active = some e) (g : Fin 8) : s.resumed.successor g = s.successor g := by
  simp only [successor, entry_resumed active]

theorem expiryDue_resumed (active : s.allow.active = some e) :
    s.resumed.expiryDue = if (s.entry e).status ≠ .overrun ∧ (s.entry e).remaining = some 0 then some e else none := by
  have remaining : s.resumed.allow.sched = .running → (s.resumed.remainingNow e = some 0 ↔ (s.entry e).remaining = some 0) := by
    intro running
    have still : s.resumed.allow.active = some e := by rw [allow_resumed active]; exact active
    have fresh : s.resumed.allow.runSince = s.partTime := by rw [allow_resumed active]
    simp [remainingNow, running, still, fresh, partTime_resumed, entry_resumed active]
  unfold expiryDue
  by_cases overrun : (s.entry e).status = .overrun
  · simp [allow_resumed active, overrun]
  · have running : s.resumed.allow.sched = .running := by simp [allow_resumed active, overrun]
    have still : s.resumed.allow.active = some e := by rw [allow_resumed active]; exact active
    simp [running, still, Option.filter_some, remaining running, overrun]

end State

/-! ### SCHEDULE_KICK (R65, R67, R68, R70) -/

section Kick

variable {x : Byte} {s : State} {e f : Fin 8}

theorem scheduleKickAnswer_of_no_entry (out : 8 ≤ x.toNat) (named : x ≠ 255#8) :
    scheduleKickAnswer x s = answer (renewedLease s) .refusedRange := by
  simp [scheduleKickAnswer, indexOrFF_of_le out named, State.renewLease_eq]

/-- The operand of a kick that names an entry or none. -/
theorem exists_operand (fits : x.toNat < 8 ∨ x = 255#8) : ∃ o : Option (Fin 8), indexOrFF 8 x = some o := by
  rcases fits with lt | rfl
  · exact ⟨_, indexOrFF_of_lt (by decide) lt⟩
  · exact ⟨_, indexOrFF_ff 8⟩

theorem scheduleKickAnswer_eq {o : Option (Fin 8)} (operand : indexOrFF 8 x = some o) :
    scheduleKickAnswer x s = kickAnswer (renewedLease s) o := by
  simp [scheduleKickAnswer, operand, State.renewLease_eq]

theorem renewedLease_of_rest (rest : s.allow.sched = .idle ∨ s.allow.sched = .lapsed) : renewedLease s = s := by
  rcases rest with sched | sched <;> simp [renewedLease, sched]

theorem renewedLease_of_busy (busy : s.allow.sched = .running ∨ s.allow.sched = .stalled) :
    renewedLease s = s.modAllow (fun a => { a with lease := some s.partTime }) := if_pos busy

theorem kickAnswer_of_idle_none (sched : s.allow.sched = .idle) : kickAnswer s none = answer s .notPosted := by
  simp [kickAnswer, sched]

theorem kickAnswer_of_idle_unposted (sched : s.allow.sched = .idle) (own : (s.entry e).byPart = false) :
    kickAnswer s (some e) = answer s .notPosted := by
  simp [kickAnswer, sched, own, Option.filter_some]

theorem kickAnswer_of_idle_posted (sched : s.allow.sched = .idle) (posted : (s.entry e).byPart = true) :
    kickAnswer s (some e) = answer (s.startSchedule e) .done := by
  simp [kickAnswer, sched, posted, Option.filter_some]

theorem kickAnswer_of_lapsed (sched : s.allow.sched = .lapsed) (o : Option (Fin 8)) :
    kickAnswer s o = answer s.resumeSchedule .done := by simp [kickAnswer, sched]

theorem allow_startSchedule : (s.startSchedule e).allow = { s.allow with
    sched := .running, active := some e, runSince := s.partTime, lease := some s.partTime
    aEff := if s.allow.hold.isSome then 0 else min (s.entry e).rate s.works.cLeg } := by
  unfold State.startSchedule
  rw [State.allowanceEvent_allow, State.formedAllowance_of_busy (e := e) (.inl rfl) rfl]
  rfl

theorem exec_scheduleKick {h : Head} {t : State} {b : Bundle} {c : Code} (admitted : Admitted (.scheduleKick h x) h s b)
    (rule : scheduleKickAnswer x (s.during b) = answer t c) : exec (.scheduleKick h x) s = answered t c [] b :=
  exec_of_rule rfl admitted rule

end Kick

/-- Settles O26: in IDLE a kick starts, in LAPSED it resumes and looks for an expiry. -/
theorem kickInIdleAndLapsed : Obligations.KickInIdleAndLapsed := by
  unfold Obligations.KickInIdleAndLapsed
  intro h x s b admitted
  refine ⟨fun out named => ?_, fun idle => ⟨?_, fun e named => ⟨fun own => ?_, fun posted => ?_⟩⟩, fun e lapsed active fits => ?_⟩
  · exact exec_scheduleKick admitted (scheduleKickAnswer_of_no_entry out named)
  · rintro rfl
    refine exec_scheduleKick admitted ((scheduleKickAnswer_eq (indexOrFF_ff 8)).trans ?_)
    rw [renewedLease_of_rest (s := s.during b) (.inl idle)]
    exact kickAnswer_of_idle_none (s := s.during b) idle
  · refine exec_scheduleKick admitted ((scheduleKickAnswer_eq (indexOrFF_of_val (by decide) named)).trans ?_)
    rw [renewedLease_of_rest (s := s.during b) (.inl idle)]
    exact kickAnswer_of_idle_unposted (s := s.during b) idle own
  · refine ⟨(s.during b).startSchedule e, exec_scheduleKick admitted
      ((scheduleKickAnswer_eq (indexOrFF_of_val (by decide) named)).trans ?_), allow_startSchedule, State.onlyChanges_startSchedule⟩
    rw [renewedLease_of_rest (s := s.during b) (.inl idle)]
    exact kickAnswer_of_idle_posted (s := s.during b) idle posted
  obtain ⟨o, operand⟩ := exists_operand fits
  have resumes : exec (.scheduleKick h x) s = answered (s.during b).resumeSchedule .done [] b := by
    refine exec_scheduleKick admitted ((scheduleKickAnswer_eq operand).trans ?_)
    rw [renewedLease_of_rest (s := s.during b) (.inr lapsed)]
    exact kickAnswer_of_lapsed (s := s.during b) lapsed o
  have frame := State.onlyChanges_resumeSchedule (s := s.during b)
  have due := State.expiryDue_resumed (s := s.during b) active
  have entry := State.entry_resumed (s := s.during b) active
  have allow := State.allow_resumed (s := s.during b) active
  rw [State.resumeSchedule_eq, due] at resumes frame
  have running : (s.entry e).status ≠ .overrun → (s.entry e).remaining = some 0 →
      (s.during b).resumed.allow.sched = .running ∧ (s.during b).resumed.allow.active = some e := by
    intro fresh _
    rw [allow]
    exact ⟨if_neg fresh, active⟩
  refine ⟨fun stands => ?_, fun fresh out unposted => ?_, fun fresh out f link posted other => ?_⟩
  · rw [if_neg (by tauto)] at resumes frame
    exact ⟨_, resumes, allow, frame⟩
  · rw [if_pos ⟨fresh, out⟩] at resumes frame
    obtain ⟨-, still⟩ := running fresh out
    have none : (s.during b).resumed.successor e = none := by
      rw [State.successor_resumed (s := s.during b) active]
      exact State.successor_eq_none unposted
    dsimp only at resumes frame
    rw [State.expireEntry_of_none none] at resumes frame
    have after := State.allow_stall still
    have entries := State.entry_of_entries (congrArg Allow.entries after)
    refine ⟨_, resumes, by rw [after], by rw [after]; exact still, by rw [after, allow]; rfl, ?_, fun g ne => ?_, frame⟩
    · rw [entries e, if_pos rfl, entry]
      simp [← out]
    · rw [entries g, if_neg ne, entry]
      rfl
  · rw [if_pos ⟨fresh, out⟩] at resumes frame
    have next : (s.during b).resumed.successor e = some f := by
      rw [State.successor_resumed (s := s.during b) active]
      exact State.successor_eq_some link posted
    dsimp only at resumes frame
    have after := State.allow_expireEntry_of_some next
    have entries := State.entry_of_entries (congrArg Allow.entries after)
    refine ⟨_, resumes, by rw [after], by rw [after], by rw [after, allow]; rfl, by rw [after, allow]; rfl, ?_, ?_, fun g ne => ?_, ?_, frame⟩
    · rw [after, allow, entry f, State.works_resumed]
      rfl
    · rw [entries e, if_pos rfl, entry]
      simp [← out]
    · rw [entries g, if_neg ne, entry]
      rfl
    · rw [State.expireEntry_of_some next]
      exact State.told_advance

end Sys2Proof.Machine
end

section
/-! SUPPORT. The proofs about SCHEDULE_KICK in RUNNING and STALLED, SCHEDULE_STOP, HOLD and RELEASE and the allowance timers (R64 to
R75). -/

namespace Sys2Proof.Machine

/-! ### SCHEDULE_KICK in RUNNING and STALLED (R67) -/

section Kick

variable {x : Byte} {s : State} {e f : Fin 8}

theorem kickAnswer_of_finite (sched : s.allow.sched = .running) (active : s.allow.active = some e)
    (finite : (s.entry e).remaining.isSome) (o : Option (Fin 8)) : kickAnswer s o = answer s .done := by
  simp [kickAnswer, sched, active, finite]

theorem kickAnswer_of_moving (active : s.allow.active = some e)
    (moving : s.allow.sched = .stalled ∨ (s.allow.sched = .running ∧ (s.entry e).remaining = none)) (o : Option (Fin 8)) :
    kickAnswer s o = kickOn s e := by
  rcases moving with sched | ⟨sched, endless⟩
  · simp [kickAnswer, sched, active]
  · simp [kickAnswer, sched, active, endless]

theorem kickOn_of_none (none : s.successor e = none) : kickOn s e = answer s .notPosted := by simp [kickOn, none]

theorem kickOn_of_some (next : s.successor e = some f) : kickOn s e = answer (s.advance e f) .done := by simp [kickOn, next]

end Kick

/-- Settles O27: the lease is renewed, and an entry that is not finite is moved on from. -/
theorem kickInRunningOrStalled : Obligations.KickInRunningOrStalled := by
  unfold Obligations.KickInRunningOrStalled
  intro h x s b e admitted fits active
  obtain ⟨o, operand⟩ := exists_operand fits
  have rule : ∀ {t c}, (s.allow.sched = .running ∨ s.allow.sched = .stalled) →
      kickAnswer ((s.during b).modAllow (fun a => { a with lease := some s.partTime })) o = answer t c →
      exec (.scheduleKick h x) s = answered t c [] b := by
    intro t c busy kick
    refine exec_scheduleKick admitted ((scheduleKickAnswer_eq operand).trans ?_)
    rw [renewedLease_of_busy (s := s.during b) busy]
    exact kick
  refine ⟨fun running finite => rule (.inl running) (kickAnswer_of_finite
    (s := (s.during b).modAllow (fun a => { a with lease := some s.partTime })) running active finite o), fun moving => ?_⟩
  have busy : s.allow.sched = .running ∨ s.allow.sched = .stalled := by tauto
  refine ⟨fun unposted => rule busy ?_, fun f link posted other => ?_⟩
  · exact (kickAnswer_of_moving (s := (s.during b).modAllow (fun a => { a with lease := some s.partTime })) active moving o).trans
      (kickOn_of_none (State.successor_eq_none unposted))
  · have taken := rule busy ((kickAnswer_of_moving (s := (s.during b).modAllow (fun a => { a with lease := some s.partTime }))
      active moving o).trans (kickOn_of_some (State.successor_eq_some link posted)))
    have after := State.allow_advance (s := (s.during b).modAllow (fun a => { a with lease := some s.partTime })) (e := e) (f := f)
    have entries := State.entry_of_entries (congrArg Allow.entries after)
    refine ⟨_, taken, by rw [after], by rw [after], by rw [after]; rfl, by rw [after]; rfl, (entries e).trans (if_pos rfl),
      fun g ne => (entries g).trans (if_neg ne), by rw [after]; rfl, State.told_advance, ?_⟩
    exact onlyChanges_trans (State.onlyChanges_modAllow _) State.onlyChanges_advance

/-! ### SCHEDULE_STOP (R64, R69) -/

namespace State

variable {s : State}

/-- The active entry keeps what remains of it now, any other entry stands (R64). -/
theorem entry_freezeActive (e : Fin 8) : s.freezeActive.entry e = { s.entry e with remaining := remainingAt s e } := by
  have other : s.allow.active ≠ some e → { s.entry e with remaining := remainingAt s e } = s.entry e := by
    intro ne
    simp [remainingAt, ne]
  unfold freezeActive
  split
  · rename_i none
    rw [other (by simp [none])]
  · rename_i k active
    by_cases same : e = k
    · subst same
      simp [remainingNow_eq]
    · rw [other (by simpa [active] using Ne.symm same)]
      simp [same]

theorem entry_foldl_modEntry (g : Fin 8 → Entry → Entry) (twice : ∀ e v, g e (g e v) = g e v) (es : List (Fin 8)) (s : State)
    (k : Fin 8) : (es.foldl (fun u e => u.modEntry e (g e)) s).entry k = if k ∈ es then g k (s.entry k) else s.entry k := by
  induction es generalizing s with
  | nil => simp
  | cons e es ih =>
    rw [List.foldl_cons, ih]
    by_cases same : k = e
    · subst same
      simp [twice]
    · simp [same]

/-- A posted entry that a stop returns. -/
def stoppedEntry (active : Option (Fin 8)) (e : Fin 8) (v : Entry) : Entry :=
  { v with byPart := false, status := if active = some e then .cut else .abandoned }

/-- The entries held by PART. -/
def postedEntries (s : State) : List (Fin 8) := (List.finRange 8).filter (fun e => (s.entry e).byPart)

/-- The state in which a stop forms A_eff: the posted entries returned, no entry active. -/
def unposted (s : State) : State :=
  (s.postedEntries.foldl (fun u e => u.modEntry e (stoppedEntry s.allow.active e)) s.freezeActive).modAllow
    (fun a => { a with active := none, sched := .idle, lease := none })

theorem stopSchedule_eq (s : State) :
    s.stopSchedule = if s.postedEntries = [] then s.unposted.formAllowance else s.unposted.allowanceEvent .stop none := rfl

theorem allow_stopSchedule (s : State) : s.stopSchedule.allow = { s.unposted.allow with aEff := s.unposted.formedAllowance } := by
  rw [stopSchedule_eq]
  split <;> simp

theorem entry_unposted (e : Fin 8) : s.unposted.entry e =
    if (s.entry e).byPart then { stoppedEntry s.allow.active e (s.entry e) with remaining := remainingAt s e }
    else { s.entry e with remaining := remainingAt s e } := by
  have folded := entry_foldl_modEntry (stoppedEntry s.allow.active) (fun _ _ => rfl) s.postedEntries s.freezeActive e
  refine Eq.trans folded ?_
  rw [entry_freezeActive]
  by_cases posted : (s.entry e).byPart <;> simp [postedEntries, posted, stoppedEntry]

theorem hold_unposted : s.unposted.allow.hold = s.allow.hold := by
  have kept := foldl_keeps s.freezeActive (fun u => u.allow.hold) (fun u e => u.modEntry e (stoppedEntry s.allow.active e))
    (fun _ _ => rfl) s.postedEntries
  exact kept.trans (freezeActive_schedule s).2.2.1

theorem works_unposted : s.unposted.works = s.works := by
  have kept := works_foldl s.freezeActive (fun u e => u.modEntry e (stoppedEntry s.allow.active e)) (fun _ _ => rfl) s.postedEntries
  exact kept.trans (by simp)

end State

theorem exec_scheduleStop {h : Head} {s : State} {b : Bundle} (admitted : Admitted (.scheduleStop h) h s b) :
    exec (.scheduleStop h) s = answered (s.during b).stopSchedule .done [] b :=
  exec_of_rule (body := fun s => answer s.stopSchedule .done) rfl admitted rfl

/-- Settles O28. -/
theorem scheduleStopEndsTheSchedule : Obligations.ScheduleStopEndsTheSchedule := by
  unfold Obligations.ScheduleStopEndsTheSchedule
  intro h s b admitted formed
  have sound := (allowanceFormed_iff s).mp formed admitted.running
  have after := State.allow_stopSchedule (s.during b)
  have aEff := State.formedAllowance_of_fallback (s := (s.during b).unposted) (.inl rfl)
  rw [State.hold_unposted, State.works_unposted] at aEff
  refine ⟨_, exec_scheduleStop admitted, by rw [after]; rfl, by rw [after]; rfl, by rw [after]; rfl, ?_, ?_,
    State.onlyChanges_stopSchedule, fun e => ?_⟩
  · rw [after]
    exact State.hold_unposted
  · rw [after]
    exact aEff
  · have entry : (s.during b).stopSchedule.entry e = (s.during b).unposted.entry e := by simp [State.entry, after]
    rw [entry, State.entry_unposted]
    by_cases posted : (s.entry e).byPart
    · simp only [during_entry, posted, if_true]
      rfl
    · have inactive : s.allow.active ≠ some e := fun active => posted (sound.posted e active)
      have own : (s.entry e).byPart = false := by simpa using posted
      rw [during_entry, if_neg posted, if_pos own]
      simp [remainingAt, inactive]

/-! ### HOLD and RELEASE (R70, R73, R74) -/

theorem renewedLease_during (s : State) (b : Bundle) : renewedLease (s.during b) = (renewedLease s).during b := by
  unfold renewedLease
  simp only [during_rest]
  split <;> rfl

namespace State

variable {s : State}

theorem allow_startHold (minutes : Nat) :
    (s.startHold minutes).allow = { s.allow with hold := some (s.partTime + 60 * minutes), aEff := 0 } := by
  have formed : (s.modAllow (fun a => { a with hold := some (s.partTime + 60 * minutes) })).formedAllowance = 0 := by
    simp [formedAllowance]
  unfold startHold
  dsimp only
  split <;> simp [formed]

theorem allow_endHold (sound : ScheduleSound s) (cause : AllowanceCause) :
    (s.endHold cause).allow = { s.allow with
      hold := none, aEff := min (allowanceBase (s.modAllow (fun a => { a with hold := none }))) s.works.cLeg } := by
  have formed := formedAllowance_eq (sound.hold none)
  simp only [endHold, kept_notifyAll, allowanceEvent_allow, formed]
  rfl

/-- What R75 forms A_eff from does not read the lease. -/
theorem allowanceBase_renewedLease :
    allowanceBase ((renewedLease s).modAllow (fun a => { a with hold := none })) =
      allowanceBase { s with allow := { s.allow with hold := none } } := by
  unfold renewedLease
  split <;> rfl

end State

theorem hold_renewedLease (s : State) : (renewedLease s).allow.hold = s.allow.hold := by
  unfold renewedLease
  split <;> rfl

theorem partTime_renewedLease (s : State) : (renewedLease s).partTime = s.partTime := by
  unfold renewedLease
  split <;> rfl

theorem works_renewedLease (s : State) : (renewedLease s).works = s.works := by
  unfold renewedLease
  split <;> rfl

theorem clamp_minutes (m : Nat) : clamp 1 240 m ≠ m ↔ ¬ (1 ≤ m ∧ m ≤ 240) := by
  unfold clamp
  omega

theorem holdAnswer_eq (minutes : Byte) (s : State) : holdAnswer minutes s =
    answer ((renewedLease s).startHold (max 1 (min 240 minutes.toNat)))
      (if 1 ≤ minutes.toNat ∧ minutes.toNat ≤ 240 then .done else .doneClamped) := by
  have clamped := clamp_minutes minutes.toNat
  unfold holdAnswer doneOr
  by_cases fits : 1 ≤ minutes.toNat ∧ minutes.toNat ≤ 240
  · have same : clamp 1 240 minutes.toNat = minutes.toNat := by
      by_contra ne
      exact clamped.mp ne fits
    simp only [same, ne_eq, not_true_eq_false, decide_false, Bool.false_eq_true, if_false, if_pos fits]
    rw [show max 1 (min 240 minutes.toNat) = minutes.toNat from same]
    rfl
  · simp only [decide_eq_true (clamped.mpr fits), if_true, if_neg fits]
    rfl

theorem releaseAnswer_of_free {s : State} (free : s.allow.hold = none) : releaseAnswer s = answer (renewedLease s) .notHeld := by
  simp [releaseAnswer, State.renewLease_eq, hold_renewedLease, free]

theorem releaseAnswer_of_held {s : State} (held : s.allow.hold.isSome) :
    releaseAnswer s = answer ((renewedLease s).endHold .holdEndRelease) .done := by
  simp [releaseAnswer, State.renewLease_eq, hold_renewedLease, held]

theorem ScheduleSound.renewedLease {s : State} (sound : AllowanceSound s) : ScheduleSound (renewedLease s) :=
  sound.renewLease.toScheduleSound

/-- Settles O30. -/
theorem holdAndRelease : Obligations.HoldAndRelease := by
  unfold Obligations.HoldAndRelease
  intro h s b
  refine ⟨fun minutes admitted => ⟨_, exec_of_rule (body := holdAnswer minutes) rfl admitted (holdAnswer_eq minutes _), ?_, ?_⟩,
    fun admitted => ⟨fun free => ?_, fun held formed => ?_⟩⟩
  · rw [State.allow_startHold, partTime_renewedLease, renewedLease_during]
    rfl
  · exact onlyChanges_trans State.onlyChanges_renewedLease (State.onlyChanges_startHold _)
  · exact exec_of_rule (body := releaseAnswer) rfl admitted (releaseAnswer_of_free (s := s.during b) free)
  · have sound : AllowanceSound (s.during b) := ((allowanceFormed_iff s).mp formed admitted.running).congr rfl rfl
    refine ⟨_, exec_of_rule (body := releaseAnswer) rfl admitted (releaseAnswer_of_held (s := s.during b) held),
      onlyChanges_trans State.onlyChanges_renewedLease (State.onlyChanges_endHold _), ?_⟩
    rw [State.allow_endHold (ScheduleSound.renewedLease sound), State.allowanceBase_renewedLease, works_renewedLease,
      renewedLease_during]
    rfl

/-! ### The timers (R66, R71, R74) -/

section Timers

variable {s : State} {e : Fin 8}

theorem exec_entryExpiry {r : Nat} (o : Open s) (running : s.allow.sched = .running) (active : s.allow.active = some e)
    (finite : (s.entry e).remaining = some r) (out : r ≤ s.partTime - s.allow.runSince) :
    exec .entryExpiry s = ended (s.expireEntry e) := by
  have due : s.expiryDue = some e := by
    simp [State.expiryDue, running, active, Option.filter_some, State.remainingNow, finite, Nat.sub_eq_zero_of_le out]
  rw [exec_event_due o rfl (by simp [due])]
  simp only [due]

theorem exec_leaseLapse {start : Nat} (o : Open s) (busy : s.allow.sched = .running ∨ s.allow.sched = .stalled)
    (lease : s.allow.lease = some start) (out : start + 60 * s.works.tLease ≤ s.partTime) :
    exec .leaseLapse s = ended s.lapseLease :=
  exec_event_due o rfl (by rcases busy with sched | sched <;> simp [State.lapseDue, State.leaseDue, sched, lease, out])

theorem exec_holdExpiry {x : Nat} (o : Open s) (held : s.allow.hold = some x) (out : x ≤ s.partTime) :
    exec .holdExpiry s = ended (s.endHold .holdEndExpiry) := by
  have due : holdDue s = true := by simp [holdDue, State.reached, held, out]
  exact exec_event_due (i := .holdExpiry) o rfl due

/-- The state in which a lapse forms A_eff. -/
def State.lapsed (s : State) : State := s.freezeActive.modAllow (fun a => { a with sched := .lapsed, lease := none })

theorem State.lapseLease_eq (s : State) : s.lapseLease = (s.lapsed.allowanceEvent .lapse none).notifyAll .lease leasePorts := rfl

theorem allow_lapseLease : s.lapseLease.allow = { s.lapsed.allow with aEff := s.lapsed.formedAllowance } := by
  simp [State.lapseLease_eq]

theorem mem_leasePorts {p : Port} (three : p = .works ∨ p = .siteA ∨ p = .siteB) : p ∈ leasePorts := by
  rcases three with rfl | rfl | rfl <;> decide

end Timers

/-- Settles O50. -/
theorem allowanceTimers : Obligations.AllowanceTimers := by
  unfold Obligations.AllowanceTimers
  intro s o formed
  have sound := (allowanceFormed_iff s).mp formed o.running
  refine ⟨fun e r running active finite out => ?_, fun start busy lease out => ?_, fun until_ held out => ?_⟩
  · refine ⟨_, exec_entryExpiry o running active finite out, ?_⟩
    have frame := State.onlyChanges_expireEntry (s := s) (e := e)
    cases next : s.successor e with
    | none =>
      rw [State.expireEntry_of_none next] at frame ⊢
      have after := State.allow_stall active
      have entries := State.entry_of_entries (congrArg Allow.entries after)
      have same : s.allow.aEff = if s.allow.hold.isSome then 0 else min (s.entry e).rate s.works.cLeg :=
        sound.formed.trans (State.formedAllowance_of_busy (.inl running) active)
      refine ⟨by rw [after], by rw [after], frame, State.told_stall, fun g ne => (entries g).trans (if_neg ne),
        fun _ => ⟨by rw [after], by rw [after]; exact active, by rw [after]; exact same.symm, (entries e).trans (if_pos rfl)⟩,
        fun f link posted _ => ?_⟩
      rw [State.successor_eq_some link posted] at next
      cases next
    | some k =>
      have after := State.allow_expireEntry_of_some next
      have entries := State.entry_of_entries (congrArg Allow.entries after)
      refine ⟨by rw [after], by rw [after], frame, ?_, fun g ne => (entries g).trans (if_neg ne), fun unposted => ?_,
        fun f link posted _ => ?_⟩
      · rw [State.expireEntry_of_some next]
        exact State.told_advance
      · rw [State.successor_eq_none unposted] at next
        cases next
      · rw [State.successor_eq_some link posted] at next
        cases next
        exact ⟨by rw [after], by rw [after], (entries e).trans (if_pos rfl), by rw [after]⟩
  · obtain ⟨-, active, hold, -⟩ := State.freezeActive_schedule s
    have works : s.lapsed.works = s.works := by simp [State.lapsed]
    have aEff := State.formedAllowance_of_fallback (s := s.lapsed) (.inr rfl)
    rw [works, show s.lapsed.allow.hold = s.allow.hold from hold] at aEff
    refine ⟨_, exec_leaseLapse o busy lease out, State.onlyChanges_lapseLease, by rw [allow_lapseLease]; rfl,
      by rw [allow_lapseLease]; exact active, by rw [allow_lapseLease]; rfl, by rw [allow_lapseLease]; exact hold, fun e => ?_,
      by rw [allow_lapseLease]; exact aEff, fun p three => State.told_notifyAll _ (mem_leasePorts three)⟩
    have entries : s.lapseLease.allow.entries = s.freezeActive.allow.entries := by rw [allow_lapseLease]; rfl
    have entry : s.lapseLease.entry e = s.freezeActive.entry e := congrArg (fun v => v.get e) entries
    exact entry.trans (State.entry_freezeActive e)
  · exact ⟨_, exec_holdExpiry o held out, State.onlyChanges_endHold _, State.allow_endHold sound.toScheduleSound _,
      fun p three => State.told_notifyAll _ (mem_leasePorts three)⟩

end Sys2Proof.Machine
end

section
/-! SUPPORT. The orders of a site about its drains, and the confirm deadline (R21, R22, R80 to R82, R106 to R111). -/

namespace Sys2Proof.Machine

namespace State

variable (s : State)

/-! ### A noted trigger stays noted through a zeroing (R95, R109) -/

variable {s} in
theorem trigger_clearOverdue {t : Fin 8} {cause : OverdueCause} (noted : s.trigger = true) :
    (s.clearOverdue t cause).trigger = true := by
  unfold clearOverdue
  split
  · exact noted
  · dsimp only
    split
    · rfl
    · simp [noted]

variable {s} in
theorem trigger_siteZero {t : Fin 8} {cause : OverdueCause} (noted : s.trigger = true) :
    (s.siteZero t cause).trigger = true := by
  have cleared := trigger_clearOverdue (t := t) (cause := cause) (s := s.modGrant t fun g =>
    { g with granted := 0, confirmed := 0, unsettled := false, deadline := none }) noted
  simp [siteZero, cleared]

variable {s} in
theorem trigger_stopZero {t : Fin 8} (noted : s.trigger = true) : (s.stopZero t).trigger = true := by
  exact trigger_siteZero (s := s.modGrant t _) noted

/-! ### DRAIN_STOP (R82, R109) -/

theorem drains_leaveList (t : Fin 8) (reason : DrainReason) :
    (s.leaveList t reason).drains = (s.drainList.filter (fun x => x ≠ t), s.globalSerial) := rfl

theorem onlyChanges_leaveList (t : Fin 8) (reason : DrainReason) :
    onlyChanges [.tanks, .drains, .trigger] s (s.leaveList t reason) := by
  intro area other
  cases area <;> first | rfl | exact absurd (by simp) other

theorem onlyChanges_stopZero (t : Fin 8) : onlyChanges [.tanks, .store, .notices, .trigger] s (s.stopZero t) := by
  intro area other
  cases area <;> simp [unchanged] at other ⊢

end State

section DrainStop

variable {s : State} {t : Fin 8}

theorem State.listed_iff : s.listed t = true ↔ t ∈ s.drainList := by simp [State.listed]

theorem drainStopAnswer_of_not_listed (out : t ∉ s.drainList) : drainStopAnswer t s = answer s .refusedState := by
  simp [drainStopAnswer, State.listed, out]

theorem drainStopAnswer_of_listed (listed : t ∈ s.drainList) :
    drainStopAnswer t s = answer ((s.leaveList t .stopped).stopZero t) .done := by
  simp [drainStopAnswer, State.listed, listed]

end DrainStop

/-- Settles O36: the leave notes the trigger, which the zeroing keeps, and the two write the tank one after the other. -/
theorem drainStopLeaves : Obligations.DrainStopLeaves := by
  unfold Obligations.DrainStopLeaves
  intro h x s b t admitted named own
  have ruled : ownTank h.port x drainStopAnswer (s.during b) = drainStopAnswer t (s.during b) :=
    ownTank_of_owner named admitted.role own
  refine ⟨fun out => ?_, fun listed => ?_⟩
  · exact exec_of_rule rfl admitted (ruled.trans (drainStopAnswer_of_not_listed out))
  · have taken := exec_of_rule rfl admitted (ruled.trans (drainStopAnswer_of_listed listed))
    have drains : (((s.during b).leaveList t .stopped).stopZero t).drains =
        (s.drainList.filter (fun k => k ≠ t), s.globalSerial) := by simp [State.drains_leaveList, State.during]
    refine ⟨_, taken, congrArg Prod.fst drains, State.trigger_stopZero rfl, ?_, fun k ne => ?_, congrArg Prod.snd drains, ?_⟩
    · simp [outOfList]
    · simp [ne]
    · exact onlyChanges_trans (onlyChanges_mono (by decide) (State.onlyChanges_leaveList _ _ _))
        (onlyChanges_mono (by decide) (State.onlyChanges_stopZero _ _))

namespace State

variable (s : State)

theorem tank_modCycle (t k : Fin 8) (f : Cycle → Cycle) :
    (s.modCycle t f).tank k = if k = t then { s.tank t with openCycle := (s.tank t).openCycle.map f } else s.tank k :=
  tank_modTank s t k _

/-! ### DRAIN_REQUEST (R37, R80, R81) -/

theorem tank_joinList (t k : Fin 8) (m n : Nat) :
    (s.joinList t m n).tank k =
      if k = t then { s.tank t with drain :=
        { status := .queued, reason := some .new, request := some { m := m, n := n, stamp := s.partTime } } }
      else s.tank k := by
  have tanks : ∀ l : List (Fin 8), ({ s with drainList := l } : State).tank = s.tank := fun _ => rfl
  simp only [joinList, tank_noteTrigger, tank_modDrain, tanks]

/-- An open cycle with no admission volume yet takes the volume held (R37). -/
def admitted (k : Tank) : Option Cycle :=
  k.openCycle.map (fun c =>
    match c.admission with
    | some _ => c
    | none => { c with admission := k.held.map (fun x => x.volume) })

theorem tank_noteAdmission (t k : Fin 8) :
    (s.noteAdmission t).tank k = if k = t then { s.tank t with openCycle := admitted (s.tank t) } else s.tank k := by
  have taken : (fun c : Cycle => if c.admission.isNone then { c with admission := (s.tank t).held.map (fun x => x.volume) } else c)
      = fun c => match c.admission with
        | some _ => c
        | none => { c with admission := (s.tank t).held.map (fun x => x.volume) } := by
    funext c
    cases c.admission <;> simp
  simp only [noteAdmission, tank_modCycle, taken, admitted]

theorem takeRequest_of_not_listed {t : Fin 8} (out : t ∉ s.drainList) (m n : Nat) :
    s.takeRequest t m n = (s.joinList t m n).noteAdmission t := by
  simp [takeRequest, listed, out]

theorem takeRequest_of_listed {t : Fin 8} (inList : t ∈ s.drainList) (m n : Nat) :
    s.takeRequest t m n = s.setRequest t m n := by
  simp [takeRequest, listed, inList]

theorem drains_setRequest (t : Fin 8) (m n : Nat) : (s.setRequest t m n).drains = s.drains := by
  unfold setRequest
  repeat' split
  all_goals rfl

theorem ports_takeRequest (t : Fin 8) (m n : Nat) : (s.takeRequest t m n).ports = s.ports := by
  unfold takeRequest setRequest
  repeat' split
  all_goals rfl

theorem onlyChanges_takeRequest (t : Fin 8) (m n : Nat) :
    onlyChanges [.tanks, .drains, .trigger] s (s.takeRequest t m n) := by
  intro area other
  cases area <;> simp [unchanged, noticeSets, ports_takeRequest] at other ⊢

/-- A listed tank's request takes the new m and n and keeps its stamp; a trigger is noted where one of them is new (R81). -/
theorem tank_setRequest {t : Fin 8} {r : Request} (held : (s.tank t).drain.request = some r) (m n : Nat) (k : Fin 8) :
    (s.setRequest t m n).tank k =
      if k = t then { s.tank t with drain := { (s.tank t).drain with request := some { r with m := m, n := n } } }
      else s.tank k := by
  simp only [setRequest, held]
  split
  · rename_i same
    obtain ⟨rfl, rfl⟩ := same
    by_cases e : k = t
    · subst e
      simp [← held]
    · simp [e]
  · simp

theorem trigger_setRequest {t : Fin 8} {r : Request} (held : (s.tank t).drain.request = some r) (m n : Nat) :
    (s.setRequest t m n).trigger = (s.trigger || !(r.m == m && r.n == n)) := by
  simp only [setRequest, held]
  split
  · simp_all
  · rename_i differs
    simp [noteTrigger]
    tauto

end State

section DrainRequest

variable {s : State} {t : Fin 8} {m n : Word}

/-- The m that a request is applied with (R80). -/
def requestTop (s : State) (t : Fin 8) (m : Word) : Nat := min m.toNat (s.tank t).set.mLimit

/-- The answer of an applied request (R80, R81). -/
def requestCode (s : State) (t : Fin 8) (m : Word) : Code := if (s.tank t).set.mLimit < m.toNat then .doneClamped else .done

theorem drainRequestAnswer_of_out_of_phase (out : t ∉ s.drainList) (notWet : (s.tank t).phase ≠ .wet)
    (notFull : (s.tank t).phase ≠ .full) : drainRequestAnswer m n t s = answer s .refusedState := by
  simp [drainRequestAnswer, State.listed, out, notWet, notFull]

theorem drainRequestAnswer_of_admissible (fit : t ∈ s.drainList ∨ (s.tank t).phase = .wet ∨ (s.tank t).phase = .full) :
    drainRequestAnswer m n t s =
      if requestTop s t m < n.toNat then answer s .refusedRange
      else answer (s.takeRequest t (requestTop s t m) n.toNat) (requestCode s t m) := by
  have passes : ¬ ((t ∉ s.drainList ∧ (s.tank t).phase ≠ .wet) ∧ (s.tank t).phase ≠ .full) := by tauto
  simp [drainRequestAnswer, State.listed, passes, requestTop, requestCode, doneOr]

theorem drainRequestAnswer_of_above (fit : t ∈ s.drainList ∨ (s.tank t).phase = .wet ∨ (s.tank t).phase = .full)
    (above : requestTop s t m < n.toNat) : drainRequestAnswer m n t s = answer s .refusedRange := by
  rw [drainRequestAnswer_of_admissible fit, if_pos above]

theorem drainRequestAnswer_of_within (fit : t ∈ s.drainList ∨ (s.tank t).phase = .wet ∨ (s.tank t).phase = .full)
    (within : n.toNat ≤ requestTop s t m) :
    drainRequestAnswer m n t s = answer (s.takeRequest t (requestTop s t m) n.toNat) (requestCode s t m) := by
  rw [drainRequestAnswer_of_admissible fit, if_neg (Nat.not_lt.mpr within)]

end DrainRequest

/-- Settles O35: each outcome is one equation of the rule; an applied request joins the list or replaces m and n. -/
theorem drainRequestRule : Obligations.DrainRequestRule := by
  unfold Obligations.DrainRequestRule
  intro h x m n s b t admitted named own top code
  have ruled : ownTank h.port x (drainRequestAnswer m n) (s.during b) = drainRequestAnswer m n t (s.during b) :=
    ownTank_of_owner named admitted.role own
  refine ⟨fun out notWet notFull => ?_, fun fit above => ?_, fun out wet within => ?_, fun r listed held within => ?_⟩
  · exact exec_of_rule rfl admitted (ruled.trans (drainRequestAnswer_of_out_of_phase out notWet notFull))
  · exact exec_of_rule rfl admitted (ruled.trans (drainRequestAnswer_of_above (s := s.during b) fit above))
  · have taken := exec_of_rule rfl admitted (ruled.trans (drainRequestAnswer_of_within (s := s.during b) (.inr wet) within))
    have joins : (s.during b).takeRequest t (requestTop (s.during b) t m) n.toNat =
        ((s.during b).joinList t top n.toNat).noteAdmission t := State.takeRequest_of_not_listed (s.during b) out _ _
    refine ⟨_, taken, ?_, ?_, ?_, fun k ne => ?_, ?_, State.onlyChanges_takeRequest _ _ _ _⟩
    · rw [joins]
      rfl
    · rw [joins]
      rfl
    · rw [joins, State.tank_noteAdmission, if_pos rfl, State.tank_joinList, if_pos rfl]
      rfl
    · rw [joins, State.tank_noteAdmission, if_neg ne, State.tank_joinList, if_neg ne]
      rfl
    · rw [joins]
      rfl
  · have taken := exec_of_rule rfl admitted (ruled.trans (drainRequestAnswer_of_within (s := s.during b) (.inl listed) within))
    have replaces : (s.during b).takeRequest t (requestTop (s.during b) t m) n.toNat = (s.during b).setRequest t top n.toNat :=
      State.takeRequest_of_listed (s.during b) listed _ _
    have drains := State.drains_setRequest (s.during b) t top n.toNat
    refine ⟨_, taken, ?_, ?_, ?_, fun k ne => ?_, ?_, State.onlyChanges_takeRequest _ _ _ _⟩
    · rw [replaces]
      exact congrArg Prod.fst drains
    · rw [replaces]
      exact State.trigger_setRequest (s.during b) held _ _
    · rw [replaces, State.tank_setRequest (s.during b) held, if_pos rfl]
      rfl
    · rw [replaces, State.tank_setRequest (s.during b) held, if_neg ne]
      rfl
    · rw [replaces]
      exact congrArg Prod.snd drains

end Sys2Proof.Machine
end

section
/-! SUPPORT. The confirm deadline (R106, R108, R110, R111). -/

namespace Sys2Proof.Machine

theorem and_noticeWord_settled_of_overdue (w : Word) :
    (w ||| noticeWord .overdue) &&& noticeWord .settled = w &&& noticeWord .settled := by
  have apart : noticeWord .overdue &&& noticeWord .settled = 0#16 := by decide
  rw [BitVec.and_comm, BitVec.and_or_distrib_left, BitVec.and_comm _ w, BitVec.and_comm _ (noticeWord .overdue), apart]
  simp

namespace State

variable {s : State} {t : Fin 8} {d : Deadline}

/-! ### The set of R110 (R111) -/

theorem anyWaiting_iff :
    s.anyWaiting = true ↔ ∃ k, (s.tank k).grant.unsettled = true ∧ (s.tank k).grant.overdueSince = none := by
  simp [anyWaiting, Grant.waiting]

theorem watchSettled_of_emptied {after : State} (before : s.anyWaiting = true) (empty : after.anyWaiting = false) :
    s.watchSettled after = after.notify .settled .works := by
  simp [watchSettled, before, empty]

theorem watchSettled_of_not_emptied {after : State} (stands : s.anyWaiting = false ∨ after.anyWaiting = true) :
    s.watchSettled after = after := by
  rcases stands with h | h <;> simp [watchSettled, h]

theorem noticesGrow_watchSettled (before after : State) : NoticesGrow after (watchSettled before after) := by
  unfold watchSettled
  split
  · exact NoticesGrow.notify _ _ _
  · exact NoticesGrow.of_ports rfl

/-! ### A tank becomes overdue (R106) -/

/-- The tank marked overdue, with the record of it handed over. -/
def markedOverdue (s : State) (t : Fin 8) (d : Deadline) : State :=
  (s.modGrant t (fun g => { g with overdueSince := some s.partTime, deadline := none })).overdueRecord t .deadline d.setAt

/-- The owner and WORKS are told. -/
def toldOverdue (s : State) (t : Fin 8) (d : Deadline) : State :=
  ((s.markedOverdue t d).notifyOwner .overdue t).notify .overdue .works

theorem tanks_toldOverdue : (s.toldOverdue t d).tanks =
    (s.modGrant t (fun g => { g with overdueSince := some s.partTime, deadline := none })).tanks := by
  simp [toldOverdue, markedOverdue]

theorem tank_toldOverdue (k : Fin 8) : (s.toldOverdue t d).tank k =
    if k = t then { s.tank t with grant := { (s.tank t).grant with overdueSince := some s.partTime, deadline := none } }
    else s.tank k :=
  (tank_congr tanks_toldOverdue k).trans (tank_modGrant s t k _)

theorem becomeOverdue_eq : s.becomeOverdue t d =
    if t ∈ s.drainList then (s.watchSettled (s.toldOverdue t d)).noteTrigger else s.watchSettled (s.toldOverdue t d) := by
  have drains : (s.watchSettled (s.toldOverdue t d)).drains = s.drains := by simp [toldOverdue, markedOverdue]
  have same : (s.watchSettled (s.toldOverdue t d)).listed t = s.listed t := listed_congr drains t
  by_cases listed : t ∈ s.drainList
  · rw [if_pos listed]
    exact if_pos (same.trans (listed_iff.mpr listed))
  · rw [if_neg listed]
    exact if_neg (fun now => listed (listed_iff.mp (same.symm.trans now)))

/-- A note of a trigger apart, a tank that becomes overdue leaves the told state, watched. -/
theorem tank_becomeOverdue (k : Fin 8) : (s.becomeOverdue t d).tank k =
    if k = t then { s.tank t with grant := { (s.tank t).grant with overdueSince := some s.partTime, deadline := none } }
    else s.tank k := by
  rw [becomeOverdue_eq, ← tank_toldOverdue (d := d)]
  split <;> simp

theorem ports_becomeOverdue : (s.becomeOverdue t d).ports = (s.watchSettled (s.toldOverdue t d)).ports := by
  rw [becomeOverdue_eq]
  split <;> rfl

theorem store_becomeOverdue : (s.becomeOverdue t d).store = (s.markedOverdue t d).store := by
  rw [becomeOverdue_eq]
  split <;> simp [toldOverdue]

theorem trigger_becomeOverdue : (s.becomeOverdue t d).trigger = (s.trigger || decide (t ∈ s.drainList)) := by
  rw [becomeOverdue_eq]
  split <;> simp_all [noteTrigger, toldOverdue, markedOverdue]

theorem onlyChanges_becomeOverdue : onlyChanges [.tanks, .store, .notices, .trigger] s (s.becomeOverdue t d) := by
  intro area other
  cases area <;> simp [unchanged] at other ⊢

/-! ### What the ports hear of it (R106, R111) -/

theorem noticesGrow_becomeOverdue : NoticesGrow (s.toldOverdue t d) (s.becomeOverdue t d) :=
  (noticesGrow_watchSettled s _).trans (NoticesGrow.of_ports ports_becomeOverdue)

theorem told_becomeOverdue_works : ((s.becomeOverdue t d).port .works).notices &&& noticeWord .overdue ≠ 0#16 :=
  noticesGrow_becomeOverdue _ _ (told_notify _ _ _)

theorem told_becomeOverdue_owner {p : Port} (owned : (s.tank t).owner ≠ .nobody) (owner : (s.tank t).owner = portOwner p) :
    ((s.becomeOverdue t d).port p).notices &&& noticeWord .overdue ≠ 0#16 := by
  have marked : ((s.markedOverdue t d).tank t).owner = (s.tank t).owner := by
    have tanks : (s.markedOverdue t d).tanks =
        (s.modGrant t (fun g => { g with overdueSince := some s.partTime, deadline := none })).tanks := by simp [markedOverdue]
    rw [tank_congr tanks, tank_modGrant, if_pos rfl]
  have mem : p ∈ ownerPort ((s.markedOverdue t d).tank t).owner := by
    rw [marked]
    exact (mem_ownerPort_iff _ _).mpr ⟨owned, owner⟩
  exact noticesGrow_becomeOverdue _ _ (NoticesGrow.notify _ _ _ _ _ (told_notifyAll _ mem))

/-- On WORKS the telling sets OVERDUE alone. -/
theorem notices_toldOverdue_works :
    ((s.toldOverdue t d).port .works).notices = (s.port .works).notices ||| noticeWord .overdue := by
  have record : (s.markedOverdue t d).port .works = s.port .works := by
    refine port_of_portsTold (s := s) ?_ (by decide)
    simp [markedOverdue, overdueRecord]
  have notOwner : Port.works ∉ ownerPort ((s.markedOverdue t d).tank t).owner := by
    rw [mem_ownerPort_iff]
    rintro ⟨some, works⟩
    exact some works
  simp only [toldOverdue, port_notify, if_true, notifyOwner, port_notifyAll, if_neg notOwner, record]

theorem anyWaiting_toldOverdue_iff : (s.toldOverdue t d).anyWaiting = true ↔
    ∃ k, k ≠ t ∧ (s.tank k).grant.unsettled = true ∧ (s.tank k).grant.overdueSince = none := by
  rw [anyWaiting_iff]
  refine exists_congr fun k => ?_
  by_cases e : k = t <;> simp [tank_toldOverdue, e]

theorem told_becomeOverdue_settled (waits : (s.tank t).grant.unsettled = true ∧ (s.tank t).grant.overdueSince = none)
    (last : ∀ k, k ≠ t → ¬ ((s.tank k).grant.unsettled = true ∧ (s.tank k).grant.overdueSince = none)) :
    ((s.becomeOverdue t d).port .works).notices &&& noticeWord .settled ≠ 0#16 := by
  have empty : (s.toldOverdue t d).anyWaiting = false := by
    rw [Bool.eq_false_iff, ne_eq, anyWaiting_toldOverdue_iff]
    rintro ⟨k, ne, waiting⟩
    exact last k ne waiting
  have ports := (ports_becomeOverdue (s := s) (t := t) (d := d)).trans
    (congrArg State.ports (watchSettled_of_emptied (anyWaiting_iff.mpr ⟨t, waits⟩) empty))
  exact NoticesGrow.of_ports ports _ _ (told_notify _ _ _)

theorem settled_becomeOverdue
    (stands : ¬ ((s.tank t).grant.unsettled = true ∧ (s.tank t).grant.overdueSince = none)
      ∨ ∃ k, k ≠ t ∧ (s.tank k).grant.unsettled = true ∧ (s.tank k).grant.overdueSince = none) :
    ((s.becomeOverdue t d).port .works).notices &&& noticeWord .settled = (s.port .works).notices &&& noticeWord .settled := by
  have quiet : s.anyWaiting = false ∨ (s.toldOverdue t d).anyWaiting = true := by
    by_cases others : (s.toldOverdue t d).anyWaiting = true
    · exact .inr others
    · refine .inl ?_
      rw [anyWaiting_toldOverdue_iff] at others
      rw [Bool.eq_false_iff, ne_eq, anyWaiting_iff]
      rintro ⟨k, waiting⟩
      by_cases e : k = t
      · subst e
        exact stands.elim (fun settled => settled waiting) others
      · exact others ⟨k, e, waiting⟩
  have ports := (ports_becomeOverdue (s := s) (t := t) (d := d)).trans (congrArg State.ports (watchSettled_of_not_emptied quiet))
  have works : (s.becomeOverdue t d).port .works = (s.toldOverdue t d).port .works :=
    congrArg (fun v : Vector PortState 4 => v.get (portIndex .works)) ports
  rw [works, notices_toldOverdue_works, and_noticeWord_settled_of_overdue]

end State

theorem exec_confirmDeadline {s : State} {t : Fin 8} {d : Deadline} (o : Open s) (deadline : (s.tank t).grant.deadline = some d)
    (out : d.due ≤ s.partTime) : exec (.confirmDeadline t) s = ended (s.becomeOverdue t d) := by
  rw [exec_event_due o rfl (by simp [deadlineDue, State.reached, deadline, out])]
  simp only [deadline]

/-- Settles O51: the state told of the overdue tank, watched for the set of R110, with a trigger where the tank is listed. -/
theorem confirmDeadlineRule : Obligations.ConfirmDeadlineRule := by
  unfold Obligations.ConfirmDeadlineRule
  intro t s d o deadline out waits
  refine ⟨_, exec_confirmDeadline o deadline out, ?_, fun k ne => ?_, State.store_becomeOverdue,
    State.told_becomeOverdue_works, fun p => State.told_becomeOverdue_owner, State.told_becomeOverdue_settled,
    State.settled_becomeOverdue, State.trigger_becomeOverdue, State.onlyChanges_becomeOverdue⟩
  · rw [State.tank_becomeOverdue, if_pos rfl]
  · rw [State.tank_becomeOverdue, if_neg ne]

end Sys2Proof.Machine
end

section
/-! SUPPORT. The orders of a site about a tank: its number, its owner, and the mark of the changed settings (R19, R21, R22,
R185). -/

namespace Sys2Proof.Machine

/-! ### The changed flag of an order's rule (R185) -/

section Marking

variable {f : State → Answer} {s t : State} {c : Code}

/-- The settings are marked as changed since they were saved (R185). -/
def State.marked (s : State) : State := s.modSave (fun v => { v with changed := true })

theorem marking_of_same (rule : f s = answer t c) (same : t.workingSettings = s.workingSettings) :
    marking f s = answer t c := by
  simp [marking, rule, answer, same]

theorem marking_of_refused (rule : f s = answer s c) : marking f s = answer s c := marking_of_same rule rfl

theorem marking_of_changed (rule : f s = answer t c) (changed : t.workingSettings ≠ s.workingSettings) :
    marking f s = answer t.marked c := by
  simp [marking, rule, answer, changed, State.marked]

end Marking

/-! ### A tank's number and its owner (R19, R22) -/

section TankOrder

variable {p : Port} {x : Byte} {s : State} {t : Fin 8}

theorem withTank_of_no_tank {body : Fin 8 → State → Answer} (out : 8 ≤ x.toNat) :
    withTank x body s = answer s .refusedRange := by
  simp [withTank, index_of_le out]

theorem withTank_of_tank {body : Fin 8 → State → Answer} (named : t.val = x.toNat) : withTank x body s = body t s := by
  simp [withTank, index_of_val named]

/-- A rule that refuses what names no tank, and what names a tank of another owner. -/
def SiteRule (p : Port) (x : Byte) (rule : State → Answer) : Prop :=
  ∀ s, (8 ≤ x.toNat → rule s = answer s .refusedRange)
    ∧ ∀ t : Fin 8, t.val = x.toNat → (s.tank t).owner ≠ portOwner p → rule s = answer s .refusedOwner

theorem siteRule_ownTank (p : Port) (x : Byte) (body : Fin 8 → State → Answer) : SiteRule p x (ownTank p x body) :=
  fun _ => ⟨ownTank_of_no_tank, fun _ => ownTank_of_other_owner⟩

theorem SiteRule.marking {rule : State → Answer} (site : SiteRule p x rule) : SiteRule p x (marking rule) :=
  fun s => ⟨fun out => marking_of_refused ((site s).1 out),
    fun t named other => marking_of_refused ((site s).2 t named other)⟩

theorem roleOf_eq_some {r : Byte} (lt : r.toNat < 3) : ∃ role, roleOf r = some role := by
  unfold roleOf
  generalize r.toNat = n at lt
  interval_cases n <;> simp

theorem siteRule_channelBindRule {r : Byte} (lt : r.toNat < 3) (v : BindOperands) :
    SiteRule p x (channelBindRule p x r v) := by
  obtain ⟨role, is⟩ := roleOf_eq_some lt
  have eq : channelBindRule p x r v = ownTank p x (channelBindAnswer role v) := by
    funext s
    simp [channelBindRule, is]
  exact eq ▸ siteRule_ownTank p x _

/-- The tank orders of an owner have a rule that checks the tank and its owner first. -/
theorem exists_siteRule {h : Head} {i : Instr}
    (order : i = .tankRelease h x ∨ (∃ v, i = .tankSet h x v) ∨ (∃ v, i = .shapeSet h x v)
      ∨ (∃ r v, i = .channelBind h x r v ∧ r.toNat < 3) ∨ (∃ m n, i = .drainRequest h x m n) ∨ i = .drainStop h x
      ∨ ∃ n r, i = .grantAck h x n r) :
    ∃ rule, SiteRule h.port x rule ∧ ∀ s, exec i s = .next (takeOrder i h (orderForm i) rule s) := by
  rcases order with rfl | ⟨v, rfl⟩ | ⟨v, rfl⟩ | ⟨r, v, rfl, lt⟩ | ⟨m, n, rfl⟩ | rfl | ⟨n, r, rfl⟩
  · exact ⟨_, (siteRule_ownTank _ _ _).marking, fun _ => rfl⟩
  · exact ⟨_, (siteRule_ownTank _ _ _).marking, fun _ => rfl⟩
  · exact ⟨_, (siteRule_ownTank _ _ _).marking, fun _ => rfl⟩
  · exact ⟨_, (siteRule_channelBindRule lt v).marking, fun _ => rfl⟩
  · exact ⟨_, siteRule_ownTank _ _ _, fun _ => rfl⟩
  · exact ⟨_, siteRule_ownTank _ _ _, fun _ => rfl⟩
  · exact ⟨_, siteRule_ownTank _ _ _, fun _ => rfl⟩

/-! ### TANK_CLAIM (R21) -/

theorem tankClaimAnswer_of_unclaimed (free : (s.tank t).owner = .nobody) :
    tankClaimAnswer p t s = answer (s.modTank t (fun k => { k with owner := portOwner p })) .done := by
  simp [tankClaimAnswer, free]

theorem tankClaimAnswer_of_claimed (owned : (s.tank t).owner ≠ .nobody) : tankClaimAnswer p t s = answer s .refusedOwner := by
  simp [tankClaimAnswer, owned]

theorem owner_workingSettings (s : State) (t : Fin 8) : (s.workingSettings.tanks.get t).owner = (s.tank t).owner := by
  simp [State.workingSettings, Vector.get_eq_getElem]

/-- A claim changes the working settings: the tank's owner is one of them (R184). -/
theorem workingSettings_claim (site : p ∈ sitePorts) (free : (s.tank t).owner = .nobody) :
    (s.modTank t (fun k => { k with owner := portOwner p })).workingSettings ≠ s.workingSettings := by
  intro same
  have owner := congrArg (fun w : Settings => (w.tanks.get t).owner) same
  simp only [owner_workingSettings, State.tank_modTank, if_true, free] at owner
  exact portOwner_ne_nobody site owner

end TankOrder

/-- Settles O32: the number of the tank first, then its owner; a claim of an unclaimed tank changes the settings. -/
theorem tankClaimAndOwnership : Obligations.TankClaimAndOwnership := by
  unfold Obligations.TankClaimAndOwnership
  intro h x s b
  refine ⟨fun admitted => ⟨fun out => ?_, fun t named => ?_⟩, fun i admitted order => ?_⟩
  · exact exec_of_rule rfl admitted (marking_of_refused (withTank_of_no_tank out))
  · by_cases free : (s.tank t).owner = .nobody
    · rw [if_pos free]
      exact exec_of_rule rfl admitted (marking_of_changed
        ((withTank_of_tank named).trans (tankClaimAnswer_of_unclaimed (s := s.during b) free))
        (workingSettings_claim (s := s.during b) admitted.role free))
    · rw [if_neg free]
      exact exec_of_rule rfl admitted (marking_of_refused
        ((withTank_of_tank named).trans (tankClaimAnswer_of_claimed (s := s.during b) free)))
  · obtain ⟨rule, site, form⟩ := exists_siteRule order
    refine ⟨fun out => ?_, fun t named other => ?_⟩
    · exact exec_of_rule (form s) admitted ((site (s.during b)).1 out)
    · exact exec_of_rule (form s) admitted ((site (s.during b)).2 t named other)

end Sys2Proof.Machine
end

section
/-! SUPPORT. What a record handed over leaves of the record store, and what the reclaim check makes of it (R142, R148, R149). -/

namespace Sys2Proof.Machine

/-- The record store but for what the hand-over of a record writes: numbers, queue, assembly buffer and state. -/
def Store.ring (v : Store) : Store :=
  { v with nextSeq := 0, queue := [], assembly := [], due := false, flushAt := none, lost := 0, state := .ready }

namespace State

/-- The record store but for what the hand-over of a record writes. -/
def ring (s : State) : Store := s.store.ring

variable (s : State)

/-! ### The ring under the hand-over of a record (R142 to R144) -/

@[simp] theorem store_ring : s.store.ring = s.ring := rfl

@[simp] theorem ring_notify (k : Notice) (p : Port) : (s.notify k p).ring = s.ring := rfl

@[simp] theorem ring_fillAssembly (n : Nat) : (fillAssembly n s).ring = s.ring := by
  induction n generalizing s with
  | zero => rfl
  | succ n ih =>
    unfold fillAssembly
    split
    · rfl
    · split
      · rw [ih]
        rfl
      · rfl

@[simp] theorem ring_loseRecord : s.loseRecord.ring = s.ring := rfl

@[simp] theorem ring_becomeWorn : s.becomeWorn.ring = s.ring := by
  unfold becomeWorn
  split <;> rfl

@[simp] theorem ring_enterFull : s.enterFull.ring = s.ring := rfl

@[simp] theorem ring_handOver (kind subject : Nat) (body : Nat → List Byte) : (s.handOver kind subject body).2.ring = s.ring := by
  unfold handOver
  dsimp only
  split_ifs <;> simp <;> rfl

@[simp] theorem ring_writeRecord (kind subject : Nat) (body : List Byte) : (s.writeRecord kind subject body).ring = s.ring := by
  simp [writeRecord]

@[simp] theorem ring_reclaimTotals (o : Fin 8) : (s.reclaimTotals o).ring = s.ring := by simp [reclaimTotals]

@[simp] theorem ring_askTotals (os : List (Fin 8)) : (s.askTotals os).ring = s.ring :=
  foldl_keeps s ring (fun s o => s.reclaimTotals o) (fun s o => s.ring_reclaimTotals o) os

@[simp] theorem ring_archiveRecord (old new : Nat) : (s.archiveRecord old new).ring = s.ring := by simp [archiveRecord]

/-! ### The reclaim check (R148) -/

/-- Nothing stands in the way of preparing the ahead block: it is not ERASED, none is prepared or being erased, and the store is
not WORN (R148, R157; log entry 27). -/
def preparable (b : Fin 64) : Prop :=
  s.store.state ≠ .worn ∧ s.blockStatus b ≠ .erased ∧ s.store.prep = none ∧ ∀ x, s.store.op ≠ some (.erase x)

theorem erasing_iff : s.erasing = true ↔ ∃ x, s.store.op = some (.erase x) := by
  unfold erasing
  split
  · rename_i x op
    simp [op]
  · rename_i other
    constructor
    · intro h
      exact absurd h (by simp)
    · rintro ⟨x, op⟩
      exact absurd op (other x)

theorem reclaimCheck_of_no_ahead (none_ : s.ahead = none) : s.reclaimCheck = s := by simp [reclaimCheck, none_]

theorem preparable_iff (b : Fin 64) : s.preparable b ↔
    (s.store.state = .worn || s.blockStatus b = .erased || s.store.prep.isSome || s.erasing) = false := by
  have op : (∀ x, s.store.op ≠ some (.erase x)) ↔ s.erasing = false := by
    rw [Bool.eq_false_iff, ne_eq, erasing_iff]
    push Not
    rfl
  simp [preparable, op]
  tauto

theorem reclaimCheck_of_ahead {b : Fin 64} (ahead : s.ahead = some b) [Decidable (s.preparable b ∧ s.reclaimable b = true)] :
    s.reclaimCheck = if s.preparable b ∧ s.reclaimable b = true then s.prepare b else s := by
  simp only [reclaimCheck, ahead]
  by_cases free : s.preparable b
  · rw [if_neg (by rw [(s.preparable_iff b).mp free]; simp)]
    simp [free]
  · have blocked : (s.store.state = .worn || s.blockStatus b = .erased || s.store.prep.isSome || s.erasing) = true := by
      rw [preparable_iff, Bool.not_eq_false] at free
      exact free
    rw [if_pos blocked, if_neg (fun both => free both.1)]

theorem mem_pendingOutfalls (b : Fin 64) (o : Fin 8) :
    o ∈ s.pendingOutfalls b ↔ s.outfallEnabled o = true ∧ ∃ n, s.store.notes.get o = some n ∧ n.block = b := by
  simp [pendingOutfalls, Option.any_eq_true]

theorem pairwise_pendingOutfalls (b : Fin 64) : (s.pendingOutfalls b).Pairwise (· < ·) :=
  (List.pairwise_lt_finRange 8).filter _

/-- The reclaim check is what the statements say of it. -/
theorem reclaimChecked_reclaimCheck : reclaimChecked s s.reclaimCheck := by
  have conditions : ∀ b, (s.ahead = some b ∧ s.store.state ≠ .worn ∧ s.blockStatus b ≠ .erased ∧ s.store.prep = none
      ∧ (∀ x, s.store.op ≠ some (.erase x)) ∧ belowMark s b) ↔ s.ahead = some b ∧ s.preparable b ∧ s.reclaimable b = true := by
    intro b
    rw [belowMark_iff]
    unfold preparable
    tauto
  unfold reclaimChecked
  simp only [conditions]
  classical
  constructor
  · rintro b ⟨ahead, both⟩
    refine ⟨s.pendingOutfalls b, s.mem_pendingOutfalls b, s.pairwise_pendingOutfalls b, ?_⟩
    rw [s.reclaimCheck_of_ahead ahead, if_pos both]
    rfl
  · intro none_
    cases ahead : s.ahead with
    | none => exact s.reclaimCheck_of_no_ahead ahead
    | some b => rw [s.reclaimCheck_of_ahead ahead, if_neg (fun both => none_ b ⟨ahead, both⟩)]

/-- But for the outfalls that it prepares, the reclaim check leaves the ring. -/
theorem ring_reclaimCheck : s.reclaimCheck.ring = { s.ring with prep := s.reclaimCheck.store.prep } := by
  classical
  cases ahead : s.ahead with
  | none =>
    rw [s.reclaimCheck_of_no_ahead ahead]
    rfl
  | some b =>
    rw [s.reclaimCheck_of_ahead ahead]
    split
    · have ring : (s.prepare b).ring = { s.ring with prep := some (s.pendingOutfalls b) } := by simp [prepare]; rfl
      have prep : (s.prepare b).store.prep = some (s.pendingOutfalls b) := (congrArg Store.prep ring :)
      rw [ring, prep]
    · rfl

end State

end Sys2Proof.Machine
end

section
/-! SUPPORT. The orders that read the records: the cursor, the archive mark, the next record (R152, R158, R159). -/

namespace Sys2Proof.Machine

/-! ### READ_FROM (R158) -/

/-- A number brought within the oldest and the next sequence number (R158). -/
theorem clamp_eq_of_le {lo hi n : Nat} (le : lo ≤ hi) :
    clamp lo hi n = if n < lo then lo else if hi < n then hi else n := by
  unfold clamp
  split
  · omega
  · split <;> omega

theorem readFromAnswer_of_le {s : State} {v : Long} (le : s.oldest ≤ s.store.nextSeq) :
    let n := if v.toNat < s.oldest then s.oldest else if s.store.nextSeq < v.toNat then s.store.nextSeq else v.toNat
    readFromAnswer v s =
      answer (s.modStore (fun q =>
        { q with cursor := n, demand := q.demand.filter (fun r => (s.pageAt n).any (fun y => y.1 = r)) }))
        (if n = v.toNat then .done else .doneClamped) := by
  intro n
  have clamped : clamp s.oldest s.store.nextSeq v.toNat = n := clamp_eq_of_le le
  simp only [readFromAnswer, clamped, doneOr, decide_eq_true_eq, ne_eq, ite_not]
  rfl

/-! ### ARCHIVE_UPTO (R152) -/

section Archive

variable {s : State} {v : Long} {mark : Nat}

theorem archiveUptoAnswer_of_le (le : v.toNat ≤ s.store.archiveMark) : archiveUptoAnswer v s = answer s .done := by
  simp [archiveUptoAnswer, le]

theorem archiveUptoAnswer_of_above (above : s.store.archiveMark < v.toNat) :
    archiveUptoAnswer v s = answer (s.raiseMark (min v.toNat (s.store.nextSeq - 1)))
      (if v.toNat < s.store.nextSeq then .done else .doneClamped) := by
  unfold archiveUptoAnswer
  rw [if_neg (Nat.not_le.mpr above)]
  by_cases known : v.toNat < s.store.nextSeq
  · rw [if_neg (Nat.not_le.mpr known), if_pos known, Nat.min_eq_left (by omega)]
  · rw [if_pos (Nat.not_lt.mp known), if_neg known, Nat.min_eq_right (by omega)]

namespace State

/-- The mark raised, with its record handed over. -/
def markNoted (s : State) (mark : Nat) : State :=
  (s.modStore (fun q => { q with archiveMark := mark })).archiveRecord s.store.archiveMark mark

theorem raiseMark_of_same : s.raiseMark s.store.archiveMark = s := by simp [raiseMark]

theorem raiseMark_of_other (other : mark ≠ s.store.archiveMark) : s.raiseMark mark = (s.markNoted mark).reclaimCheck :=
  if_neg other

theorem ring_raiseMark_of_other (other : mark ≠ s.store.archiveMark) :
    (s.raiseMark mark).ring = { s.ring with archiveMark := mark, prep := (s.raiseMark mark).store.prep } := by
  have noted : (s.markNoted mark).ring = { s.ring with archiveMark := mark } := ring_archiveRecord _ _ _
  rw [raiseMark_of_other other, ring_reclaimCheck, noted]

theorem archiveMark_raiseMark : (s.raiseMark mark).store.archiveMark = mark := by
  by_cases same : mark = s.store.archiveMark
  · subst same
    rw [raiseMark_of_same]
  · exact (congrArg Store.archiveMark (ring_raiseMark_of_other same) :)

theorem cursor_raiseMark : (s.raiseMark mark).store.cursor = s.store.cursor := by
  by_cases same : mark = s.store.archiveMark
  · subst same
    rw [raiseMark_of_same]
  · exact (congrArg Store.cursor (ring_raiseMark_of_other same) :)

theorem onlyChanges_raiseMark : onlyChanges [.store, .notices] s (s.raiseMark mark) := by
  intro area other
  cases area <;> simp [unchanged] at other ⊢

theorem joined_markNoted (left : s.store.nextSeq < 4294967295) (room : s.store.queue.length < 32) :
    joined s (s.markNoted mark) (recordOf s s.store.nextSeq 12 255 (beBytes 4 s.store.archiveMark ++ beBytes 4 mark)) :=
  handOver_joined (s.modStore (fun q => { q with archiveMark := mark })) 12 255 _ left room

end State

end Archive

/-- Settles O41: READ_FROM by the clamp of its number; ARCHIVE_UPTO raises the mark, notes it and runs the reclaim check. -/
theorem readFromAndArchiveUpto : Obligations.ReadFromAndArchiveUpto := by
  unfold Obligations.ReadFromAndArchiveUpto
  intro h v s b
  refine ⟨fun admitted le => ?_, fun admitted => ⟨fun le => ?_, fun above _ => ?_⟩⟩
  · exact exec_of_rule rfl admitted (readFromAnswer_of_le (s := s.during b) le)
  · exact exec_of_rule rfl admitted (archiveUptoAnswer_of_le (s := s.during b) le)
  · have taken := exec_of_rule rfl admitted (archiveUptoAnswer_of_above (s := s.during b) above)
    refine ⟨_, taken, State.archiveMark_raiseMark, State.cursor_raiseMark, State.onlyChanges_raiseMark, fun same => ?_,
      fun other => ⟨fun left room => ?_, ?_⟩⟩
    · exact (congrArg (s.during b).raiseMark same).trans State.raiseMark_of_same
    · exact State.joined_markNoted (s := s.during b) left room
    · rw [State.raiseMark_of_other (s := s.during b) (mark := min v.toNat ((s.during b).store.nextSeq - 1)) other]
      exact State.reclaimChecked_reclaimCheck _

/-! ### READ_NEXT (R159) -/

section ReadNext

variable {s : State} {k : Nat}

theorem readNext_of_end (atEnd : s.store.cursor = s.store.nextSeq) : s.readNext (k + 1) = (.atEnd, s) := by
  simp [State.readNext, atEnd]

theorem readNext_of_gap (more : s.store.cursor ≠ s.store.nextSeq) (below : s.store.cursor < s.oldest) :
    s.readNext (k + 1) = (.gap s.oldest, s.setCursor s.oldest) := by
  simp [State.readNext, more, below]

theorem readNext_of_held {r : List Byte} (more : s.store.cursor ≠ s.store.nextSeq) (known : s.oldest ≤ s.store.cursor)
    (above : s.programmedAbove s.store.cursor = false) (lowest : State.firstFrom s.store.cursor s.heldRecords = some r) :
    s.readNext (k + 1) = (.record r, s.setCursor (recordSequence r + 1)) := by
  simp [State.readNext, more, Nat.not_lt.mpr known, above, lowest]

section OnPage

variable {r : PageRef} {e : PageEntry} {stop : Nat} (more : s.store.cursor ≠ s.store.nextSeq)
  (known : s.oldest ≤ s.store.cursor) (above : s.programmedAbove s.store.cursor = true)
  (page : s.pageAt s.store.cursor = some (r, e, stop))

include more known above page

theorem readNext_of_not_buffered (out : s.buffered r = none) : s.readNext (k + 1) = (.busy, s.queueDemand r) := by
  simp [State.readNext, more, Nat.not_lt.mpr known, above, page, out]

theorem readNext_of_buffered {q : ReadBuffer} {x : List Byte} (buffered : s.buffered r = some q) (sound : q.sound = true)
    (lowest : State.firstFrom s.store.cursor q.records = some x) :
    s.readNext (k + 1) =
      (.record x, (s.setCursor (recordSequence x + 1)).modStore (fun v => { v with served := some r })) := by
  simp [State.readNext, more, Nat.not_lt.mpr known, above, page, buffered, sound, lowest]

theorem readNext_of_damaged {q : ReadBuffer} (buffered : s.buffered r = some q) (damaged : q.sound = false) :
    s.readNext (k + 1) = (.damaged e.first (stop - 1), s.setCursor stop) := by
  simp [State.readNext, more, Nat.not_lt.mpr known, above, page, buffered, damaged]

end OnPage

theorem queueDemand_of_loading {r : PageRef} (loading : s.loading r = true) : s.queueDemand r = s := by
  simp [State.queueDemand, loading]

theorem queueDemand_of_not_loading {r : PageRef} (idle : s.loading r = false) :
    s.queueDemand r = s.modStore (fun v => { v with demand := some r, prefetch := v.prefetch.filter (fun q => q.ref ≠ r) }) := by
  simp [State.queueDemand, idle]

end ReadNext

/-- An admitted READ_NEXT replies with what the reading finds. -/
theorem exec_readNext {h : Head} {s t : State} {b : Bundle} {a : ReadAnswer} {c : Code} {data : List Byte}
    (admitted : Admitted (.readNext h) h s b) (found : (s.during b).readNext 8 = (a, t))
    (reply : readNextReply t a = { state := t, code := c, data := data }) :
    exec (.readNext h) s = answered t c data b := by
  have form : exec (.readNext h) s = .next (takeOrder (.readNext h) h (orderForm (.readNext h)) readNextAnswer s) := rfl
  rw [form, takeOrder_answers admitted, readNextAnswer, found, reply]
  rfl

/-- Settles O42: the cases of the first try, in their order; each is one equation of the reading. -/
theorem readNextRule : Obligations.ReadNextRule := by
  unfold Obligations.ReadNextRule
  intro h s b admitted
  refine ⟨fun atEnd => ?_, fun more below => ?_, fun more known => ⟨fun r above lowest => ?_, fun r e stop above page => ?_⟩⟩
  · exact exec_readNext admitted (readNext_of_end (s := s.during b) atEnd) rfl
  · exact exec_readNext admitted (readNext_of_gap (s := s.during b) more below) rfl
  · exact exec_readNext admitted (readNext_of_held (s := s.during b) more known above lowest) rfl
  · refine ⟨fun out idle => ?_, fun out loading => ?_, fun q x buffered sound lowest => ?_, fun q buffered damaged => ?_⟩
    · have found := readNext_of_not_buffered (s := s.during b) (k := 7) more known above page out
      rw [queueDemand_of_not_loading (s := s.during b) idle] at found
      exact exec_readNext admitted found rfl
    · have found := readNext_of_not_buffered (s := s.during b) (k := 7) more known above page out
      rw [queueDemand_of_loading (s := s.during b) loading] at found
      exact exec_readNext admitted found rfl
    · exact exec_readNext admitted (readNext_of_buffered (s := s.during b) more known above page buffered sound lowest) rfl
    · exact exec_readNext admitted (readNext_of_damaged (s := s.during b) more known above page buffered damaged) rfl

end Sys2Proof.Machine
end

section
/-! SUPPORT. The fields of the records as 11.4 gives them, and the PERIOD records of a period's close (R135, R138, R142, R195). -/

namespace Sys2Proof.Machine

/-! ### Fields held at their limits (R195) -/

@[simp] theorem cappedBytes_one (v : Nat) : cappedBytes 1 v = beBytes 1 (min v 255) := rfl

@[simp] theorem cappedBytes_two (v : Nat) : cappedBytes 2 v = beBytes 2 (min v 65535) := rfl

@[simp] theorem cappedBytes_three (v : Nat) : cappedBytes 3 v = beBytes 3 (min v 16777215) := rfl

@[simp] theorem cappedBytes_four (v : Nat) : cappedBytes 4 v = beBytes 4 (min v 4294967295) := rfl

@[simp] theorem totalsBytes_eq (period count seconds : Nat) : totalsBytes period count seconds = totalsFields period count seconds :=
  rfl

@[simp] theorem eventBytes_eq (sequence : Nat) (v : Option SpillEvent) : eventBytes sequence v = eventFields sequence v := by
  cases v <;> rfl

/-- The bytes of a record depend on the state by its clock and its civil time alone (R142). -/
theorem recordOf_congr {s t : State} (same : t.outer = s.outer) (sequence kind subject : Nat) (body : List Byte) :
    recordOf t sequence kind subject body = recordOf s sequence kind subject body := by
  obtain ⟨-, clock, civil, -⟩ := State.outer_eq_iff.mp same
  simp only [recordOf, State.civilTime, State.partTime, clock, civil]

namespace State

variable (s : State)

/-! ### A record handed over, with numbers left (R142 to R144) -/

theorem fillAssembly_queue_length (n : Nat) : (fillAssembly n s).store.queue.length ≤ s.store.queue.length := by
  induction n generalizing s with
  | zero => exact Nat.le_refl _
  | succ n ih =>
    unfold fillAssembly
    split
    · exact Nat.le_refl _
    · rename_i queue
      split
      · refine (ih _).trans ?_
        simp [assemble, queue]
      · exact Nat.le_refl _

/-- The queue is longer by the record handed over at most. -/
theorem handOver_queue_length (kind subject : Nat) (body : Nat → List Byte) :
    (s.handOver kind subject body).2.store.queue.length ≤ s.store.queue.length + 1 := by
  have lost (u : State) : u.loseRecord.store.queue = u.store.queue := rfl
  have worn (u : State) : u.becomeWorn.store.queue = u.store.queue := by unfold becomeWorn; split <;> rfl
  unfold handOver
  dsimp only
  split_ifs
  · exact (fillAssembly_queue_length _ _).trans (by simp)
  · simp [lost]
  · simp [worn, lost]

theorem handOver_nextSeq {kind subject : Nat} {body : Nat → List Byte} (left : s.store.nextSeq < 4294967295) :
    (s.handOver kind subject body).2.store.nextSeq = s.store.nextSeq + 1 := by
  obtain ⟨-, next, -⟩ := s.handOver_holds kind subject body left
  exact next

/-! ### The PERIOD records (R135) -/

/-- The bytes of the PERIOD record of an outfall under a number. -/
def periodBytes (n : Nat) (o : Fin 8) : List Byte :=
  recordOf s n 7 o.val (totalsFields s.nextPeriod 0 0 ++ eventFields n (s.outfall o).event
    ++ beBytes 2 (min (s.outfall o).count 65535) ++ beBytes 3 (min (s.outfall o).seconds 16777215))

theorem joined_periodRecord (o : Fin 8) (left : s.store.nextSeq < 4294967295) (room : s.store.queue.length < 32) :
    joined s (s.periodRecord o) (s.periodBytes s.store.nextSeq o) := by
  have held := s.handOver_joined 7 o.val (fun n => totalsBytes s.nextPeriod 0 0 ++ eventBytes n (s.outfall o).event
    ++ cappedBytes 2 (s.outfall o).count ++ cappedBytes 3 (s.outfall o).seconds) left room
  simpa [periodRecord, periodBytes] using held

variable {s} in
theorem periodBytes_congr {t : State} (outer : t.outer = s.outer) (spill : t.spill = s.spill) :
    t.periodBytes = s.periodBytes := by
  funext n o
  have outfall : t.outfall o = s.outfall o := outfall_congr spill o
  have period : t.nextPeriod = s.nextPeriod := by simp [nextPeriod, spill]
  simp only [periodBytes, outfall, period, recordOf_congr outer]

/-- The records of a list of outfalls are held one after the other, under numbers that follow one another. -/
theorem heldRecords_foldl_periodRecord (l : List (Fin 8)) (left : s.store.nextSeq + l.length ≤ 4294967295)
    (room : s.store.queue.length + l.length ≤ 32) :
    (l.foldl periodRecord s).heldRecords =
      s.heldRecords ++ l.mapIdx (fun i o => s.periodBytes (s.store.nextSeq + i) o) := by
  induction l generalizing s with
  | nil => simp
  | cons o l ih =>
    simp only [List.length_cons] at left room
    have next : (s.periodRecord o).store.nextSeq = s.store.nextSeq + 1 := s.handOver_nextSeq (by omega)
    have queue : (s.periodRecord o).store.queue.length ≤ s.store.queue.length + 1 := s.handOver_queue_length _ _ _
    have first : (s.periodRecord o).heldRecords = s.heldRecords ++ [s.periodBytes s.store.nextSeq o] :=
      s.joined_periodRecord o (by omega) (by omega)
    have bytes : (s.periodRecord o).periodBytes = s.periodBytes := periodBytes_congr (by simp) (by simp)
    rw [List.foldl_cons, ih (s.periodRecord o) (by omega) (by omega), first, bytes, next]
    simp [List.mapIdx_cons, Nat.add_assoc, Nat.add_comm 1]

/-! ### The totals of the new period (R135) -/

/-- An outfall with the totals of a new period. -/
def zeroed (w : Outfall) : Outfall := { w with count := 0, seconds := 0 }

theorem outfall_foldl_zeroed (l : List (Fin 8)) (k : Fin 8) :
    (l.foldl (fun s o => s.modOutfall o zeroed) s).outfall k = if k ∈ l then zeroed (s.outfall k) else s.outfall k := by
  induction l generalizing s with
  | nil => rfl
  | cons o l ih =>
    rw [List.foldl_cons, ih, outfall_modOutfall]
    by_cases here : k = o
    · subst here
      simp [zeroed]
    · simp [here]

theorem spill_foldl_zeroed (l : List (Fin 8)) :
    (l.foldl (fun s o => s.modOutfall o zeroed) s).spill =
      { s.spill with outfalls := (l.foldl (fun s o => s.modOutfall o zeroed) s).spill.outfalls } := by
  induction l generalizing s with
  | nil => rfl
  | cons o l ih =>
    rw [List.foldl_cons, ih]
    rfl

/-- The records of the period handed over. -/
def periodNoted : State := s.enabledOutfalls.foldl periodRecord s

/-- The totals of the enabled outfalls begun anew. -/
def periodZeroed : State := s.enabledOutfalls.foldl (fun s o => s.modOutfall o zeroed) s.periodNoted

theorem spill_periodNoted : s.periodNoted.spill = s.spill := spill_foldl s _ (fun s o => by simp) _

theorem closePeriod_eq : s.closePeriod =
    ({ s.periodZeroed with spill := { s.periodZeroed.spill with periodNumber := s.periodZeroed.nextPeriod } } : State).dropOwed :=
  rfl

theorem spill_closePeriod : s.closePeriod.spill =
    { s.spill with periodNumber := s.nextPeriod, outfalls := s.periodZeroed.spill.outfalls } := by
  have zero : s.periodZeroed.spill = { s.spill with outfalls := s.periodZeroed.spill.outfalls } := by
    have folded := s.periodNoted.spill_foldl_zeroed s.enabledOutfalls
    rwa [spill_periodNoted] at folded
  have period : s.periodZeroed.nextPeriod = s.nextPeriod := by
    unfold nextPeriod
    rw [zero]
  rw [closePeriod_eq, period]
  show { s.periodZeroed.spill with periodNumber := s.nextPeriod } = _
  rw [zero]

theorem outfall_closePeriod (o : Fin 8) :
    s.closePeriod.outfall o = if s.outfallEnabled o then zeroed (s.outfall o) else s.outfall o := by
  have zero : s.closePeriod.outfall o = s.periodZeroed.outfall o := by
    show s.closePeriod.spill.outfalls.get o = _
    rw [spill_closePeriod]
    rfl
  rw [zero, periodZeroed, outfall_foldl_zeroed, outfall_congr s.spill_periodNoted]
  simp [enabledOutfalls]

theorem heldRecords_closePeriod : s.closePeriod.heldRecords = s.periodNoted.heldRecords := by
  have store : s.periodZeroed.store = s.periodNoted.store := 
    store_foldl s.periodNoted (fun s o => s.modOutfall o zeroed) (fun _ _ => rfl) _
  show s.periodZeroed.heldRecords = _
  unfold heldRecords
  rw [store]

end State

/-! ### CLOSE_PERIOD (R135) -/

section ClosePeriod

variable {s : State}

theorem closePeriodAnswer_of_none (none_ : s.enabledOutfalls.length = 0) : closePeriodAnswer s = answer s .refusedState := by
  simp [closePeriodAnswer, none_]

theorem closePeriodAnswer_of_no_room (some_ : s.enabledOutfalls.length ≠ 0)
    (full : 32 < s.store.queue.length + s.enabledOutfalls.length) : closePeriodAnswer s = answer s .busy := by
  simp only [closePeriodAnswer]
  rw [if_neg some_, if_pos full]

theorem closePeriodAnswer_of_room (some_ : s.enabledOutfalls.length ≠ 0)
    (room : s.store.queue.length + s.enabledOutfalls.length ≤ 32) : closePeriodAnswer s = answer s.closePeriod .done := by
  simp only [closePeriodAnswer]
  rw [if_neg some_, if_neg (Nat.not_lt.mpr room)]

theorem onlyChanges_closePeriod : onlyChanges [.spill, .store, .notices] s s.closePeriod := by
  intro area other
  cases area <;> simp [unchanged] at other ⊢

end ClosePeriod

/-- Settles O43: the records of the enabled outfalls in a fold, then the totals in a fold, then the number of the period. -/
theorem closePeriodRule : Obligations.ClosePeriodRule := by
  unfold Obligations.ClosePeriodRule
  intro h s b admitted n
  refine ⟨fun none_ => ?_, fun some_ full => ?_, fun some_ room => ?_⟩
  · exact exec_of_rule rfl admitted (closePeriodAnswer_of_none (s := s.during b) none_)
  · exact exec_of_rule rfl admitted (closePeriodAnswer_of_no_room (s := s.during b) some_ full)
  · have taken := exec_of_rule rfl admitted (closePeriodAnswer_of_room (s := s.during b) some_ room)
    have spill := (s.during b).spill_closePeriod
    have period : (s.during b).closePeriod.spill.periodNumber = s.nextPeriod := (congrArg (fun v => v.periodNumber) spill :)
    refine ⟨_, taken, period, (s.during b).outfall_closePeriod, (congrArg (fun v => v.set) spill :), onlyChanges_closePeriod,
      fun left => ?_⟩
    rw [period]
    exact (s.during b).heldRecords_closePeriod.trans ((s.during b).heldRecords_foldl_periodRecord _ left room)

end Sys2Proof.Machine
end

section
/-! SUPPORT. The bytes of each kind of record, and where a record handed over goes (R142 to R144, R195, 11.4). -/

namespace Sys2Proof.Machine

namespace State

variable (s : State)

/-! ### The hand-over of a record (R142 to R144) -/

theorem ports_fillAssembly (n : Nat) : (fillAssembly n s).ports = s.ports := by
  induction n generalizing s with
  | zero => rfl
  | succ n ih =>
    unfold fillAssembly
    split
    · rfl
    · split
      · exact ih _
      · rfl

/-- Filling ends with the queue empty or the assembly buffer full (R144). -/
theorem fillAssembly_done (n : Nat) (enough : 16 ≤ n + s.store.assembly.length) :
    (fillAssembly n s).store.queue = [] ∨ 16 ≤ (fillAssembly n s).store.assembly.length := by
  induction n generalizing s with
  | zero => exact .inr (by simpa [fillAssembly] using enough)
  | succ n ih =>
    unfold fillAssembly
    split
    · rename_i empty
      exact .inl empty
    · split
      · refine ih _ ?_
        simp only [assemble, modStore_store, List.length_append, List.length_cons, List.length_nil]
        omega
      · rename_i full
        exact .inr (Nat.not_lt.mp full)

/-- One record alone in the queue moves into an assembly buffer with room (R144). -/
theorem fillAssembly_of_one {r : List Byte} (n : Nat) (queue : s.store.queue = [r]) (room : s.store.assembly.length < 16) :
    fillAssembly (n + 2) s = s.assemble r [] := by
  have empty : (s.assemble r []).store.queue = [] := rfl
  rw [fillAssembly, queue]
  simp only [room, if_true]
  rw [fillAssembly, empty]

/-- The state with a record in the queue under the next number. -/
def queued (r : List Byte) : State :=
  s.modStore (fun v => { v with nextSeq := v.nextSeq + 1, queue := v.queue ++ [r] })

theorem handOver_of_room {kind subject : Nat} {body : Nat → List Byte} (left : s.store.nextSeq < 4294967295)
    (room : s.store.queue.length < 32) :
    s.handOver kind subject body =
      (s.store.nextSeq, fillAssembly 16 (s.queued (recordOf s s.store.nextSeq kind subject (body s.store.nextSeq)))) := by
  have bytes := s.recordBytes_eq s.store.nextSeq kind subject (body s.store.nextSeq)
  simp only [handOver, left, if_true, modStore_store, room]
  rw [← bytes]
  rfl

theorem handOver_of_no_room {kind subject : Nat} {body : Nat → List Byte} (left : s.store.nextSeq < 4294967295)
    (full : 32 ≤ s.store.queue.length) :
    s.handOver kind subject body = (s.store.nextSeq,
      (s.modStore (fun v => { v with nextSeq := s.store.nextSeq + 1, lost := min (v.lost + 1) 4294967295 })).notify .store .record) := by
  simp only [handOver, left, if_true, modStore_store, Nat.not_lt.mpr full, if_false]
  rfl

theorem notify_notify (k : Notice) (p : Port) : (s.notify k p).notify k p = s.notify k p := by
  simp only [notify, modPort, port, get_put, if_true, put_put, BitVec.or_assoc, BitVec.or_self]

theorem handOver_of_no_number {kind subject : Nat} {body : Nat → List Byte} (out : 4294967295 ≤ s.store.nextSeq) :
    s.handOver kind subject body = (0,
      (s.modStore (fun v => { v with lost := min (v.lost + 1) 4294967295, state := .worn })).notify .store .record) := by
  have given : s.handOver kind subject body = (0, s.loseRecord.becomeWorn) := if_neg (Nat.not_lt.mpr out)
  rw [given]
  congr 1
  unfold becomeWorn
  split
  · rename_i worn
    have already : s.store.state = .worn := worn
    simp only [loseRecord, satAdd, modStore, ← already]
  · exact notify_notify (s.modStore (fun v => { v with lost := min (v.lost + 1) 4294967295, state := .worn })) .store .record

/-! ### The kind of a record (R142, 11.4) -/

theorem recordKind_recordOf (sequence subject : Nat) {kind : Nat} (small : kind < 16) (body : List Byte) :
    recordKind (recordOf s sequence kind subject body) = kind := by
  have byte : byteAt (recordOf s sequence kind subject body) 8 = (kind + (if s.civil.isSome then 128 else 0)) % 256 := by
    simp [recordOf, byteAt, beBytes]
  rw [recordKind, byte]
  split <;> omega

theorem isCounting_recordOf (sequence subject : Nat) {kind : Nat} (small : kind < 16) (body : List Byte) :
    isCounting (recordOf s sequence kind subject body) = decide (3 ≤ kind ∧ kind ≤ 7) := by
  simp [isCounting, recordKind_recordOf s sequence subject small]

/-! ### The records of each kind (11.4) -/

theorem heldRecords_congr {s t : State} (same : t.store = s.store) : t.heldRecords = s.heldRecords := by
  simp [heldRecords, same]

/-- What stands beside the record that a block hands over leaves the records held. -/
theorem joined_of_store {s t u : State} {r : List Byte} (held : joined s t r) (same : u.store = t.store) : joined s u r :=
  (heldRecords_congr same).trans held

theorem binderCode_eq (b : Binder) : binderCode b = binderByte b := by
  rcases b with - | ⟨t, r⟩ | g | -
  · rfl
  · cases r <;> rfl
  · rfl
  · rfl

section Room

variable (left : s.store.nextSeq < 4294967295) (room : s.store.queue.length < 32)

include left room

theorem joined_writeRecord (kind subject : Nat) (body : List Byte) :
    joined s (s.writeRecord kind subject body) (recordOf s s.store.nextSeq kind subject body) :=
  s.handOver_joined kind subject (fun _ => body) left room

theorem joined_clockRecord (before : Option Nat) :
    joined s (s.clockRecord before) (recordOf s s.store.nextSeq 1 255
      (beBytes 4 (min (before.getD 0) 4294967295) ++ beBytes 4 (min (s.civilTime.getD 0) 4294967295) ++ beBytes 4 s.partTime)) :=
  s.joined_writeRecord left room _ _ _

theorem joined_alertRecord (before after : AlertLevel) (lead : Option (Fin 4)) (i15 d60 available : Nat) :
    joined s (s.alertRecord before after lead i15 d60 available) (recordOf s s.store.nextSeq 2
      (match lead with | some g => g.val | none => 255)
      ([BitVec.ofNat 8 (alertCode before), BitVec.ofNat 8 (alertCode after), if lead.isSome then 0#8 else 1#8]
        ++ beBytes 2 (min i15 65535) ++ beBytes 2 (min d60 65535)
        ++ [if lead.isSome then 0#8 else BitVec.ofNat 8 s.rain.tClear, BitVec.ofNat 8 available])) := by
  rw [alertRecord]
  cases lead <;> exact s.joined_writeRecord left room _ _ _

theorem joined_startRecord (scanned : Bool) (bad closes : Nat) :
    joined s (s.startRecord scanned bad closes) (recordOf s s.store.nextSeq 0 255
      ([if scanned then 1#8 else 0#8, BitVec.ofNat 8 (goodBlocks s)] ++ beBytes 2 (min bad 65535) ++ [BitVec.ofNat 8 closes])) := by
  rw [startRecord, goodCount_eq]
  cases scanned <;> exact s.joined_writeRecord left room _ _ _

theorem joined_channelRecord (c : Fin 16) (entered : Bool) (cause : FaultCause) :
    joined s (s.channelRecord c entered cause) (recordOf s s.store.nextSeq 9 c.val
      [BitVec.ofNat 8 (kindCode (s.channel c).kind), BitVec.ofNat 8 (binderByte (s.channel c).binder),
        if entered then 0#8 else 1#8, BitVec.ofNat 8 (causeCode cause)]) := by
  rw [channelRecord, binderCode_eq]
  cases entered <;> exact s.joined_writeRecord left room _ _ _

theorem joined_cycleRecord (t : Fin 8) (v : Cycle) (reason : EndReason) :
    joined s (s.cycleRecord t v reason) (recordOf s s.store.nextSeq 8
      (t.val + 8 * bit v.lateStart + 16 * modeCode v.mode + 64 * endCode reason)
      (beBytes 2 v.number.toNat ++ beBytes 4 (min (s.partTime - v.start) 4294967295) ++ beBytes 2 (min v.peakFill 65535)
        ++ beBytes 4 (min (v.peakTime - v.start) 4294967295)
        ++ beBytes 4 (match v.toFull with | some x => min x 4294967294 | none => 4294967295)
        ++ beBytes 4 (min (v.spillRef.getD 0) 4294967295) ++ beBytes 2 (min (v.returned.getD 0) 65535))) := by
  rw [cycleRecord]
  cases v.toFull <;> exact s.joined_writeRecord left room _ _ _

theorem joined_overdueRecord (t : Fin 8) (cause : OverdueCause) (time : Nat) :
    joined s (s.overdueRecord t cause time) (recordOf s s.store.nextSeq 11 t.val
      ([BitVec.ofNat 8 (overdueCauseCode cause), BitVec.ofNat 8 (ownerCode (s.tank t).owner)]
        ++ beBytes 2 (s.tank t).grant.serial.toNat ++ beBytes 2 (min (s.tank t).grant.granted 65535)
        ++ beBytes 2 (min (s.tank t).grant.confirmed 65535) ++ beBytes 2 (s.tank t).grant.acked.toNat
        ++ beBytes 4 (min time 4294967295))) :=
  s.joined_writeRecord left room _ _ _

theorem joined_allowanceRecord (cause : AllowanceCause) (returned : Option (Fin 8)) (before : Nat) :
    joined s (s.allowanceRecord cause returned before) (recordOf s s.store.nextSeq 10
      (match s.allow.active with | some e => e.val | none => 255)
      ([BitVec.ofNat 8 (allowanceCauseCode cause), BitVec.ofNat 8 (scheduleCode s.allow.sched)]
        ++ beBytes 2 (match s.allow.active with | some e => min (s.entry e).rate 65535 | none => 0)
        ++ [BitVec.ofNat 8 (match s.allow.active with | some e => entryStatusCode (s.entry e).status | none => 0),
            BitVec.ofNat 8 (match returned with | some e => e.val | none => 255)]
        ++ beBytes 2 (min before 65535) ++ beBytes 2 (min s.allow.aEff 65535)
        ++ [if s.allow.hold.isSome then 1#8 else 0#8]
        ++ beBytes 2 (match s.allow.hold with | some x => min (x - s.partTime) 65535 | none => 0))) := by
  rw [allowanceRecord, holdLeft]
  cases s.allow.active <;> cases returned <;> cases s.allow.hold <;> exact s.joined_writeRecord left room _ _ _

end Room

end State

end Sys2Proof.Machine
end

section
/-! SUPPORT. The records of a retirement, of an outfall's event and of an interrupted one, and where a record goes (R126 to
R131, R138, R139, R142 to R144, R153, R164). -/

namespace Sys2Proof.Machine

namespace State

variable (s : State)

/-! ### A retirement (R153) -/

/-- The block retired, out of the page table, the reads and into the retired list: steps 1 to 3 of a retirement. -/
def outOfRing (b : Fin 64) : State := (((s.setStatus b .retired).clearTable b).dropReads b).listRetired b

theorem store_outOfRing (b : Fin 64) :
    (s.outOfRing b).store = (((s.setStatus b .retired).clearTable b).dropReads b).store := by simp [outOfRing]

theorem retireBlock_eq (b : Fin 64) (page : Option (Fin 16)) : s.retireBlock b page =
    (((s.outOfRing b).writeRecord 13 b.val
      [byteOf (if page.isSome then 0 else 1), byteOf (indexCode page), byteOf (s.outOfRing b).goodCount]).notify
        .store .record).storeRequest := rfl

theorem goodCount_outOfRing (b : Fin 64) : (s.outOfRing b).goodCount = goodBlocks (s.setStatus b .retired) := by
  rw [← goodCount_eq]
  simp only [goodCount, isRetired, blockStatus, store_outOfRing]
  rfl

theorem joined_retireBlock (b : Fin 64) (page : Option (Fin 16)) (left : s.store.nextSeq < 4294967295)
    (room : s.store.queue.length < 32) :
    joined s (s.retireBlock b page) (recordOf s s.store.nextSeq 13 b.val
      [if page.isSome then 0#8 else 1#8, BitVec.ofNat 8 (match page with | some p => p.val | none => 255),
        BitVec.ofNat 8 (goodBlocks (s.setStatus b .retired))]) := by
  have outer : (s.outOfRing b).outer = s.outer := by simp [outOfRing]
  have kept : (s.outOfRing b).heldRecords = s.heldRecords := by
    simp only [heldRecords, store_outOfRing]
    rfl
  have next : (s.outOfRing b).store.nextSeq = s.store.nextSeq := by
    rw [store_outOfRing]
    rfl
  have queue : (s.outOfRing b).store.queue = s.store.queue := by
    rw [store_outOfRing]
    rfl
  have held := (s.outOfRing b).joined_writeRecord (by rwa [next]) (by rwa [queue]) 13 b.val
    [byteOf (if page.isSome then 0 else 1), byteOf (indexCode page), byteOf (s.outOfRing b).goodCount]
  rw [joined, kept, recordOf_congr outer, next] at held
  rw [retireBlock_eq]
  rw [goodCount_outOfRing] at held ⊢
  refine joined_of_store (t := (s.outOfRing b).writeRecord 13 b.val
    [byteOf (if page.isSome then 0 else 1), byteOf (indexCode page), byteOf (goodBlocks (s.setStatus b .retired))]) ?_ (by simp)
  cases page <;> exact held

/-! ### The event of an outfall (R126 to R131) -/

/-- An event that opens is the one of the statements, under the number that its record takes. -/
theorem eventOpened_newEvent (o : Fin 8) (start : Nat) :
    eventOpened s o start { s.newEvent o start with
      opening := if s.store.nextSeq < 4294967295 then s.store.nextSeq else 0 } := by
  refine ⟨rfl, rfl, rfl, rfl, rfl, rfl, rfl, rfl, rfl, rfl, rfl, ?_, ?_, ?_⟩
  · simp [newEvent, earlySpill, Phase.blind, or_assoc]
  · cases gauge : s.spill.set.dryGauge <;> simp [newEvent, unknownRain, gauge, Gauge.counts]
  · cases gauge : s.spill.set.dryGauge
    · simp [newEvent, drySpill, gauge]
    · simp [newEvent, drySpill, gauge, Gauge.counts, Gauge.d24, and_assoc, and_left_comm]
      exact fun _ _ => decide_eq_true_iff

theorem newEvent_countPeriod (o : Fin 8) (start : Nat) : (s.countPeriod o).newEvent o start = s.newEvent o start := rfl

/-- The number of a record handed over, 0 where no number is left (R142). -/
theorem handOver_number (kind subject : Nat) (body : Nat → List Byte) :
    (s.handOver kind subject body).1 = if s.store.nextSeq < 4294967295 then s.store.nextSeq else 0 := by
  unfold handOver
  dsimp only
  split_ifs <;> rfl

/-- The SPILL_OPEN of an outfall handed over. -/
def openRecord (o : Fin 8) (start : Nat) : Nat × State :=
  (s.countPeriod o).handOver 3 (o.val + eventFlagBits 8 (s.newEvent o start)) (fun _ =>
    totalsBytes s.spill.periodNumber ((s.countPeriod o).outfall o).count ((s.countPeriod o).outfall o).seconds
      ++ (s.countPeriod o).openBytes (s.newEvent o start))

/-- The event that an outfall opens, under its number. -/
def openedEvent (o : Fin 8) (start : Nat) : SpillEvent := { s.newEvent o start with opening := (s.openRecord o start).1 }

theorem openEvent_eq (o : Fin 8) (start : Nat) : s.openEvent o start =
    let noted := ((s.openRecord o start).2.modOutfall o (fun w => { w with event := some (s.openedEvent o start) })).notify
      .event .record
    if (s.newEvent o start).early then (noted.notify .earlySpill .record).notifyOwner .earlySpill o else noted := rfl

theorem eventOpened_openedEvent (o : Fin 8) (start : Nat) : eventOpened s o start (s.openedEvent o start) := by
  have number : (s.openRecord o start).1 = if s.store.nextSeq < 4294967295 then s.store.nextSeq else 0 := handOver_number _ _ _ _
  rw [openedEvent, number]
  exact s.eventOpened_newEvent o start

theorem spill_openEvent (o : Fin 8) (start : Nat) : (s.openEvent o start).spill =
    ((s.countPeriod o).modOutfall o (fun w => { w with event := some (s.openedEvent o start) })).spill := by
  have spill : (s.openRecord o start).2.spill = (s.countPeriod o).spill := by simp [openRecord]
  have same : ∀ u : State, u.spill = (s.countPeriod o).spill →
      (u.modOutfall o (fun w => { w with event := some (s.openedEvent o start) })).spill =
        ((s.countPeriod o).modOutfall o (fun w => { w with event := some (s.openedEvent o start) })).spill := by
    intro u eq
    simp only [modOutfall, outfall, eq]
  rw [openEvent_eq]
  dsimp only
  split
  · simpa using same _ spill
  · exact same _ spill

theorem outfall_openEvent (o k : Fin 8) (start : Nat) : (s.openEvent o start).outfall k =
    if k = o then { s.outfall o with count := min ((s.outfall o).count + 1) 65535, event := some (s.openedEvent o start) }
    else s.outfall k := by
  have here : (s.openEvent o start).outfall k = _ := outfall_congr (s.spill_openEvent o start) k
  rw [here]
  by_cases e : k = o <;> simp [e, countPeriod, satAdd]

theorem store_openEvent (o : Fin 8) (start : Nat) : (s.openEvent o start).store = (s.openRecord o start).2.store := by
  rw [openEvent_eq]
  dsimp only
  split <;> simp

theorem subject_eventFlagBits (n low : Nat) (v : SpillEvent) :
    n + eventFlagBits low v = n + low * bit v.early + 2 * low * bit v.dry + 4 * low * bit v.unknownRain := by
  unfold eventFlagBits
  ring

/-- Bytes 17 to 26 of a SPILL_OPEN (11.4). -/
theorem openBytes_newEvent (o : Fin 8) (start : Nat) : (s.countPeriod o).openBytes (s.newEvent o start) =
    beBytes 2 (min (s.partTime - start) 65535)
      ++ [BitVec.ofNat 8 s.spill.set.w1, BitVec.ofNat 8 (phaseCode (s.tank o).phase + 16 * alertCode s.rain.catchment)]
      ++ beBytes 2 (match (s.tank o).held with | some h => min h.fill 65535 | none => 65535)
      ++ [BitVec.ofNat 8 (match s.spill.set.dryGauge with | some g => g.val | none => 255)]
      ++ beBytes 2 (match s.spill.set.dryGauge with
          | some g => min ((s.gauge g).hourly.sum * (s.gauge g).tipDepth) 65535
          | none => 0) := by
  simp only [openBytes, newEvent]
  cases (s.tank o).held <;> cases s.spill.set.dryGauge <;> rfl

section Room

variable (left : s.store.nextSeq < 4294967295) (room : s.store.queue.length < 32)

include left room

theorem joined_openEvent (o : Fin 8) (start : Nat) :
    joined s (s.openEvent o start) (recordOf s s.store.nextSeq 3
      (o.val + 8 * bit (s.openedEvent o start).early + 16 * bit (s.openedEvent o start).dry
        + 32 * bit (s.openedEvent o start).unknownRain)
      (totalsFields s.spill.periodNumber (min ((s.outfall o).count + 1) 65535) (s.outfall o).seconds
        ++ beBytes 2 (min (s.partTime - start) 65535)
        ++ [BitVec.ofNat 8 s.spill.set.w1, BitVec.ofNat 8 (phaseCode (s.tank o).phase + 16 * alertCode s.rain.catchment)]
        ++ beBytes 2 (match (s.tank o).held with | some h => min h.fill 65535 | none => 65535)
        ++ [BitVec.ofNat 8 (match s.spill.set.dryGauge with | some g => g.val | none => 255)]
        ++ beBytes 2 (match s.spill.set.dryGauge with
            | some g => min ((s.gauge g).hourly.sum * (s.gauge g).tipDepth) 65535
            | none => 0))) := by
  have held := (s.countPeriod o).handOver_joined 3 (o.val + eventFlagBits 8 (s.newEvent o start)) (fun _ =>
    totalsBytes s.spill.periodNumber ((s.countPeriod o).outfall o).count ((s.countPeriod o).outfall o).seconds
      ++ (s.countPeriod o).openBytes (s.newEvent o start)) left room
  have counted : (s.countPeriod o).outfall o = { s.outfall o with count := min ((s.outfall o).count + 1) 65535 } := by
    simp [countPeriod, satAdd]
  have record : s.openRecord o start = (s.countPeriod o).handOver 3 (o.val + eventFlagBits 8 (s.newEvent o start)) (fun _ =>
    totalsBytes s.spill.periodNumber ((s.countPeriod o).outfall o).count ((s.countPeriod o).outfall o).seconds
      ++ (s.countPeriod o).openBytes (s.newEvent o start)) := rfl
  refine joined_of_store (t := (s.openRecord o start).2) ?_ (s.store_openEvent o start)
  rw [← record, subject_eventFlagBits, counted, openBytes_newEvent] at held
  simp only [List.append_assoc] at held ⊢
  exact held

end Room

/-! ### The count of an interval and the close of an event (R129, R131) -/

variable {s} {o : Fin 8} {v : SpillEvent}

/-- An event with its interval counted. -/
def countedEvent (v : SpillEvent) : SpillEvent := { v with counted := true, count := min (v.count + 1) 65535 }

/-- The interval of an outfall's event counted, in the totals and in the event. -/
def intervalCounted (s : State) (o : Fin 8) : State :=
  (s.countPeriod o).modEvent o (fun v => { v with counted := true, count := satAdd 65535 v.count 1 })

theorem outfall_intervalCounted (open_ : (s.outfall o).event = some v) (k : Fin 8) : (s.intervalCounted o).outfall k =
    if k = o then { s.outfall o with count := min ((s.outfall o).count + 1) 65535, event := some (countedEvent v) }
    else s.outfall k := by
  unfold intervalCounted modEvent countPeriod
  by_cases e : k = o <;> simp [e, open_, countedEvent, satAdd]

theorem countInterval_of_event (open_ : (s.outfall o).event = some v) (atStart : Bool) : s.countInterval o atStart =
    (((s.intervalCounted o).handOver 4 (o.val + 8 * bit atStart) ((s.intervalCounted o).countingBody o (some (countedEvent v))
      (offsetBack (s.partTime - v.blockStart) ++ [byteOf v.blockHours]))).2).notify .event .record := by
  have event : ((s.intervalCounted o).outfall o).event = some (countedEvent v) := by
    rw [outfall_intervalCounted open_, if_pos rfl]
  unfold intervalCounted at event
  unfold countInterval intervalCounted
  simp only [event]
  rfl

theorem joined_countInterval (left : s.store.nextSeq < 4294967295) (room : s.store.queue.length < 32)
    (open_ : (s.outfall o).event = some v) (atStart : Bool) :
    joined s (s.countInterval o atStart) (recordOf s s.store.nextSeq 4 (o.val + 8 * bit atStart)
      (totalsFields s.spill.periodNumber (min ((s.outfall o).count + 1) 65535) (s.outfall o).seconds
        ++ eventFields s.store.nextSeq (some (countedEvent v))
        ++ beBytes 3 (min (s.partTime - v.blockStart) 16777214) ++ [BitVec.ofNat 8 v.blockHours])) := by
  have held := (s.intervalCounted o).handOver_joined 4 (o.val + 8 * bit atStart)
    ((s.intervalCounted o).countingBody o (some (countedEvent v))
      (offsetBack (s.partTime - v.blockStart) ++ [byteOf v.blockHours])) left room
  rw [countInterval_of_event open_]
  refine joined_of_store (t := ((s.intervalCounted o).handOver 4 (o.val + 8 * bit atStart)
    ((s.intervalCounted o).countingBody o (some (countedEvent v))
      (offsetBack (s.partTime - v.blockStart) ++ [byteOf v.blockHours]))).2) ?_ rfl
  simp only [countingBody, outfall_intervalCounted open_, if_true, eventBytes_eq, totalsBytes_eq, List.append_assoc] at held ⊢
  exact held

/-- A counting record of an event that stands: its totals are those of the outfall (R138). -/
theorem joined_countingBody (left : s.store.nextSeq < 4294967295) (room : s.store.queue.length < 32) (kind subject : Nat)
    (event : Option SpillEvent) (tail : List Byte) :
    joined s (s.handOver kind subject (s.countingBody o event tail)).2 (recordOf s s.store.nextSeq kind subject
      (totalsFields s.spill.periodNumber (s.outfall o).count (s.outfall o).seconds ++ eventFields s.store.nextSeq event
        ++ tail)) := by
  have held := s.handOver_joined kind subject (s.countingBody o event tail) left room
  simp only [countingBody, eventBytes_eq, totalsBytes_eq] at held ⊢
  exact held

theorem rainPartial_eq (v : SpillEvent) :
    s.rainPartial v = v.gauge.any (fun g => decide ((s.gauge g).avail ≠ .available)) := by
  unfold rainPartial
  cases v.gauge <;> simp [Gauge.counts]

theorem rainBytes_eq (v : SpillEvent) : s.rainBytes v = beBytes 2 (match v.gauge with
    | some g => min (((s.gauge g).totalTips - v.tips.getD 0#32).toNat * (s.gauge g).tipDepth) 65534
    | none => 65535) := by
  unfold rainBytes
  cases v.gauge
  · rfl
  · simp [eventRain, Nat.min_comm]

theorem store_closeEvent : (s.closeEvent o v).store =
    ((s.handOver 5 (o.val + eventFlagBits 16 v + 128 * bit (s.rainPartial v))
      (s.countingBody o (some v) (offsetBack (s.partTime - v.start) ++ s.rainBytes v))).2.modStore (fun q =>
        { q with owed := (s.closeEvent o v).store.owed })).store := rfl

theorem joined_closeEvent (left : s.store.nextSeq < 4294967295) (room : s.store.queue.length < 32) (v : SpillEvent) :
    joined s (s.closeEvent o v) (recordOf s s.store.nextSeq 5
      (o.val + 16 * bit v.early + 32 * bit v.dry + 64 * bit v.unknownRain
        + 128 * bit (v.gauge.any (fun g => decide ((s.gauge g).avail ≠ .available))))
      (totalsFields s.spill.periodNumber (s.outfall o).count (s.outfall o).seconds ++ eventFields s.store.nextSeq (some v)
        ++ beBytes 3 (min (s.partTime - v.start) 16777214)
        ++ beBytes 2 (match v.gauge with
            | some g => min (((s.gauge g).totalTips - v.tips.getD 0#32).toNat * (s.gauge g).tipDepth) 65534
            | none => 65535))) := by
  have held := joined_countingBody (o := o) left room 5 (o.val + eventFlagBits 16 v + 128 * bit (s.rainPartial v)) (some v)
    (offsetBack (s.partTime - v.start) ++ s.rainBytes v)
  have records : (s.closeEvent o v).heldRecords = (s.handOver 5 (o.val + eventFlagBits 16 v + 128 * bit (s.rainPartial v))
      (s.countingBody o (some v) (offsetBack (s.partTime - v.start) ++ s.rainBytes v))).2.heldRecords := rfl
  rw [joined, records]
  rw [subject_eventFlagBits, rainPartial_eq, rainBytes_eq] at held ⊢
  rw [← List.append_assoc] at held
  exact held

/-- The records of an outfall's event (R126 to R131). -/
theorem spillRecords_of_room (left : s.store.nextSeq < 4294967295) (room : s.store.queue.length < 32) (o : Fin 8) :
    spillRecords s o := by
  refine ⟨fun start => ⟨s.openedEvent o start, ?_, s.eventOpened_openedEvent o start, s.joined_openEvent left room o start⟩,
    fun v open_ => ⟨joined_countInterval left room open_, joined_closeEvent left room v⟩⟩
  rw [outfall_openEvent, if_pos rfl]

/-! ### The close of an interrupted event (R139, R164) -/

/-- The offset that a counting record carries, 0 for a SPILL_OPEN. -/
def offsetOf (r : List Byte) : Nat := if recordKind r = 3 then 0 else fieldAt r 17 3

theorem carriedOffset_eq (r : List Byte) : carriedOffset r = if offsetOf r = 16777215 then none else some (offsetOf r) := by
  unfold carriedOffset offsetOf
  by_cases opens : recordKind r = 3 <;> simp [opens]

/-- The stored SPILL_OPEN of the event of a counting record. -/
def openOf (l : List (List Byte × Fin 64)) (o : Fin 8) (r : List Byte) : Option (List Byte × Fin 64) :=
  l.find? (fun q => decide (recordKind q.1 = 3) && decide (recordOutfall q.1 = o)
    && decide (recordSequence q.1 + offsetOf r = recordSequence r))

theorem openingRecord_of_lost {l : List (List Byte × Fin 64)} {r : List Byte}
    (lost : offsetOf r = 16777215 ∨ openOf l o r = none) : openingRecord l o r = none := by
  unfold openOf at lost
  unfold openingRecord
  rw [carriedOffset_eq]
  by_cases limit : offsetOf r = 16777215
  · simp [limit]
  · have gone := lost.resolve_left limit
    rw [if_neg limit, Option.bind_some, gone]
    rfl

theorem openingRecord_of_stored {l : List (List Byte × Fin 64)} {r : List Byte} {q : List Byte × Fin 64}
    (within : offsetOf r ≠ 16777215) (stored : openOf l o r = some q) : openingRecord l o r = some q.1 := by
  unfold openOf at stored
  unfold openingRecord
  rw [carriedOffset_eq, if_neg within, Option.bind_some, stored]
  rfl

/-- What the close of an interrupted event carries: its figures, and its start and flags as far as they are known. -/
def interruptedBody (r : List Byte) (start : List Byte) (n : Nat) : List Byte :=
  (r.drop 10).take 7
    ++ beBytes 3 (if offsetOf r = 16777215 then 16777215 else min (n - (recordSequence r - offsetOf r)) 16777215)
    ++ carriedFigures r ++ start ++ beBytes 2 65535

theorem interruptedClose_of_lost {l : List (List Byte × Fin 64)} {r : List Byte}
    (lost : offsetOf r = 16777215 ∨ openOf l o r = none) :
    interruptedClose l s o r = (s.handOver 5 (o.val + 8) (interruptedBody r (beBytes 3 16777215))).2 := by
  have offset := carriedOffset_eq r
  unfold interruptedClose interruptedBody
  by_cases limit : offsetOf r = 16777215
  · rw [if_pos limit] at offset
    simp only [openingRecord_of_lost lost, offset, if_pos limit]
  · rw [if_neg limit] at offset
    simp only [openingRecord_of_lost lost, offset, if_neg limit]

theorem interruptedClose_of_stored {l : List (List Byte × Fin 64)} {r : List Byte} {q : List Byte × Fin 64}
    (within : offsetOf r ≠ 16777215) (stored : openOf l o r = some q) :
    interruptedClose l s o r = (s.drawFree.handOver 5 (o.val + 8 + 16 * (byteAt q.1 9 / 8 % 8))
      (interruptedBody r (offsetBack (s.interruptedOffset q.1)))).2 := by
  have offset := carriedOffset_eq r
  rw [if_neg within] at offset
  unfold interruptedClose interruptedBody
  simp only [openingRecord_of_stored within stored, offset, if_neg within]

/-- The time that a close gives its own: civil time where it is set, part time otherwise (R142). -/
def closeTime (s : State) : Int :=
  match s.civilTime with
  | some x => x
  | none => s.partTime

theorem interruptedOffset_eq {opened : List Byte}
    (known : (fieldAt opened 4 4 : Int) - (fieldAt opened 17 2 : Int) ≤ s.closeTime) :
    s.interruptedOffset opened = (s.closeTime - ((fieldAt opened 4 4 : Int) - (fieldAt opened 17 2 : Int))).toNat := by
  unfold closeTime at known ⊢
  unfold interruptedOffset
  cases civil : s.civilTime with
  | none =>
    simp only [civil, Option.getD_none] at known ⊢
    rw [if_pos (by omega)]
    omega
  | some x =>
    simp only [civil, Option.getD_some] at known ⊢
    rw [if_pos (by omega)]
    omega

theorem interruptedRecord_of_room (left : s.store.nextSeq < 4294967295) (room : s.store.queue.length < 32)
    (stored : List (List Byte × Fin 64)) (o : Fin 8) (newest : List Byte) : interruptedRecord s stored o newest := by
  constructor
  · intro lost
    have held := s.handOver_joined 5 (o.val + 8) (interruptedBody newest (beBytes 3 16777215)) left room
    rw [← interruptedClose_of_lost (l := stored) lost] at held
    exact held
  · intro q within found start known
    have held := s.drawFree.handOver_joined 5 (o.val + 8 + 16 * (byteAt q.1 9 / 8 % 8))
      (interruptedBody newest (offsetBack (s.interruptedOffset q.1))) left room
    rw [← interruptedClose_of_stored (l := stored) within found, interruptedOffset_eq known,
      recordOf_congr (s := s) (t := s.drawFree) rfl] at held
    exact held

/-! ### The period's records (R135, R138) -/

theorem joined_reclaimTotals (left : s.store.nextSeq < 4294967295) (room : s.store.queue.length < 32) (o : Fin 8) :
    joined s (s.reclaimTotals o) (recordOf s s.store.nextSeq 6 (o.val + 8)
      (totalsFields s.spill.periodNumber (s.outfall o).count (s.outfall o).seconds
        ++ eventFields s.store.nextSeq (s.outfall o).event)) := by
  have held := joined_countingBody (o := o) left room 6 (o.val + 8) (s.outfall o).event []
  rw [List.append_nil] at held
  exact held

theorem joined_stretchTotals (left : s.store.nextSeq < 4294967295) (room : s.store.queue.length < 32) (o : Fin 8) (seconds : Nat) :
    joined s (s.stretchTotals o seconds) (recordOf s s.store.nextSeq 6 o.val
      (totalsFields s.spill.periodNumber (s.outfall o).count (s.outfall o).seconds
        ++ eventFields s.store.nextSeq (s.outfall o).event ++ beBytes 3 (min seconds 16777215))) :=
  joined_countingBody (o := o) left room 6 o.val (s.outfall o).event (cappedBytes 3 seconds)

/-! ### Where a record handed over goes (R142 to R144) -/

section HandOver

variable {kind subject : Nat} {body : Nat → List Byte} {r : List Byte}

theorem onlyChanges_fillAssembly (n : Nat) : onlyChanges [.store] s (fillAssembly n s) := by
  intro area other
  cases area <;> simp [unchanged, noticeSets, ports_fillAssembly] at other ⊢

theorem onlyChanges_queued (r : List Byte) : onlyChanges [.store] s (s.queued r) := by
  intro area other
  cases area <;> first | rfl | exact absurd (by simp) other

/-- With an empty queue a record stands in the assembly buffer at once, where that has room (R144). -/
theorem fillAssembly_queued_of_empty (queue : s.store.queue = []) (short : s.store.assembly.length < 16) :
    (fillAssembly 16 (s.queued r)).store = { s.store with
      nextSeq := s.store.nextSeq + 1, assembly := s.store.assembly ++ [r]
      due := s.store.due || isCounting r || decide (s.store.assembly.length = 15)
      flushAt := if s.store.assembly = [] then some (s.partTime + 30) else s.store.flushAt } := by
  have alone : (s.queued r).store.queue = [r] := by simp [queued, queue]
  rw [fillAssembly_of_one (s.queued r) 14 alone short]
  simp only [assemble, queued, modStore_store, queue]
  rfl

end HandOver

end State

/-- Settles O60: a record goes to the queue, into the lost count or makes the store WORN, and its bytes are those of its kind. -/
theorem recordHandOver : Obligations.RecordHandOver := by
  unfold Obligations.RecordHandOver
  intro s n
  refine ⟨?_, fun left room => ?_⟩
  · intro kind subject body small q r
    refine ⟨fun left room => ?_, fun left full => ?_, fun out => ?_⟩
    · obtain ⟨number, next, held, lost⟩ := s.handOver_holds kind subject body left
      rw [if_pos room, State.recordBytes_eq] at held
      rw [if_pos room] at lost
      have given := s.handOver_of_room (kind := kind) (subject := subject) (body := body) left room
      have ring := s.ring_handOver kind subject body
      refine ⟨number, next, held, lost, (congrArg Store.program ring :), ?_, ?_, fun empty short => ?_⟩
      · show (s.handOver kind subject body).2.store.queue = [] ∨ 16 ≤ (s.handOver kind subject body).2.store.assembly.length
        rw [given]
        exact State.fillAssembly_done _ 16 (by omega)
      · show onlyChanges [.store] s (s.handOver kind subject body).2
        rw [given]
        exact onlyChanges_trans (s.onlyChanges_queued _) (State.onlyChanges_fillAssembly _)
      · show (s.handOver kind subject body).2.store = _
        rw [given]
        have stood := State.fillAssembly_queued_of_empty (r := r) empty short
        rwa [show isCounting r = _ from s.isCounting_recordOf n subject small (body n)] at stood
    · have given := s.handOver_of_no_room (kind := kind) (subject := subject) (body := body) left full
      exact ⟨congrArg Prod.fst given, congrArg Prod.snd given⟩
    · have given := s.handOver_of_no_number (kind := kind) (subject := subject) (body := body) out
      exact ⟨congrArg Prod.fst given, congrArg Prod.snd given⟩
  · exact ⟨s.joined_clockRecord left room, fun old new => s.joined_writeRecord left room _ _ _, s.joined_alertRecord left room,
      s.joined_startRecord left room, s.joined_channelRecord left room, s.joined_cycleRecord left room,
      s.joined_overdueRecord left room, s.joined_allowanceRecord left room, fun b page => s.joined_retireBlock b page left room,
      State.interruptedRecord_of_room left room, fun o => ⟨State.spillRecords_of_room left room o,
        s.joined_periodRecord o left room, State.joined_reclaimTotals left room o, State.joined_stretchTotals left room o⟩⟩

end Sys2Proof.Machine
end

section
/-! SUPPORT. The hand-over of a page and the arbiter of the array (R144 to R149). -/

namespace Sys2Proof.Machine

namespace State

variable {s : State}

/-! ### A due page (R144) -/

/-- Filling takes as many records as the assembly buffer has room for, and no more than there are tries (R144). -/
theorem fillAssembly_of_empty (n : Nat) (small : n + s.store.assembly.length ≤ 16) :
    (fillAssembly n s).store.assembly = s.store.assembly ++ s.store.queue.take n
      ∧ (fillAssembly n s).store.queue = s.store.queue.drop n := by
  induction n generalizing s with
  | zero => simp [fillAssembly]
  | succ n ih =>
    unfold fillAssembly
    split
    · rename_i empty
      simp [empty]
    · rename_i r rest queue
      have room : s.store.assembly.length < 16 := by omega
      have short : n + (s.assemble r rest).store.assembly.length ≤ 16 := by
        simp only [assemble, modStore_store, List.length_append, List.length_cons, List.length_nil]
        omega
      obtain ⟨assembly, left⟩ := ih (s := s.assemble r rest) short
      rw [if_pos room, assembly, left, queue]
      simp [assemble]

/-- The page in the program buffer, the assembly buffer empty. -/
def pageHanded (s : State) : State :=
  s.modStore (fun v => { v with program := some v.assembly, assembly := [], due := false, flushAt := none })

theorem handPage_eq : s.handPage = fillAssembly 16 s.pageHanded := rfl

theorem onlyChanges_handPage : onlyChanges [.store] s s.handPage := by
  have handed : onlyChanges [.store] s s.pageHanded := by
    intro area other
    cases area <;> first | rfl | exact absurd (by simp) other
  exact onlyChanges_trans handed (onlyChanges_fillAssembly 16)

end State

/-- Settles O53: the page passes on as it stands, and the empty assembly buffer takes sixteen records at most. -/
theorem pageHandoverRule : Obligations.PageHandoverRule := by
  unfold Obligations.PageHandoverRule
  intro s o
  refine ⟨fun at_ set out => ?_, fun due free => ?_⟩
  · exact exec_event_due (i := .flushTimerExpiry) o rfl (by simp [flushDue, State.reached, set, out])
  · have taken : exec .pageHandover s = ended s.handPage :=
      exec_event_due (i := .pageHandover) o rfl (by simp [handoverDue, due, free])
    obtain ⟨-, next, lost, program, -⟩ := State.fillAssembly_moves s.pageHanded 16
    obtain ⟨assembly, queue⟩ := State.fillAssembly_of_empty (s := s.pageHanded) 16 (Nat.le_refl _)
    rw [← State.handPage_eq] at next lost program assembly queue
    refine ⟨_, taken, program, assembly, queue, next, lost, ?_, State.onlyChanges_handPage⟩
    unfold State.heldRecords
    rw [program, assembly, queue]
    simp [State.pageHanded, free]

end Sys2Proof.Machine
end

section
/-! SUPPORT. The arbiter of the array (R145 to R149, R154, R157). -/

namespace Sys2Proof.Machine

namespace State

variable {s : State}

/-! ### The ahead block (R145) -/

theorem isRetired_iff (b : Fin 64) : s.isRetired b = true ↔ s.blockStatus b = .retired := by simp [isRetired]

theorem ahead_eq_some_iff (b : Fin 64) : s.ahead = some b ↔
    ∃ c i, s.store.current = some c ∧ 1 ≤ i ∧ i ≤ 63 ∧ b = Fin.ofNat 64 (c.val + i) ∧ s.blockStatus b ≠ .retired
      ∧ ∀ j, 1 ≤ j → j < i → s.blockStatus (Fin.ofNat 64 (c.val + j)) = .retired := by
  unfold ahead
  simp only [Option.bind_eq_some_iff, List.find?_map, Option.map_eq_some_iff, List.find?_range_eq_some, List.mem_range,
    Function.comp_apply, Bool.not_not, Bool.not_eq_true', ← Bool.not_eq_true, isRetired_iff]
  constructor
  · rintro ⟨c, current, i, ⟨good, lt, before⟩, rfl⟩
    refine ⟨c, i + 1, current, by omega, by omega, by rw [Nat.add_assoc, Nat.add_comm 1], good, fun j pos lt => ?_⟩
    have retired := before (j - 1) (by omega)
    rwa [show c.val + 1 + (j - 1) = c.val + j by omega] at retired
  · rintro ⟨c, i, current, pos, le, rfl, good, before⟩
    have place : c.val + 1 + (i - 1) = c.val + i := by omega
    refine ⟨c, current, i - 1, ⟨by rwa [place], by omega, fun j lt => ?_⟩, by rw [place]⟩
    have retired := before (j + 1) (by omega) (by omega)
    rwa [show c.val + (j + 1) = c.val + 1 + j by omega] at retired

theorem aheadErased_eq_some {b : Fin 64} (ahead : s.ahead = some b) (erased : s.blockStatus b = .erased) :
    s.aheadErased = some b := by
  simp [aheadErased, ahead, erased]

theorem aheadErased_eq_none (none_ : ∀ b, s.ahead = some b → s.blockStatus b ≠ .erased) : s.aheadErased = none := by
  unfold aheadErased
  cases ahead : s.ahead with
  | none => rfl
  | some b => simp [none_ b ahead]

/-! ### The operation that waits (R147) -/

theorem programWaiting_of_ready {c : Fin 64} {p : Fin 16} {records : List (List Byte)} (ready : s.store.state = .ready)
    (current : s.store.current = some c) (program : s.store.program = some records) (point : s.store.writePage = p.val) :
    s.programWaiting = some (.program ⟨c, p⟩ false) := by
  simp [programWaiting, ready, current, program, point]

section Relocating

variable {b c : Fin 64} {q : Relocation} (relocating : s.store.state = .relocating) (current : s.store.current = some c)
  (reloc : s.store.reloc = some q) (ahead : s.aheadErased = some b)

include relocating current reloc ahead

theorem programWaiting_of_copy {p : Fin 16} (next : p.val = q.next) (below : q.next < q.page.val) :
    s.programWaiting = some (.copy p c b) := by
  have place : (⟨q.next, by omega⟩ : Fin 16) = p := Fin.ext next.symm
  simp [programWaiting, relocating, current, reloc, ahead, below, place]

theorem programWaiting_of_copied (done : q.page.val ≤ q.next) : s.programWaiting = some (.program ⟨b, q.page⟩ true) := by
  simp [programWaiting, relocating, current, reloc, ahead, Nat.not_lt.mpr done]

end Relocating

theorem programWaiting_eq_none
    (ready : s.store.state = .ready → s.store.current = none ∨ s.store.program = none ∨ 16 ≤ s.store.writePage)
    (relocating : s.store.state = .relocating → s.store.reloc = none ∨ ∀ b, s.ahead = some b → s.blockStatus b ≠ .erased) :
    s.programWaiting = none := by
  unfold programWaiting
  split
  · rename_i state current program
    have full : 16 ≤ s.store.writePage := by simpa [current, program] using ready state
    rw [dif_neg (by omega)]
  · rename_i state current
    rcases relocating state with none_ | none_
    · simp [none_]
    · simp [aheadErased_eq_none none_]
  · rfl

theorem eraseWaiting_eq_some {b : Fin 64} {os : List (Fin 8)} (ahead : s.ahead = some b) (prep : s.store.prep = some os)
    (ripe : os = [] ∨ s.store.state = .full) (sound : s.store.state ≠ .worn) : s.eraseWaiting = some (.erase b) := by
  rcases ripe with rfl | full
  · simp [eraseWaiting, ahead, prep, sound]
  · simp [eraseWaiting, ahead, prep, full]

theorem eraseWaiting_eq_none
    (none_ : s.store.state = .worn ∨ s.ahead = none ∨ ∀ os, s.store.prep = some os → os ≠ [] ∧ s.store.state ≠ .full) :
    s.eraseWaiting = none := by
  unfold eraseWaiting
  split
  · rename_i b os ahead prep
    rcases none_ with worn | out | unripe
    · simp [worn]
    · simp [out] at ahead
    · simp [unripe os prep]
  · rfl

section Choice

variable (idle : s.store.demand = none)

include idle

theorem arbiterChoice_of_program {op : ArrayOp} (waits : s.programWaiting = some op) : s.arbiterChoice = some op := by
  simp [arbiterChoice, idle, waits]

theorem arbiterChoice_of_erase {op : ArrayOp} (none_ : s.programWaiting = none) (waits : s.eraseWaiting = some op) :
    s.arbiterChoice = some op := by
  simp [arbiterChoice, idle, none_, waits]

theorem arbiterChoice_of_prefetch {q : WaitingPrefetch} (noProgram : s.programWaiting = none) (noErase : s.eraseWaiting = none)
    (waits : s.store.prefetch = some q) : s.arbiterChoice = some (.read q.ref (some q.buffer)) := by
  simp [arbiterChoice, idle, noProgram, noErase, waits]

end Choice

theorem arbiterChoice_of_demand {r : PageRef} (waits : s.store.demand = some r) : s.arbiterChoice = some (.read r none) := by
  simp [arbiterChoice, waits]

/-! ### The outfalls owed (R149) -/

theorem mem_owed_finishEvent (o : Fin 8) :
    o ∈ s.finishEvent.store.owed ↔ o ∈ s.store.owed ∧ s.outfallEnabled o = true := by
  have dropped (u : State) (store : u.store = s.store) (enabled : u.outfallEnabled = s.outfallEnabled) :
      u.dropOwed.store.owed = s.store.owed.filter s.outfallEnabled := by
    rw [dropOwed, modStore_store, enabled, store]
  rw [← List.mem_filter]
  cases noted : s.trigger with
  | false => rw [finishEvent_of_no_trigger noted, dropped s rfl rfl]
  | true =>
    rw [finishEvent_of_trigger noted, dropped]
    · simp
    · exact outfallEnabled_congr (by simp) (by simp)

/-- At the start of an erase the outfalls still pending become owed. -/
theorem mem_owed_beginErase {b : Fin 64} {os : List (Fin 8)} (prep : s.store.prep = some os) (o : Fin 8) :
    o ∈ (s.beginOperation (.erase b)).store.owed ↔ o ∈ s.store.owed ∨ o ∈ os := by
  simp only [beginOperation, modStore_store, prep, Option.getD_some, List.mem_append, List.mem_filter]
  by_cases owed : o ∈ s.store.owed <;> simp [owed]

end State

theorem exec_arrayOperationStart {s : State} {op : ArrayOp} (o : Open s) (free : s.store.op = none)
    (choice : s.arbiterChoice = some op) : exec .arrayOperationStart s = ended (s.beginOperation op) := by
  rw [exec_event_due (i := .arrayOperationStart) o rfl (by simp [operationDue, free, choice])]
  simp only [choice]

/-- Settles O54: the arbiter's choice class by class, the reclaim check and the ahead block each by its lemma. -/
theorem arbiterOrder : Obligations.ArbiterOrder := by
  unfold Obligations.ArbiterOrder
  intro s o free
  refine ⟨fun r waits => ?_, fun c records p idle ready current program point => ?_,
    fun c b q idle relocating current reloc ahead erased => ?_, ?_, s.reclaimChecked_reclaimCheck, State.ahead_eq_some_iff⟩
  · have taken := exec_arrayOperationStart o free (State.arbiterChoice_of_demand waits)
    exact taken
  · have taken := exec_arrayOperationStart o free
      (State.arbiterChoice_of_program idle (State.programWaiting_of_ready ready current program point))
    exact taken
  · have there := State.aheadErased_eq_some ahead erased
    refine ⟨fun p next below => ?_, fun done => ?_⟩
    · have taken := exec_arrayOperationStart o free
        (State.arbiterChoice_of_program idle (State.programWaiting_of_copy relocating current reloc there next below))
      exact taken
    · have taken := exec_arrayOperationStart o free
        (State.arbiterChoice_of_program idle (State.programWaiting_of_copied relocating current reloc there done))
      exact taken
  · intro noProgram noErase idle programless
    have none_ : s.programWaiting = none := State.programWaiting_eq_none programless.1 programless.2
    refine ⟨fun b os ahead prep ripe sound => ?_, fun q eraseless waits => ?_⟩
    · have waits := State.eraseWaiting_eq_some ahead prep ripe sound
      refine ⟨_, exec_arrayOperationStart o free (State.arbiterChoice_of_erase idle none_ waits), rfl, fun k => ?_⟩
      rw [State.mem_owed_finishEvent, State.mem_owed_beginErase prep]
      rfl
    · have taken := exec_arrayOperationStart o free
        (State.arbiterChoice_of_prefetch idle none_ (State.eraseWaiting_eq_none eraseless) waits)
      exact taken

end Sys2Proof.Machine
end

section
/-! SUPPORT. The ends of a copy, of an erase and of a page read (R150, R154, R160). -/

namespace Sys2Proof.Machine

namespace State

variable {s : State}

/-! ### The state of the store under the hand-over of records (R142, R157) -/

theorem state_fillAssembly (s : State) (n : Nat) : (fillAssembly n s).store.state = s.store.state := by
  induction n generalizing s with
  | zero => rfl
  | succ n ih =>
    unfold fillAssembly
    split
    · rfl
    · split
      · exact ih _
      · rfl

/-- With a number left a record leaves the state of the store (R142). -/
theorem state_handOver {kind subject : Nat} {body : Nat → List Byte} (left : s.store.nextSeq < 4294967295) :
    (s.handOver kind subject body).2.store.state = s.store.state := by
  by_cases room : s.store.queue.length < 32
  · rw [s.handOver_of_room left room]
    exact state_fillAssembly _ _
  · rw [s.handOver_of_no_room left (Nat.not_lt.mp room)]
    rfl

theorem state_askTotals (os : List (Fin 8)) (left : s.store.nextSeq + os.length ≤ 4294967295) :
    (s.askTotals os).store.state = s.store.state := by
  induction os generalizing s with
  | nil => rfl
  | cons o os ih =>
    simp only [List.length_cons] at left
    have next : (s.reclaimTotals o).store.nextSeq = s.store.nextSeq + 1 := s.handOver_nextSeq (by omega)
    have state : (s.reclaimTotals o).store.state = s.store.state := state_handOver (by omega)
    have rest : (askTotals (s.reclaimTotals o) os).store.state = (s.reclaimTotals o).store.state := ih (by omega)
    exact rest.trans state

theorem length_pendingOutfalls (b : Fin 64) : (s.pendingOutfalls b).length ≤ 8 :=
  (List.length_filter_le _ _).trans (by simp)

/-- With eight numbers left the reclaim check leaves the state of the store. -/
theorem state_reclaimCheck (left : s.store.nextSeq + 8 ≤ 4294967295) : s.reclaimCheck.store.state = s.store.state := by
  classical
  cases ahead : s.ahead with
  | none => rw [s.reclaimCheck_of_no_ahead ahead]
  | some b =>
    have few := s.length_pendingOutfalls b
    rw [s.reclaimCheck_of_ahead ahead]
    split
    · exact state_askTotals (s := s.modStore (fun v => { v with prep := some (s.pendingOutfalls b) })) _
        (by simp only [modStore_store]; omega)
    · rfl

/-! ### The cells of the array -/

theorem arrayPage_congr {s t : State} (same : t.media = s.media) : t.arrayPage = s.arrayPage := by
  have array : t.array = s.array := congrArg Prod.fst same
  funext r
  simp [arrayPage, array]

theorem retired_of_media {s t : State} (same : t.media = s.media) : t.retired = s.retired := congrArg (fun m => m.2.1) same

theorem freeIndex_of_media {s t : State} (same : t.media = s.media) : t.freeIndex = s.freeIndex := congrArg (fun m => m.2.2) same

/-! ### A copy (R154) -/

/-- The state that a copy leaves. -/
theorem copyEnds_of_ok (page : Fin 16) (source target : Fin 64) : s.copyEnds page source target true =
    (s.setArrayPage ⟨target, page⟩ (s.arrayPage ⟨source, page⟩)).modStore (fun v =>
      { v with reloc := v.reloc.map (fun q => { q with next := page.val + 1 }) }) := rfl

/-! ### The write point enters a block (R146, R150) -/

/-- The write point at the start of a block. -/
def entered (s : State) (b : Fin 64) : State :=
  ((match s.store.current with
    | some c => s.setStatus c .filled
    | none => s).setStatus b .current).modStore (fun v => { v with current := some b, writePage := 0 })

theorem enterBlock_eq (b : Fin 64) : s.enterBlock b = (s.entered b).reclaimCheck := rfl

theorem ring_enterBlock (b : Fin 64) :
    (s.enterBlock b).ring = { (s.entered b).ring with prep := (s.enterBlock b).store.prep } := by
  rw [enterBlock_eq, ring_reclaimCheck]

theorem current_enterBlock (b : Fin 64) : (s.enterBlock b).store.current = some b := (congrArg Store.current (ring_enterBlock b) :)

theorem writePage_enterBlock (b : Fin 64) : (s.enterBlock b).store.writePage = 0 := (congrArg Store.writePage (ring_enterBlock b) :)

theorem op_entered (b : Fin 64) : (s.entered b).store.op = s.store.op := by
  unfold entered
  split <;> rfl

theorem op_enterBlock (b : Fin 64) : (s.enterBlock b).store.op = s.store.op :=
  (congrArg Store.op (ring_enterBlock b) :).trans (op_entered b)

theorem blockStatus_enterBlock (b c : Fin 64) : (s.enterBlock b).blockStatus c =
    if c = b then .current else if s.store.current = some c then .filled else s.blockStatus c := by
  have status : (s.enterBlock b).store.status = (s.entered b).store.status := (congrArg Store.status (ring_enterBlock b) :)
  rw [blockStatus, status]
  unfold entered
  cases current : s.store.current with
  | none => simp [setStatus, blockStatus]
  | some d =>
    by_cases e : c = b <;> by_cases f : c = d <;> simp [setStatus, blockStatus, e, f, Ne.symm]

theorem nextSeq_entered (b : Fin 64) : (s.entered b).store.nextSeq = s.store.nextSeq := by
  unfold entered
  split <;> rfl

theorem state_enterBlock (b : Fin 64) (left : s.store.nextSeq + 8 ≤ 4294967295) :
    (s.enterBlock b).store.state = s.store.state := by
  rw [enterBlock_eq, state_reclaimCheck (by rwa [nextSeq_entered])]
  unfold entered
  split <;> rfl

/-! ### An erase (R150) -/

/-- A block erased: out of the page table, the reads and the notes. -/
def cleared (s : State) (b : Fin 64) : State :=
  ((((s.setArrayBlock b .erased).setStatus b .erased).clearTable b).dropReads b).clearNotes b

theorem erased_eq (b : Fin 64) : s.erased b =
    if (s.cleared b).store.state = .full then
      if (s.cleared b).store.reloc.isSome then
        (s.cleared b).modStore (fun v =>
          { v with state := .relocating, reloc := v.reloc.map (fun q => { q with next := 0 }) })
      else ((s.cleared b).modStore (fun v => { v with state := .ready })).enterBlock b
    else s.cleared b := rfl

theorem state_cleared (b : Fin 64) : (s.cleared b).store.state = s.store.state := by
  simp [cleared, clearNotes, dropReads, clearTable, setStatus]

theorem current_cleared (b : Fin 64) : (s.cleared b).store.current = s.store.current := by
  simp [cleared, clearNotes, dropReads, clearTable, setStatus]

theorem reloc_cleared (b : Fin 64) : (s.cleared b).store.reloc = s.store.reloc := by
  simp [cleared, clearNotes, dropReads, clearTable, setStatus]

theorem erased_of_not_full {b : Fin 64} (other : s.store.state ≠ .full) : s.erased b = s.cleared b := by
  rw [erased_eq, state_cleared, if_neg other]

theorem erased_of_relocation {b : Fin 64} {q : Relocation} (full : s.store.state = .full) (reloc : s.store.reloc = some q) :
    s.erased b = (s.cleared b).modStore (fun v => { v with state := .relocating, reloc := some { q with next := 0 } }) := by
  have waits : (s.cleared b).store.reloc = some q := (reloc_cleared b).trans reloc
  rw [erased_eq, state_cleared, if_pos full, waits, Option.isSome_some, if_pos rfl]
  simp only [modStore, waits, Option.map_some]

/-- A block erased in a store that was FULL and is READY again. -/
def readied (s : State) (b : Fin 64) : State := (s.cleared b).modStore (fun v => { v with state := .ready })

theorem state_readied (b : Fin 64) : (s.readied b).store.state = .ready := by rw [readied, modStore_store]

theorem current_readied (b : Fin 64) : (s.readied b).store.current = s.store.current := by
  rw [readied, modStore_store]
  exact current_cleared b

theorem nextSeq_readied (b : Fin 64) : (s.readied b).store.nextSeq = s.store.nextSeq := by
  simp [readied, cleared, clearNotes, dropReads, clearTable, setStatus]

theorem op_readied (b : Fin 64) : (s.readied b).store.op = s.store.op := by
  simp [readied, cleared, clearNotes, dropReads, clearTable, setStatus]

theorem erased_of_enter {b : Fin 64} (full : s.store.state = .full) (none_ : s.store.reloc = none) :
    s.erased b = (s.readied b).enterBlock b := by
  rw [erased_eq, state_cleared, if_pos full, reloc_cleared, none_]
  rfl

theorem media_erased (b : Fin 64) : (s.erased b).media = (s.setArrayBlock b .erased).media := by
  have cleared : (s.cleared b).media = (s.setArrayBlock b .erased).media := by simp [cleared]
  cases state : decide (s.store.state = .full) with
  | false => rw [erased_of_not_full (of_decide_eq_false state), cleared]
  | true =>
    cases reloc : s.store.reloc with
    | none => simp [erased_of_enter (of_decide_eq_true state) reloc, readied, cleared]
    | some q => simp [erased_of_relocation (of_decide_eq_true state) reloc, cleared]

theorem op_erased (b : Fin 64) : (s.erased b).store.op = s.store.op := by
  cases state : decide (s.store.state = .full) with
  | false =>
    rw [erased_of_not_full (of_decide_eq_false state)]
    rfl
  | true =>
    cases reloc : s.store.reloc with
    | none =>
      rw [erased_of_enter (of_decide_eq_true state) reloc, op_enterBlock, op_readied]
    | some q =>
      rw [erased_of_relocation (of_decide_eq_true state) reloc]
      rfl

theorem onlyChanges_erased (b : Fin 64) : onlyChanges [.store, .media, .notices] s (s.erased b) := by
  intro area other
  cases area <;> simp [unchanged] at other ⊢

theorem blockStatus_cleared (b c : Fin 64) : (s.cleared b).blockStatus c = if c = b then .erased else s.blockStatus c := by
  have status : (s.cleared b).store.status = put s.store.status b .erased := rfl
  simp [blockStatus, status]

/-! ### A page read (R160) -/

theorem buffered_isSome_iff (x : PageRef) :
    (s.buffered x).isSome = true ↔ ∃ j q, s.store.buffers.get j = some q ∧ q.ref = x := by
  simp only [buffered, List.find?_isSome, List.mem_filterMap, Vector.mem_toList_iff, Vector.mem_iff_getElem, id_eq,
    decide_eq_true_eq]
  constructor
  · rintro ⟨q, ⟨_, ⟨i, lt, rfl⟩, eq⟩, ref⟩
    exact ⟨⟨i, lt⟩, q, eq, ref⟩
  · rintro ⟨j, q, eq, ref⟩
    exact ⟨q, ⟨_, ⟨j.val, j.isLt, rfl⟩, eq⟩, ref⟩

theorem bufferHolds_iff (j : Fin 2) :
    s.bufferHolds j s.store.served = true ↔ ∃ q, s.store.buffers.get j = some q ∧ s.store.served = some q.ref := by
  unfold bufferHolds
  cases s.store.buffers.get j <;> cases s.store.served <;> simp [eq_comm]

theorem demandBuffer_of_empty (empty : ∃ j, s.store.buffers.get j = none) : s.store.buffers.get s.demandBuffer = none := by
  obtain ⟨j, none_⟩ := empty
  unfold demandBuffer
  by_cases zero : s.store.buffers.get 0 = none
  · simp [zero]
  · have one : s.store.buffers.get 1 = none := by
      obtain rfl | rfl : j = 0 ∨ j = 1 := by omega
      · exact absurd none_ zero
      · exact none_
    simp [zero, one]

theorem demandBuffer_of_full (full : ∀ j, s.store.buffers.get j ≠ none) : s.demandBuffer =
    if s.bufferHolds 0 s.store.served then 1 else if s.bufferHolds 1 s.store.served then 0 else 1 - s.store.newer := by
  simp [demandBuffer, full]

theorem demandBuffer_of_serves (full : ∀ j, s.store.buffers.get j ≠ none) {j : Fin 2}
    (serves : s.bufferHolds j s.store.served = true) (alone : ¬ s.bufferHolds (1 - j) s.store.served = true) :
    s.demandBuffer = 1 - j := by
  rw [demandBuffer_of_full full]
  obtain rfl | rfl : j = 0 ∨ j = 1 := by omega
  · simp [serves]
  · have other : s.bufferHolds 0 s.store.served = false := by simpa using alone
    simp [serves, other]

theorem demandBuffer_of_none_serves (full : ∀ j, s.store.buffers.get j ≠ none)
    (none_ : ∀ j, ¬ s.bufferHolds j s.store.served = true) : s.demandBuffer = 1 - s.store.newer := by
  rw [demandBuffer_of_full full]
  simp [none_]

/-- Every page stands once in the write order. -/
theorem nodup_writeOrder (s : State) : (s.writeOrder.map (fun q => q.1)).Nodup := by
  obtain ⟨-, sorted⟩ := s.inWriteOrder_writeOrder
  rw [List.Nodup, List.pairwise_map]
  refine sorted.imp fun {x y} before same => ?_
  rw [same] at before
  exact s.writtenBefore_asymm _ _ before before

/-- The element after another in a list in which each stands once. -/
theorem head?_drop_dropWhile {α : Type} [DecidableEq α] {l : List α} (once : l.Nodup) (r x : α) :
    ((l.dropWhile (fun y => y ≠ r)).drop 1).head? = some x ↔ ∃ k : Nat, l[k]? = some r ∧ l[k + 1]? = some x := by
  induction l with
  | nil => simp
  | cons a l ih =>
    rw [List.nodup_cons] at once
    by_cases here : a = r
    · subst here
      have still : (a :: l).dropWhile (fun y => decide (y ≠ a)) = a :: l := by simp
      rw [still, List.drop_one, List.tail_cons, List.head?_eq_getElem?]
      constructor
      · exact fun next => ⟨0, rfl, next⟩
      · rintro ⟨k, at_k, next⟩
        cases k with
        | zero => exact next
        | succ k => exact absurd (List.mem_of_getElem? (i := k) at_k) once.1
    · have further : (a :: l).dropWhile (fun y => decide (y ≠ r)) = l.dropWhile (fun y => decide (y ≠ r)) := by simp [here]
      rw [further, ih once.2]
      constructor
      · rintro ⟨k, at_k, next⟩
        exact ⟨k + 1, at_k, next⟩
      · rintro ⟨k, at_k, next⟩
        cases k with
        | zero => exact absurd (Option.some.inj at_k) here
        | succ k => exact ⟨k, at_k, next⟩

theorem pageAfter_eq_some_iff (r x : PageRef) : s.pageAfter r = some x ↔
    ∃ k : Nat, (s.writeOrder[k]?).map (fun q => q.1) = some r ∧ (s.writeOrder[k + 1]?).map (fun q => q.1) = some x := by
  unfold pageAfter
  rw [head?_drop_dropWhile s.nodup_writeOrder]
  simp only [List.getElem?_map]

theorem pageAfter_congr {s t : State} (table : t.store.table = s.store.table) (media : t.media = s.media) :
    t.pageAfter = s.pageAfter := by
  have array : t.array = s.array := congrArg Prod.fst media
  have pages : t.blockPages = s.blockPages := by
    funext b
    simp only [blockPages, tableEntry, table]
  funext r
  simp only [pageAfter, writeOrder, inRingOrder, pages, array]

/-- The buffer that a read loads: the one of the prefetch, or the one that a demand read chooses. -/
def readBuffer (s : State) (target : Option (Fin 2)) : Fin 2 := target.getD s.demandBuffer

theorem readEnds_of_prefetch (r : PageRef) (i : Fin 2) (sound : Bool) :
    s.readEnds r (some i) sound = s.loadBuffer r i sound := rfl

theorem readEnds_of_demand (r : PageRef) (sound : Bool) :
    s.readEnds r none sound = (s.loadBuffer r s.demandBuffer sound).queuePrefetch r s.demandBuffer := rfl

theorem prefetch_queuePrefetch_of_next {r x : PageRef} (i : Fin 2) (next : s.pageAfter r = some x)
    (out : ¬ (s.buffered x).isSome = true) : (s.queuePrefetch r i).store.prefetch = some { ref := x, buffer := 1 - i } := by
  simp only [queuePrefetch, next]
  rw [if_neg out]
  rfl

theorem queuePrefetch_of_held {r : PageRef} (i : Fin 2) (held : ∀ x, s.pageAfter r = some x → (s.buffered x).isSome = true) :
    s.queuePrefetch r i = s := by
  unfold queuePrefetch
  split
  · rfl
  · rename_i x next
    rw [if_pos (held x next)]

/-- A queued prefetch aside, the store stands. -/
theorem store_queuePrefetch (r : PageRef) (i : Fin 2) :
    (s.queuePrefetch r i).store = { s.store with prefetch := (s.queuePrefetch r i).store.prefetch } := by
  unfold queuePrefetch
  split
  · rfl
  · split <;> rfl

theorem ports_queuePrefetch (r : PageRef) (i : Fin 2) : (s.queuePrefetch r i).ports = s.ports := by
  unfold queuePrefetch
  split
  · rfl
  · split <;> rfl

/-- But for the prefetch, a read leaves the store with its buffer loaded. -/
theorem store_readEnds (r : PageRef) (target : Option (Fin 2)) (sound : Bool) : (s.readEnds r target sound).store =
    { (s.loadBuffer r (s.readBuffer target) sound).store with prefetch := (s.readEnds r target sound).store.prefetch } := by
  cases target with
  | some i => rfl
  | none => exact store_queuePrefetch r s.demandBuffer

theorem onlyChanges_readEnds (r : PageRef) (target : Option (Fin 2)) (sound : Bool) :
    onlyChanges [.store] s (s.readEnds r target sound) := by
  have ports : (s.readEnds r target sound).ports = s.ports := by
    cases target with
    | some i => rfl
    | none => exact ports_queuePrefetch r s.demandBuffer
  intro area other
  cases area <;> simp [unchanged, noticeSets, ports] at other ⊢

end State

/-! ### The events of the array's ends -/

section Ends

variable {s : State} (o : Open s)

include o

theorem exec_pageProgramComplete {r : PageRef} {relocating : Bool} (op : s.store.op = some (.program r relocating)) (ok : Bool) :
    exec (.pageProgramComplete ok) s = ended (s.operationEnds.programEnds r relocating ok) := by
  rw [exec_event_due (i := .pageProgramComplete ok) o rfl (by simp [State.programming, op])]
  simp only [op]

theorem exec_relocationCopyComplete {page : Fin 16} {source target : Fin 64}
    (op : s.store.op = some (.copy page source target)) (ok : Bool) :
    exec (.relocationCopyComplete ok) s = ended (s.operationEnds.copyEnds page source target ok) := by
  rw [exec_event_due (i := .relocationCopyComplete ok) o rfl (by simp [State.copying, op])]
  simp only [op]

theorem exec_blockEraseComplete {b : Fin 64} (op : s.store.op = some (.erase b)) (ok : Bool) :
    exec (.blockEraseComplete ok) s = ended (if ok then s.operationEnds.erased b else s.operationEnds.eraseFailed b) := by
  rw [exec_event_due (i := .blockEraseComplete ok) o rfl (by simp [State.erasing, op])]
  simp only [op]

theorem exec_pageReadComplete {r : PageRef} {target : Option (Fin 2)} (op : s.store.op = some (.read r target)) (sound : Bool) :
    exec (.pageReadComplete sound) s = ended (s.operationEnds.readEnds r target sound) := by
  rw [exec_event_due (i := .pageReadComplete sound) o rfl (by simp [State.readingPage, op])]
  simp only [op]

end Ends

theorem State.onlyChanges_operationEnds (s : State) : onlyChanges [.store] s s.operationEnds := by
  intro area other
  cases area <;> first | rfl | exact absurd (by simp) other

/-- Settles O57: a copy, an erase in its three cases, and a read with its choice of buffer and its prefetch. -/
theorem copyEraseAndRead : Obligations.CopyEraseAndRead := by
  unfold Obligations.CopyEraseAndRead
  intro s o
  refine ⟨?_, ?_, ?_⟩
  · intro page source target q op reloc
    refine ⟨_, exec_relocationCopyComplete o op true, rfl, ?_, ?_, rfl, fun r other => ?_, rfl, rfl, ?_⟩
    · show ((s.operationEnds.setArrayPage ⟨target, page⟩ (s.arrayPage ⟨source, page⟩)).arrayPage ⟨target, page⟩) = _
      simp
    · show (s.store.reloc.map (fun q => { q with next := page.val + 1 })) = _
      rw [reloc]
      rfl
    · show ((s.operationEnds.setArrayPage ⟨target, page⟩ (s.arrayPage ⟨source, page⟩)).arrayPage r) = _
      rw [State.arrayPage_setArrayPage, if_neg other]
      rfl
    · intro area other
      cases area <;> first | rfl | exact absurd (by simp) other
  · intro b op
    have media : (s.operationEnds.erased b).media = (s.operationEnds.setArrayBlock b .erased).media := State.media_erased b
    have cells := State.arrayPage_congr media
    refine ⟨_, (exec_blockEraseComplete o op true).trans (by rw [if_pos rfl]), (State.op_erased b).trans rfl, fun p => ?_,
      fun other => ?_, fun r other => ?_, (State.retired_of_media media :), (State.freeIndex_of_media media :), ?_,
      fun q full reloc => ?_, fun full none_ => ?_⟩
    · rw [cells, State.arrayPage_setArrayBlock, if_pos rfl]
    · rw [State.erased_of_not_full (s := s.operationEnds) other, State.blockStatus_cleared, if_pos rfl]
    · rw [cells, State.arrayPage_setArrayBlock, if_neg other]
      rfl
    · exact onlyChanges_trans (onlyChanges_mono (by decide) s.onlyChanges_operationEnds) (State.onlyChanges_erased b)
    · have left := State.erased_of_relocation (s := s.operationEnds) (b := b) full reloc
      have erased : (s.operationEnds.cleared b).blockStatus b = .erased := by rw [State.blockStatus_cleared, if_pos rfl]
      rw [left]
      refine ⟨by rw [State.modStore_store], by rw [State.modStore_store], ?_, ?_⟩
      · simpa [State.blockStatus] using erased
      · rw [State.modStore_store]
        exact State.current_cleared b
    · rw [State.erased_of_enter (s := s.operationEnds) full none_]
      refine ⟨State.current_enterBlock b, State.writePage_enterBlock b, ?_, fun c current other => ?_, fun left => ?_⟩
      · rw [State.blockStatus_enterBlock, if_pos rfl]
      · rw [State.blockStatus_enterBlock, if_neg other, State.current_readied]
        exact if_pos current
      · have few : (s.operationEnds.readied b).store.nextSeq + 8 ≤ 4294967295 := by
          rw [State.nextSeq_readied]
          exact Nat.le_of_lt left
        exact (State.state_enterBlock b few).trans (State.state_readied b)
  · intro r target sound op
    set u := s.operationEnds with u_eq
    have store := State.store_readEnds (s := u) r target sound
    have buffers : (u.readEnds r target sound).store.buffers = put s.store.buffers (u.readBuffer target)
        (some { ref := r, records := pageRecords (s.arrayPage r), sound := sound && pageSound (s.arrayPage r) }) :=
      congrArg Store.buffers store
    refine ⟨_, u.readBuffer target, exec_pageReadComplete o op sound, (congrArg Store.op store :), ?_,
      fun j other => ?_, (congrArg Store.newer store :), (congrArg Store.cursor store :),
      onlyChanges_trans s.onlyChanges_operationEnds (State.onlyChanges_readEnds r target sound), ?_, ?_⟩
    · rw [buffers, get_put_self]
    · rw [buffers, get_put_of_ne _ _ _ _ other]
    · rintro j rfl
      exact ⟨rfl, rfl⟩
    · rintro rfl serves inBuffer
      set v := u.loadBuffer r u.demandBuffer sound with v_eq
      have after : v.pageAfter = s.pageAfter := State.pageAfter_congr rfl rfl
      have holds (x : PageRef) : inBuffer x ↔ (v.buffered x).isSome = true := by
        rw [State.buffered_isSome_iff]
        show (∃ j q, (u.readEnds r none sound).store.buffers.get j = some q ∧ q.ref = x) ↔ _
        rw [buffers]
        rfl
      refine ⟨State.demandBuffer_of_empty (s := u), fun full => ⟨fun j serving alone => ?_, fun none_ => ?_⟩,
        s.writeOrder, s.inWriteOrder_writeOrder, fun k x at_k next out => ?_, fun held => ?_⟩
      · exact State.demandBuffer_of_serves (s := u) full ((State.bufferHolds_iff j).mpr serving)
          (fun other => alone ((State.bufferHolds_iff (1 - j)).mp other))
      · exact State.demandBuffer_of_none_serves (s := u) full (fun j other => none_ j ((State.bufferHolds_iff j).mp other))
      · have follows : v.pageAfter r = some x := by
          rw [after]
          exact (State.pageAfter_eq_some_iff r x).mpr ⟨k, at_k, next⟩
        exact State.prefetch_queuePrefetch_of_next u.demandBuffer follows (fun buffered => out ((holds x).mpr buffered))
      · have stands : v.queuePrefetch r u.demandBuffer = v := State.queuePrefetch_of_held u.demandBuffer fun x follows => by
          rw [after] at follows
          obtain ⟨k, at_k, next⟩ := (State.pageAfter_eq_some_iff r x).mp follows
          exact (holds x).mp (held k x at_k next)
        show (v.queuePrefetch r u.demandBuffer).store.prefetch = _
        rw [stands]
        rfl

end Sys2Proof.Machine
end

section
/-! SUPPORT. Retirements and relocations that fail (R153 to R156). -/

namespace Sys2Proof.Machine

/-- The ring but for what a preparation and a relocation under way write. -/
def Store.core (v : Store) : Store := { v.ring with prep := none, reloc := none }

namespace State

/-- The record store but for what the hand-over of a record, a preparation and a relocation under way write. -/
def core (s : State) : Store := s.store.core

variable {s : State}

theorem core_of_ring {t : State} (same : t.ring = s.ring) : t.core = s.core := by
  have eq : (t.ring).core = (s.ring).core := congrArg Store.core same
  exact eq

theorem core_reclaimCheck : s.reclaimCheck.core = s.core := by
  have eq : (s.reclaimCheck.ring).core = ({ s.ring with prep := s.reclaimCheck.store.prep } : Store).core :=
    congrArg Store.core s.ring_reclaimCheck
  exact eq

theorem core_afterRetirement : s.afterRetirement.core = s.core := by
  unfold afterRetirement
  split
  · exact (core_of_ring (ring_becomeWorn _)).trans rfl
  · exact core_reclaimCheck

theorem core_seekRelocation : s.seekRelocation.core = s.core := by
  unfold seekRelocation
  split
  · rfl
  · split <;> rfl

theorem core_modReloc (f : Relocation → Relocation) :
    (s.modStore (fun v => { v with reloc := v.reloc.map f })).core = s.core := rfl

theorem ring_storeRequest : s.storeRequest.ring = s.ring := by
  have store : s.storeRequest.store = s.store := by simp
  simp only [ring, store]

theorem ring_retireBlock (b : Fin 64) (page : Option (Fin 16)) : (s.retireBlock b page).ring = (s.outOfRing b).ring := by
  rw [retireBlock_eq, ring_storeRequest, ring_notify, ring_writeRecord]

theorem status_retireBlock (b : Fin 64) (page : Option (Fin 16)) :
    (s.retireBlock b page).store.status = put s.store.status b .retired := by
  have ring : (s.retireBlock b page).store.status = (s.outOfRing b).store.status :=
    (congrArg Store.status (ring_retireBlock b page) :)
  rw [ring, store_outOfRing]
  rfl

theorem op_retireBlock (b : Fin 64) (page : Option (Fin 16)) : (s.retireBlock b page).store.op = s.store.op := by
  have ring : (s.retireBlock b page).store.op = (s.outOfRing b).store.op := (congrArg Store.op (ring_retireBlock b page) :)
  rw [ring, store_outOfRing]
  rfl

theorem program_retireBlock (b : Fin 64) (page : Option (Fin 16)) : (s.retireBlock b page).store.program = s.store.program := by
  have ring : (s.retireBlock b page).store.program = (s.outOfRing b).store.program :=
    (congrArg Store.program (ring_retireBlock b page) :)
  rw [ring, store_outOfRing]
  rfl

/-- A block retired: its status, with the operation and the program buffer as they were. -/
structure Retires (s t : State) (b : Fin 64) : Prop where
  status : t.blockStatus b = .retired
  op : t.store.op = s.store.op
  program : t.store.program = s.store.program

theorem retires_of_core {t u : State} {b : Fin 64} (page : Option (Fin 16)) (free : t.store.op = s.store.op)
    (held : t.store.program = s.store.program)
    (after : u.core = (t.retireBlock b page).core) : Retires s u b := by
  have status : u.store.status = (t.retireBlock b page).store.status := (congrArg Store.status after :)
  have op : u.store.op = (t.retireBlock b page).store.op := (congrArg Store.op after :)
  have program : u.store.program = (t.retireBlock b page).store.program := (congrArg Store.program after :)
  refine ⟨?_, ?_, ?_⟩
  · rw [blockStatus, status, status_retireBlock, get_put_self]
  · rw [op, op_retireBlock, free]
  · rw [program, program_retireBlock, held]

/-- An operation of a relocation that fails retires the block that it was to fill (R155). -/
theorem retires_relocationFailed (r : PageRef) (records : List (List Byte)) :
    Retires s (s.relocationFailed r records) r.block := by
  refine retires_of_core (t := s.tearPage r records) (some r.page) (by simp) (by simp) ?_
  unfold relocationFailed
  dsimp only
  rw [core_seekRelocation, core_modReloc, core_afterRetirement]

/-- An erase that fails retires its block (R156). -/
theorem retires_eraseFailed (b : Fin 64) : Retires s (s.eraseFailed b) b := by
  refine retires_of_core (t := (s.setArrayBlock b .unreadable).clearNotes b) none (by simp [clearNotes]) (by simp [clearNotes]) ?_
  unfold eraseFailed
  rw [core_afterRetirement]

theorem copyEnds_of_failed (page : Fin 16) (source target : Fin 64) : s.copyEnds page source target false =
    s.relocationFailed ⟨target, page⟩ (pageRecords (s.arrayPage ⟨source, page⟩)) := by
  simp [copyEnds]

theorem programEnds_of_relocation_failed (r : PageRef) : s.programEnds r true false = s.relocationFailed r s.programRecords := rfl

theorem op_operationEnds : s.operationEnds.store.op = none := rfl

theorem program_operationEnds : s.operationEnds.store.program = s.store.program := rfl

theorem onlyChanges_relocationFailed (r : PageRef) (records : List (List Byte)) :
    onlyChanges [.store, .media, .save, .notices] s (s.relocationFailed r records) := by
  intro area other
  cases area <;> simp [unchanged] at other ⊢

theorem onlyChanges_eraseFailed (b : Fin 64) : onlyChanges [.store, .media, .save, .notices] s (s.eraseFailed b) := by
  intro area other
  cases area <;> simp [unchanged] at other ⊢

end State

/-- Settles O56: in each case the block retires, and what follows leaves its status, the operation and the program buffer. -/
theorem failedOperationsRetire : Obligations.FailedOperationsRetire := by
  unfold Obligations.FailedOperationsRetire
  intro s o
  refine ⟨fun r op => ?_, fun page source target op => ?_, fun b op => ?_⟩
  · have taken := exec_pageProgramComplete o op false
    rw [State.programEnds_of_relocation_failed] at taken
    obtain ⟨status, free, program⟩ := State.retires_relocationFailed (s := s.operationEnds) r s.operationEnds.programRecords
    exact ⟨_, taken, free.trans State.op_operationEnds, status, program.trans State.program_operationEnds,
      onlyChanges_trans (onlyChanges_mono (by decide) s.onlyChanges_operationEnds) (State.onlyChanges_relocationFailed _ _)⟩
  · have taken := exec_relocationCopyComplete o op false
    rw [State.copyEnds_of_failed] at taken
    obtain ⟨status, free, program⟩ := State.retires_relocationFailed (s := s.operationEnds) ⟨target, page⟩
      (pageRecords (s.operationEnds.arrayPage ⟨source, page⟩))
    exact ⟨_, taken, free.trans State.op_operationEnds, status, program.trans State.program_operationEnds,
      onlyChanges_trans (onlyChanges_mono (by decide) s.onlyChanges_operationEnds) (State.onlyChanges_relocationFailed _ _)⟩
  · have taken := exec_blockEraseComplete o op false
    rw [if_neg (by decide)] at taken
    obtain ⟨status, free, program⟩ := State.retires_eraseFailed (s := s.operationEnds) b
    exact ⟨_, taken, free.trans State.op_operationEnds, status, program.trans State.program_operationEnds,
      onlyChanges_trans (onlyChanges_mono (by decide) s.onlyChanges_operationEnds) (State.onlyChanges_eraseFailed _)⟩

end Sys2Proof.Machine
end

section
/-! SUPPORT. The end of a page program (R146, R149, R151, R154). -/

namespace Sys2Proof.Machine

namespace State

variable {s : State}

/-! ### The newest counting records (R146) -/

/-- The note of a counting record programmed into a block. -/
def noteOf (b : Fin 64) (x : List Byte) : Note := { sequence := recordSequence x, block := b }

theorem get_foldl_notes (b : Fin 64) (notes : Vector (Option Note) 8) (cs : List (List Byte)) (o : Fin 8) :
    (cs.foldl (fun n x => put n (recordOutfall x) (some (noteOf b x))) notes).get o =
      match (cs.filter (fun x => decide (recordOutfall x = o))).getLast? with
      | some x => some (noteOf b x)
      | none => notes.get o := by
  induction cs using List.reverseRecOn with
  | nil => rfl
  | append_singleton cs x ih =>
    rw [List.foldl_concat, get_put, List.filter_append]
    by_cases here : recordOutfall x = o
    · simp [here]
    · rw [if_neg (Ne.symm here), ih]
      simp [here]

/-! ### The page programmed (R146) -/

/-- The page in the array and in the page table, with the program buffer free. -/
def written (s : State) (r : PageRef) (records : List (List Byte)) : State :=
  ((s.setArrayPage r (programmedPage records)).setTableEntry r
    { first := (records.head?.map recordSequence).getD 0, count := records.length, valid := true }).modStore (fun v =>
      { v with program := none })

/-- The page's counting records noted, the outfalls that are not enabled no longer owed. -/
def noted (s : State) (r : PageRef) (records : List (List Byte)) : State := ((s.written r records).noteRecords r.block records).dropOwed

/-- The outfalls for which TOTALS are asked again (R149). -/
def unheld (s : State) : List (Fin 8) :=
  ((s.store.prep.getD []) ++ s.store.owed.filter (fun o => !(s.store.prep.getD []).contains o)).filter (fun o => !s.holdsCounting o)

theorem pageProgrammed_eq (r : PageRef) (records : List (List Byte)) :
    s.pageProgrammed r records = (s.noted r records).askTotals (s.noted r records).unheld := rfl

theorem ring_pageProgrammed (r : PageRef) (records : List (List Byte)) :
    (s.pageProgrammed r records).ring = (s.noted r records).ring := by
  rw [pageProgrammed_eq, ring_askTotals]

theorem media_pageProgrammed (r : PageRef) (records : List (List Byte)) :
    (s.pageProgrammed r records).media = (s.setArrayPage r (programmedPage records)).media := by
  simp [pageProgrammed]

section Noted

variable (r : PageRef) (records : List (List Byte))

theorem store_written : (s.written r records).store = { s.store with
    table := put s.store.table r.block (put (s.store.table.get r.block) r.page
      (some { first := (records.head?.map recordSequence).getD 0, count := records.length, valid := true }))
    program := none } := by
  simp [written, setTableEntry]

/-- What is noted of a page stands in the notes, the owed and the pending outfalls. -/
theorem store_noted : (s.noted r records).store = { (s.written r records).store with
    notes := (s.noted r records).store.notes, owed := (s.noted r records).store.owed, prep := (s.noted r records).store.prep } := by
  simp [noted, noteRecords, dropOwed]

theorem notes_noted (o : Fin 8) : (s.noted r records).store.notes.get o =
    match (records.filter (fun x => isCounting x && decide (recordOutfall x = o))).getLast? with
    | some x => some { sequence := recordSequence x, block := r.block }
    | none => s.store.notes.get o := by
  have noted : (s.noted r records).store.notes =
      (records.filter isCounting).foldl (fun n x => put n (recordOutfall x) (some (noteOf r.block x))) s.store.notes := by
    simp only [State.noted, noteRecords, dropOwed, modStore_store, store_written]
    rfl
  rw [noted, get_foldl_notes, List.filter_filter]
  simp only [Bool.and_comm]
  rfl

theorem enabled_written : ((s.written r records).noteRecords r.block records).outfallEnabled = s.outfallEnabled :=
  outfallEnabled_congr (by simp [written]) (by simp [written])

theorem mem_owed_noted (o : Fin 8) : o ∈ (s.noted r records).store.owed ↔
    o ∈ s.store.owed ∧ s.outfallEnabled o = true ∧ ∀ x ∈ records, isCounting x = true → recordOutfall x ≠ o := by
  have owed : (s.noted r records).store.owed =
      (s.store.owed.filter (fun o => !((records.filter isCounting).map recordOutfall).contains o)).filter s.outfallEnabled := by
    rw [← enabled_written r records]
    simp only [State.noted, dropOwed, modStore_store]
    simp only [noteRecords, modStore_store, store_written]
  rw [owed]
  simp only [List.mem_filter, Bool.not_eq_true', List.contains_eq_mem, decide_eq_false_iff_not, List.mem_map, not_exists,
    not_and, and_assoc]
  tauto

theorem length_owed_noted : (s.noted r records).store.owed.length ≤ s.store.owed.length := by
  simp only [noted, dropOwed, noteRecords, modStore_store, store_written]
  exact (List.length_filter_le _ _).trans (List.length_filter_le _ _)

theorem length_prep_noted : ((s.noted r records).store.prep.getD []).length ≤ (s.store.prep.getD []).length := by
  simp only [noted, dropOwed, noteRecords, modStore_store, store_written]
  cases s.store.prep
  · exact Nat.le_refl _
  · exact List.length_filter_le _ _

theorem length_unheld_noted :
    (s.noted r records).unheld.length ≤ (s.store.prep.getD []).length + s.store.owed.length := by
  refine (List.length_filter_le _ _).trans ?_
  rw [List.length_append]
  exact Nat.add_le_add (length_prep_noted r records) ((List.length_filter_le _ _).trans (length_owed_noted r records))

/-- With numbers left for the TOTALS asked again the store keeps its state. -/
theorem state_pageProgrammed
    (left : s.store.nextSeq + (s.store.prep.getD []).length + s.store.owed.length ≤ 4294967295) :
    (s.pageProgrammed r records).store.state = s.store.state := by
  have few := s.length_unheld_noted r records
  have next : (s.noted r records).store.nextSeq = s.store.nextSeq := by rw [store_noted, store_written]
  have state : (s.noted r records).store.state = s.store.state := by rw [store_noted, store_written]
  rw [pageProgrammed_eq, state_askTotals _ (by rw [next]; omega), state]

theorem current_pageProgrammed : (s.pageProgrammed r records).store.current = s.store.current := by
  have ring : (s.pageProgrammed r records).store.current = (s.noted r records).store.current :=
    (congrArg Store.current (ring_pageProgrammed r records) :)
  rw [ring, store_noted, store_written]

theorem status_pageProgrammed : (s.pageProgrammed r records).store.status = s.store.status := by
  have ring : (s.pageProgrammed r records).store.status = (s.noted r records).store.status :=
    (congrArg Store.status (ring_pageProgrammed r records) :)
  rw [ring, store_noted, store_written]

theorem op_pageProgrammed : (s.pageProgrammed r records).store.op = s.store.op := by
  have ring : (s.pageProgrammed r records).store.op = (s.noted r records).store.op :=
    (congrArg Store.op (ring_pageProgrammed r records) :)
  rw [ring, store_noted, store_written]

theorem program_pageProgrammed : (s.pageProgrammed r records).store.program = none := by
  have ring : (s.pageProgrammed r records).store.program = (s.noted r records).store.program :=
    (congrArg Store.program (ring_pageProgrammed r records) :)
  rw [ring, store_noted, store_written]

theorem reloc_pageProgrammed : (s.pageProgrammed r records).store.reloc = s.store.reloc := by
  have ring : (s.pageProgrammed r records).store.reloc = (s.noted r records).store.reloc :=
    (congrArg Store.reloc (ring_pageProgrammed r records) :)
  rw [ring, store_noted, store_written]

theorem writePage_pageProgrammed : (s.pageProgrammed r records).store.writePage = s.store.writePage := by
  have ring : (s.pageProgrammed r records).store.writePage = (s.noted r records).store.writePage :=
    (congrArg Store.writePage (ring_pageProgrammed r records) :)
  rw [ring, store_noted, store_written]

end Noted

/-! ### The write point moves on (R146, R151) -/

theorem ahead_congr {t : State} (current : t.store.current = s.store.current) (status : t.store.status = s.store.status) :
    t.ahead = s.ahead := by
  have retired : t.isRetired = s.isRetired := by
    funext b
    unfold isRetired blockStatus
    rw [status]
  simp only [ahead, current, retired]

theorem blockStatus_congr {t : State} (status : t.store.status = s.store.status) : t.blockStatus = s.blockStatus := by
  funext b
  simp only [blockStatus, status]

theorem ahead_ne_current {b c : Fin 64} (ahead : s.ahead = some b) (current : s.store.current = some c) : b ≠ c := by
  obtain ⟨d, i, here, pos, le, rfl, -⟩ := (ahead_eq_some_iff b).mp ahead
  obtain rfl : d = c := Option.some.inj (here.symm.trans current)
  intro same
  have value := congrArg Fin.val same
  simp only [Fin.val_ofNat] at value
  have lt := d.isLt
  omega

/-- The write point past a page. -/
def moved (s : State) (r : PageRef) : State := s.modStore (fun v => { v with writePage := r.page.val + 1 })

theorem movePoint_of_inside {r : PageRef} (inside : r.page ≠ 15) : s.movePoint r = s.moved r := if_neg inside

theorem movePoint_of_last {r : PageRef} (last : r.page = 15) : s.movePoint r = (s.moved r).leaveBlock := if_pos last

theorem leaveBlock_of_erased {b : Fin 64} (erased : s.aheadErased = some b) : s.leaveBlock = s.enterBlock b := by
  simp [leaveBlock, erased]

theorem leaveBlock_of_none (none_ : s.aheadErased = none) (sound : s.store.state ≠ .worn) : s.leaveBlock = s.enterFull := by
  simp [leaveBlock, none_, sound]

/-- Entering a block writes its ring at the write point, the statuses and what is prepared. -/
theorem ring_enterBlock_shape (b : Fin 64) : ∃ status, (s.enterBlock b).ring =
    { s.ring with status := status, current := some b, writePage := 0, prep := (s.enterBlock b).store.prep } := by
  rw [ring_enterBlock]
  generalize (s.enterBlock b).store.prep = prep
  unfold entered
  split <;> exact ⟨_, rfl⟩

/-- What leaving a block leaves of the ring: all but the write point and the statuses of the two blocks. -/
theorem leaveBlock_keeps {α : Type} (π : Store → α) (ring : ∀ v, π v.ring = π v)
    (point : ∀ v a b c d, π { v with status := a, current := b, writePage := c, prep := d } = π v) :
    π s.leaveBlock.store = π s.store := by
  unfold leaveBlock
  split
  · rename_i b _
    obtain ⟨status, eq⟩ := ring_enterBlock_shape (s := s) b
    calc π (s.enterBlock b).store = π (s.enterBlock b).ring := (ring (s.enterBlock b).store).symm
      _ = π s.ring := by rw [eq, point]
      _ = π s.store := ring s.store
  · split
    · rfl
    · rw [← ring s.enterFull.store, ← ring s.store]
      rfl

theorem movePoint_keeps {α : Type} (r : PageRef) (π : Store → α) (ring : ∀ v, π v.ring = π v)
    (point : ∀ v a b c d, π { v with status := a, current := b, writePage := c, prep := d } = π v) :
    π (s.movePoint r).store = π s.store := by
  have moved : π (s.moved r).store = π s.store := point s.store s.store.status s.store.current (r.page.val + 1) s.store.prep
  unfold movePoint
  dsimp only
  split
  · exact (leaveBlock_keeps (s := s.moved r) π ring point).trans moved
  · exact moved

theorem store_enterFull : s.enterFull.store = { s.store with state := .full } := rfl

theorem told_enterFull : (s.enterFull.port .record).notices &&& noticeWord .store ≠ 0#16 := told_notify _ .store .record

/-! ### A program that completes (R146) -/

/-- The state that a completed program of the write point leaves. -/
def programmed (s : State) (r : PageRef) (records : List (List Byte)) : State := (s.pageProgrammed r records).movePoint r

section Programmed

variable (r : PageRef) (records : List (List Byte))

theorem media_programmed : (s.programmed r records).media = (s.setArrayPage r (programmedPage records)).media := by
  rw [← media_pageProgrammed]
  simp [programmed]

/-- What the write point does not touch is as the page programmed leaves it. -/
theorem programmed_keeps {α : Type} (π : Store → α) (ring : ∀ v, π v.ring = π v)
    (point : ∀ v a b c d, π { v with status := a, current := b, writePage := c, prep := d } = π v) :
    π (s.programmed r records).store = π (s.noted r records).store := by
  rw [programmed, movePoint_keeps r π ring point, ← ring (s.pageProgrammed r records).store, ← ring (s.noted r records).store]
  exact congrArg π (ring_pageProgrammed r records)

theorem op_programmed : (s.programmed r records).store.op = s.store.op := by
  rw [programmed_keeps r records Store.op (fun _ => rfl) (fun _ _ _ _ _ => rfl), store_noted, store_written]

theorem program_programmed : (s.programmed r records).store.program = none := by
  rw [programmed_keeps r records Store.program (fun _ => rfl) (fun _ _ _ _ _ => rfl), store_noted, store_written]

theorem tableEntry_programmed : (s.programmed r records).tableEntry r =
    some { first := (records.head?.map recordSequence).getD 0, count := records.length, valid := true } := by
  rw [tableEntry, programmed_keeps r records Store.table (fun _ => rfl) (fun _ _ _ _ _ => rfl), store_noted, store_written]
  simp only [get_put, if_true]

theorem notes_programmed (o : Fin 8) : (s.programmed r records).store.notes.get o =
    match (records.filter (fun x => isCounting x && decide (recordOutfall x = o))).getLast? with
    | some x => some { sequence := recordSequence x, block := r.block }
    | none => s.store.notes.get o := by
  rw [programmed_keeps r records Store.notes (fun _ => rfl) (fun _ _ _ _ _ => rfl)]
  exact notes_noted r records o

theorem mem_owed_programmed (o : Fin 8) : o ∈ (s.programmed r records).store.owed ↔
    o ∈ s.store.owed ∧ s.outfallEnabled o = true ∧ ∀ x ∈ records, isCounting x = true → recordOutfall x ≠ o := by
  rw [programmed_keeps r records Store.owed (fun _ => rfl) (fun _ _ _ _ _ => rfl)]
  exact mem_owed_noted r records o

variable {r records}

theorem point_programmed_of_inside (inside : r.page ≠ 15) : (s.programmed r records).store.writePage = r.page.val + 1
    ∧ (s.programmed r records).store.current = s.store.current := by
  rw [programmed, movePoint_of_inside inside]
  exact ⟨rfl, current_pageProgrammed r records⟩

section Last

variable (last : r.page = 15) (current : s.store.current = some r.block)

/-- The store past the last page of the block, before it leaves the block. -/
theorem aheadErased_moved : ((s.pageProgrammed r records).moved r).aheadErased = s.aheadErased := by
  have status : ((s.pageProgrammed r records).moved r).store.status = s.store.status := status_pageProgrammed r records
  have place : ((s.pageProgrammed r records).moved r).store.current = s.store.current := current_pageProgrammed r records
  simp only [aheadErased, ahead_congr place status, blockStatus_congr status]

include last current

theorem programmed_of_erased {b : Fin 64} (ahead : s.ahead = some b) (erased : s.blockStatus b = .erased) :
    (s.programmed r records).store.current = some b ∧ (s.programmed r records).store.writePage = 0
      ∧ (s.programmed r records).blockStatus b = .current ∧ (s.programmed r records).blockStatus r.block = .filled := by
  have enters : s.programmed r records = ((s.pageProgrammed r records).moved r).enterBlock b := by
    rw [programmed, movePoint_of_last last, leaveBlock_of_erased]
    rw [aheadErased_moved, aheadErased_eq_some ahead erased]
  have place : ((s.pageProgrammed r records).moved r).store.current = some r.block :=
    (current_pageProgrammed r records).trans current
  rw [enters]
  refine ⟨current_enterBlock b, writePage_enterBlock b, ?_, ?_⟩
  · rw [blockStatus_enterBlock, if_pos rfl]
  · rw [blockStatus_enterBlock, if_neg (ahead_ne_current ahead current).symm, if_pos place]

theorem programmed_of_full (ready : s.store.state = .ready) (none_ : ∀ b, s.ahead = some b → s.blockStatus b ≠ .erased)
    (left : s.store.nextSeq + (s.store.prep.getD []).length + s.store.owed.length ≤ 4294967295) :
    (s.programmed r records).store.state = .full ∧ (s.programmed r records).store.current = some r.block
      ∧ ((s.programmed r records).port .record).notices &&& noticeWord .store ≠ 0#16 := by
  have state : ((s.pageProgrammed r records).moved r).store.state = .ready := (state_pageProgrammed r records left).trans ready
  have fills : s.programmed r records = ((s.pageProgrammed r records).moved r).enterFull := by
    rw [programmed, movePoint_of_last last, leaveBlock_of_none]
    · rw [aheadErased_moved, aheadErased_eq_none none_]
    · rw [state]
      decide
  have place : ((s.pageProgrammed r records).moved r).store.current = some r.block :=
    (current_pageProgrammed r records).trans current
  rw [fills, store_enterFull]
  exact ⟨rfl, place, told_enterFull⟩

end Last

end Programmed

theorem onlyChanges_programmed (r : PageRef) (records : List (List Byte)) :
    onlyChanges [.store, .media, .notices] s (s.programmed r records) := by
  intro area other
  cases area <;> simp [unchanged, programmed] at other ⊢

/-! ### A program that fails (R154) -/

/-- The failed page torn, with the relocation that is to begin. -/
def torn (s : State) (r : PageRef) : State :=
  (s.tearPage r (s.store.program.getD [])).modStore (fun v => { v with reloc := some { page := r.page, next := 0 } })

theorem programFailed_of_ready {r : PageRef} (ready : s.store.state = .ready) : s.programFailed r = (s.torn r).seekRelocation := by
  have state : (s.tearPage r (s.store.program.getD [])).store.state = .ready := by simp [ready]
  exact if_neg (by rw [state]; decide)

theorem ring_seekRelocation : s.seekRelocation.ring = s.ring := by
  unfold seekRelocation
  split
  · rfl
  · split <;> rfl

theorem state_seekRelocation (sound : s.store.state ≠ .worn) :
    s.seekRelocation.store.state = .relocating ∨ s.seekRelocation.store.state = .full := by
  unfold seekRelocation
  rw [if_neg sound]
  split
  · exact .inl rfl
  · exact .inr rfl

theorem store_torn (r : PageRef) : (s.torn r).store = { s.store with reloc := some { page := r.page, next := 0 } } := by
  simp [torn]

theorem arrayPage_torn {r q : PageRef} (other : q ≠ r) : (s.torn r).arrayPage q = s.arrayPage q := by
  obtain ⟨-, rest⟩ := s.tearPage_pages r (s.store.program.getD [])
  exact rest q other

theorem onlyChanges_programFailed (r : PageRef) : onlyChanges [.store, .media, .notices] s (s.programFailed r) := by
  intro area other
  cases area <;> simp [unchanged] at other ⊢

/-! ### The program of a relocation (R154) -/

theorem array_setRetired (v : Retired) : (s.setRetired v).array = s.array := by
  unfold setRetired
  split <;> rfl

theorem array_retireBlock (b : Fin 64) (page : Option (Fin 16)) : (s.retireBlock b page).array = s.array := by
  have listed : (s.outOfRing b).array = s.array := by
    unfold outOfRing listRetired
    split <;> exact array_setRetired _
  have media : (s.retireBlock b page).media = (s.outOfRing b).media := by
    rw [retireBlock_eq]
    simp
  exact (congrArg Prod.fst media).trans listed

/-- The relocation's block made CURRENT, with the write point after its page. -/
def relocatedTo (s : State) (c : Fin 64) (r : PageRef) : State :=
  ((s.movePages c r.block r.page.val).setStatus r.block .current).modStore (fun v =>
    { v with current := some r.block, writePage := r.page.val + 1, reloc := none })

/-- The old block retired, with the page of the relocation programmed. -/
def relocationProgrammed (s : State) (c : Fin 64) (r : PageRef) (records : List (List Byte)) : State :=
  ((s.relocatedTo c r).pageProgrammed r records).retireBlock c (some r.page)

theorem fields_of_core {t u : State} (same : t.core = u.core) : t.store.op = u.store.op ∧ t.store.program = u.store.program
    ∧ t.store.current = u.store.current ∧ t.store.writePage = u.store.writePage ∧ t.store.status = u.store.status :=
  ⟨(congrArg Store.op same :), (congrArg Store.program same :), (congrArg Store.current same :),
    (congrArg Store.writePage same :), (congrArg Store.status same :)⟩

/-- READY again, unless the store is WORN. -/
def readyAgain (s : State) : State := s.modStore (fun v => { v with state := if v.state = .worn then .worn else .ready })

theorem core_readyAgain : s.readyAgain.core = s.core := rfl

theorem reloc_readyAgain : s.readyAgain.store.reloc = s.store.reloc := rfl

theorem media_readyAgain : s.readyAgain.media = s.media := rfl

theorem relocated_of_inside {c : Fin 64} {r : PageRef} {records : List (List Byte)} (current : s.store.current = some c)
    (inside : r.page ≠ 15) : s.relocated r records =
      (s.relocationProgrammed c r records).readyAgain.afterRetirement := by
  unfold relocated
  rw [current]
  exact if_neg inside

theorem reloc_afterRetirement (none_ : s.store.reloc = none) : s.afterRetirement.store.reloc = none := by
  unfold afterRetirement
  split
  · exact (congrArg Store.reloc (ring_becomeWorn _) :)
  · exact (congrArg Store.reloc s.ring_reclaimCheck :).trans none_

/-- A retirement leaves the write point, the relocation, the operation and the program buffer. -/
theorem point_retireBlock (b : Fin 64) (page : Option (Fin 16)) :
    (s.retireBlock b page).store.current = s.store.current ∧ (s.retireBlock b page).store.writePage = s.store.writePage
      ∧ (s.retireBlock b page).store.reloc = s.store.reloc := by
  have ring := ring_retireBlock (s := s) b page
  have store := s.store_outOfRing b
  have current : (s.retireBlock b page).store.current = (s.outOfRing b).store.current := (congrArg Store.current ring :)
  have point : (s.retireBlock b page).store.writePage = (s.outOfRing b).store.writePage := (congrArg Store.writePage ring :)
  have reloc : (s.retireBlock b page).store.reloc = (s.outOfRing b).store.reloc := (congrArg Store.reloc ring :)
  rw [current, point, reloc, store]
  exact ⟨rfl, rfl, rfl⟩

section RelocationProgrammed

variable (c : Fin 64) (r : PageRef) (records : List (List Byte))

theorem point_relocationProgrammed : (s.relocationProgrammed c r records).store.current = some r.block
    ∧ (s.relocationProgrammed c r records).store.writePage = r.page.val + 1
    ∧ (s.relocationProgrammed c r records).store.reloc = none := by
  obtain ⟨current, point, reloc⟩ := point_retireBlock (s := (s.relocatedTo c r).pageProgrammed r records) c (some r.page)
  rw [relocationProgrammed, current, point, reloc, current_pageProgrammed, writePage_pageProgrammed, reloc_pageProgrammed]
  exact ⟨rfl, rfl, rfl⟩

theorem op_relocationProgrammed : (s.relocationProgrammed c r records).store.op = s.store.op := by
  rw [relocationProgrammed, op_retireBlock, op_pageProgrammed]
  rfl

theorem program_relocationProgrammed : (s.relocationProgrammed c r records).store.program = none := by
  rw [relocationProgrammed, program_retireBlock, program_pageProgrammed]

theorem blockStatus_relocationProgrammed : (s.relocationProgrammed c r records).blockStatus c = .retired := by
  rw [relocationProgrammed, blockStatus, status_retireBlock, get_put_self]

theorem arrayPage_relocationProgrammed : (s.relocationProgrammed c r records).arrayPage r = programmedPage records := by
  have array : (s.relocationProgrammed c r records).array = ((s.relocatedTo c r).pageProgrammed r records).array :=
    array_retireBlock c (some r.page)
  have cells := arrayPage_congr (media_pageProgrammed (s := s.relocatedTo c r) r records)
  rw [arrayPage, array]
  exact (congrFun cells r).trans (by rw [arrayPage_setArrayPage, if_pos rfl])

end RelocationProgrammed

theorem onlyChanges_relocated (r : PageRef) (records : List (List Byte)) :
    onlyChanges [.store, .media, .save, .notices] s (s.relocated r records) := by
  intro area other
  cases area <;> simp [unchanged] at other ⊢

end State

/-- Settles O55: the page programmed, then the write point; a failure torn; a relocation's program with the old block retired. -/
theorem pageProgramRule : Obligations.PageProgramRule := by
  unfold Obligations.PageProgramRule
  intro s r records o program
  refine ⟨fun op => ⟨?_, fun ready => ?_⟩, fun c op current inside => ?_⟩
  · have taken : exec (.pageProgramComplete true) s = ended (s.operationEnds.programmed r records) := by
      have buffer : s.operationEnds.programRecords = records := by simp [State.programRecords, State.operationEnds, program]
      rw [exec_pageProgramComplete o op true, State.programEnds, buffer]
      rfl
    have media := State.media_programmed (s := s.operationEnds) r records
    have cells := State.arrayPage_congr media
    refine ⟨_, taken, (State.op_programmed r records).trans State.op_operationEnds, ?_, fun q other => ?_,
      State.tableEntry_programmed r records, (State.retired_of_media media :), (State.freeIndex_of_media media :),
      onlyChanges_trans (onlyChanges_mono (by decide) s.onlyChanges_operationEnds) (State.onlyChanges_programmed r records),
      State.program_programmed r records, State.notes_programmed r records, State.mem_owed_programmed r records,
      fun inside => ?_, fun last current ready => ⟨fun b ahead erased => ?_, fun none_ left => ?_⟩⟩
    · rw [cells, State.arrayPage_setArrayPage, if_pos rfl]
    · rw [cells, State.arrayPage_setArrayPage, if_neg other]
      rfl
    · exact ⟨State.program_programmed r records, State.point_programmed_of_inside (s := s.operationEnds) inside⟩
    · exact State.programmed_of_erased (s := s.operationEnds) last current ahead erased
    · exact State.programmed_of_full (s := s.operationEnds) last current ready none_ (Nat.le_of_lt left)
  · have taken : exec (.pageProgramComplete false) s = ended (s.operationEnds.torn r).seekRelocation := by
      rw [exec_pageProgramComplete o op false, ← State.programFailed_of_ready (s := s.operationEnds) ready]
      rfl
    have ring := State.ring_seekRelocation (s := s.operationEnds.torn r)
    have store := State.store_torn (s := s.operationEnds) r
    have media : (s.operationEnds.torn r).seekRelocation.media = (s.operationEnds.torn r).media := by simp
    have held : (s.operationEnds.torn r).seekRelocation.store.program = (s.operationEnds.torn r).store.program :=
      (congrArg Store.program ring :)
    have free : (s.operationEnds.torn r).seekRelocation.store.op = (s.operationEnds.torn r).store.op :=
      (congrArg Store.op ring :)
    have begins : (s.operationEnds.torn r).seekRelocation.store.reloc = (s.operationEnds.torn r).store.reloc :=
      (congrArg Store.reloc ring :)
    refine ⟨_, taken, ?_, ?_, State.state_seekRelocation ?_, ?_, fun q other => ?_, (State.retired_of_media media).trans rfl, ?_⟩
    · rw [free, store]
      rfl
    · rw [held, store]
      exact program
    · rw [store]
      have sound : s.store.state ≠ .worn := by
        rw [ready]
        decide
      exact sound
    · rw [begins, store]
    · rw [State.arrayPage_congr media]
      exact State.arrayPage_torn other
    · rw [← State.programFailed_of_ready (s := s.operationEnds) ready]
      exact onlyChanges_trans (onlyChanges_mono (by decide) s.onlyChanges_operationEnds) (State.onlyChanges_programFailed r)
  · have taken : exec (.pageProgramComplete true) s = ended (s.operationEnds.relocated r records) := by
      have buffer : s.operationEnds.programRecords = records := by simp [State.programRecords, State.operationEnds, program]
      rw [exec_pageProgramComplete o op true, State.programEnds, buffer]
    have form := State.relocated_of_inside (s := s.operationEnds) (records := records) current inside
    have core : (s.operationEnds.relocated r records).core = (s.operationEnds.relocationProgrammed c r records).core := by
      rw [form, State.core_afterRetirement, State.core_readyAgain]
    obtain ⟨free, empty, there, after, status⟩ := State.fields_of_core core
    obtain ⟨place, point, reloc⟩ := State.point_relocationProgrammed (s := s.operationEnds) c r records
    refine ⟨_, taken, free.trans ?_, empty.trans ?_, there.trans place, after.trans point, ?_, ?_, ?_, ?_⟩
    · exact (State.op_relocationProgrammed c r records).trans State.op_operationEnds
    · exact State.program_relocationProgrammed c r records
    · rw [form]
      exact State.reloc_afterRetirement (State.reloc_readyAgain.trans reloc)
    · have media : (s.operationEnds.relocated r records).media =
          (s.operationEnds.relocationProgrammed c r records).media := by
        rw [form]
        simp [State.media_readyAgain]
      rw [State.arrayPage_congr media]
      exact State.arrayPage_relocationProgrammed c r records
    · rw [State.blockStatus_congr status]
      exact State.blockStatus_relocationProgrammed c r records
    · exact onlyChanges_trans (onlyChanges_mono (by decide) s.onlyChanges_operationEnds) (State.onlyChanges_relocated r records)

end Sys2Proof.Machine
end

section
/-! SUPPORT. The duty map and the shape table (R14, R26). -/

namespace Sys2Proof.Machine

/-! ### The duty map (R14) -/

theorem mapDuty_eq (v : TankSettings) (duty : Nat) (low : 50 ≤ v.dLo) : mapDuty v duty =
    if v.dLo ≤ duty ∧ duty ≤ v.dHi then some ((duty - v.dLo) * v.span / (v.dHi - v.dLo), false)
    else if duty < v.dLo ∧ v.dLo ≤ duty + 50 then some (0, true)
    else if v.dHi < duty ∧ duty ≤ v.dHi + 50 then some (v.span, true)
    else none := by
  have within : v.dLo - 50 ≤ duty ↔ v.dLo ≤ duty + 50 := by omega
  simp only [mapDuty, within]

/-! ### The shape table (R26) -/

section Shape

variable {a b : Point} {rest : List Point} {l : Nat}

theorem pointsOrdered_cons_cons : pointsOrdered (a :: b :: rest) = true ↔
    a.level < b.level ∧ a.volume ≤ b.volume ∧ pointsOrdered (b :: rest) = true := by
  simp [pointsOrdered, and_assoc]

/-- The first point of an ordered table is the lowest. -/
theorem head_level_le (ordered : pointsOrdered (a :: rest) = true) : ∀ p ∈ a :: rest, a.level ≤ p.level := by
  induction rest generalizing a with
  | nil => simp
  | cons b rest ih =>
    obtain ⟨lt, -, further⟩ := pointsOrdered_cons_cons.mp ordered
    intro p mem
    rcases List.mem_cons.mp mem with rfl | mem
    · exact Nat.le_refl _
    · exact (Nat.le_of_lt lt).trans (ih further p mem)

theorem volumeOf_of_le_head (le : l ≤ a.level) : volumeOf (a :: rest) l = a.volume := by
  cases rest with
  | nil => rfl
  | cons b rest => rw [volumeOf, if_pos le]

theorem volumeOf_of_lt_second (above : a.level < l) (below : l < b.level) : volumeOf (a :: b :: rest) l =
    a.volume + (l - a.level) * (b.volume - a.volume) / (b.level - a.level) := by
  rw [volumeOf, if_neg (Nat.not_le.mpr above), if_pos below]

theorem volumeOf_of_second_le (lt : a.level < b.level) (above : b.level ≤ l) :
    volumeOf (a :: b :: rest) l = volumeOf (b :: rest) l := by
  rw [volumeOf, if_neg (by omega), if_neg (Nat.not_lt.mpr above)]

/-- Between two points the volume lies at or below the second's. -/
theorem volume_between_le (below : l < b.level) (above : a.level < l) (rises : a.volume ≤ b.volume) :
    a.volume + (l - a.level) * (b.volume - a.volume) / (b.level - a.level) ≤ b.volume := by
  have part : (l - a.level) * (b.volume - a.volume) / (b.level - a.level) ≤ b.volume - a.volume := by
    refine Nat.div_le_of_le_mul ?_
    exact Nat.mul_le_mul_right _ (by omega)
  omega

theorem head_volume_le (ordered : pointsOrdered (a :: rest) = true) : a.volume ≤ volumeOf (a :: rest) l := by
  induction rest generalizing a with
  | nil => exact Nat.le_refl _
  | cons b rest ih =>
    obtain ⟨lt, rises, further⟩ := pointsOrdered_cons_cons.mp ordered
    rcases Nat.lt_or_ge a.level l with above | le
    · rcases Nat.lt_or_ge l b.level with below | past
      · rw [volumeOf_of_lt_second above below]
        exact Nat.le_add_right _ _
      · rw [volumeOf_of_second_le lt past]
        exact rises.trans (ih further)
    · rw [volumeOf_of_le_head le]

/-- A higher level never has a lower volume. -/
theorem volumeOf_mono {ps : List Point} (ordered : pointsOrdered ps = true) {x y : Nat} (le : x ≤ y) :
    volumeOf ps x ≤ volumeOf ps y := by
  induction ps with
  | nil => exact Nat.le_refl _
  | cons a rest ih =>
    rcases Nat.lt_or_ge a.level x with above | low
    · cases rest with
      | nil => exact Nat.le_refl _
      | cons b rest =>
        obtain ⟨lt, rises, further⟩ := pointsOrdered_cons_cons.mp ordered
        rcases Nat.lt_or_ge x b.level with below | past
        · rw [volumeOf_of_lt_second above below]
          rcases Nat.lt_or_ge y b.level with still | beyond
          · rw [volumeOf_of_lt_second (by omega) still]
            have part : (x - a.level) * (b.volume - a.volume) ≤ (y - a.level) * (b.volume - a.volume) :=
              Nat.mul_le_mul_right _ (by omega)
            exact Nat.add_le_add_left (Nat.div_le_div_right part) _
          · rw [volumeOf_of_second_le lt beyond]
            exact (volume_between_le below above rises).trans (head_volume_le further)
        · rw [volumeOf_of_second_le lt past, volumeOf_of_second_le lt (past.trans le)]
          exact ih further
    · rw [volumeOf_of_le_head low]
      exact head_volume_le ordered

theorem volumeOf_of_last_le {ps : List Point} (ordered : pointsOrdered ps = true) {p : Point} (last : ps.getLast? = some p)
    (above : p.level ≤ l) : volumeOf ps l = p.volume := by
  induction ps with
  | nil => simp at last
  | cons a rest ih =>
    cases rest with
    | nil =>
      obtain rfl : a = p := by simpa using last
      rfl
    | cons b rest =>
      obtain ⟨lt, -, further⟩ := pointsOrdered_cons_cons.mp ordered
      have last' : (b :: rest).getLast? = some p := by simpa using last
      have low := head_level_le further p (List.mem_of_getLast? last')
      rw [volumeOf_of_second_le lt (low.trans above)]
      exact ih further last'

theorem volumeOf_of_between {ps : List Point} (ordered : pointsOrdered ps = true) {i : Nat} {p q : Point}
    (here : ps[i]? = some p) (next : ps[i + 1]? = some q) (above : p.level ≤ l) (below : l < q.level) :
    volumeOf ps l = p.volume + (l - p.level) * (q.volume - p.volume) / (q.level - p.level) := by
  induction ps generalizing i with
  | nil => simp at here
  | cons a rest ih =>
    cases rest with
    | nil => simp at next
    | cons b rest =>
      obtain ⟨lt, -, further⟩ := pointsOrdered_cons_cons.mp ordered
      cases i with
      | zero =>
        obtain rfl : a = p := by simpa using here
        obtain rfl : b = q := by simpa using next
        rcases Nat.lt_or_eq_of_le above with past | at_
        · exact volumeOf_of_lt_second past below
        · rw [volumeOf_of_le_head (Nat.le_of_eq at_.symm), ← at_]
          simp
      | succ i =>
        have here' : (b :: rest)[i]? = some p := here
        have low := head_level_le further p (List.mem_of_getElem? here')
        rw [volumeOf_of_second_le lt (low.trans above)]
        exact ih further here' next

theorem heldOf_of_last {ps : List Point} {p : Point} (last : ps.getLast? = some p) : heldOf ps l =
    { level := l, volume := volumeOf ps l
      fill := if p.volume = 0 then 0 else min 1000 (1000 * volumeOf ps l / p.volume) } := by
  simp [heldOf, fillOf, capacityOf, last]

end Shape

/-- Settles O59: the duty map by its definition, the shape table by induction over its points. -/
theorem levelAndVolumeMaps : Obligations.LevelAndVolumeMaps := by
  unfold Obligations.LevelAndVolumeMaps
  refine ⟨fun v duty low _ _ _ => mapDuty_eq v duty low, fun ps ordered => ⟨fun a b le => volumeOf_mono ordered le,
    fun l => ⟨fun p first le => ?_, fun p last above => volumeOf_of_last_le ordered last above,
      fun i p q here next above below => volumeOf_of_between ordered here next above below,
      fun p last => heldOf_of_last last⟩⟩⟩
  cases ps with
  | nil => simp at first
  | cons a rest =>
    obtain rfl : a = p := by simpa using first
    exact volumeOf_of_le_head le

end Sys2Proof.Machine
end

section
/-! SUPPORT. The end of a gate and the checks of its rate (R16, R37, R113, R115). -/

namespace Sys2Proof.Machine

/-- A grant whose draw check has seen a gate's rate (R113). -/
def Grant.drawChecked (g : Grant) (tol rate : Nat) : Grant :=
  if ¬ max g.granted g.confirmed + tol < rate then { g with overCount := 0, overdraw := false }
  else if g.overdraw = true then g
  else if g.overCount < 2 then { g with overCount := g.overCount + 1 }
  else { g with overCount := 3, overdraw := true }

/-- A tank whose open cycle takes a gate's litres (R37). -/
def Tank.takeLitres (k : Tank) (litres : Nat) : Tank :=
  if k.drain.status = .draining then
    { k with openCycle := k.openCycle.map (fun x =>
        if x.mode.isSome then { x with litres := min (x.litres + litres) 4294967295 } else x) }
  else k

namespace State

variable {s : State} {t k : Fin 8} {c d : Fin 16} {rate litres : Nat}

/-- The third gate in a row above the grants' ceiling (R113). -/
def overdraws (s : State) (t : Fin 8) (rate : Nat) : Prop :=
  max (s.tank t).grant.granted (s.tank t).grant.confirmed + (s.tank t).set.tol < rate
    ∧ (s.tank t).grant.overdraw = false ∧ 2 ≤ (s.tank t).grant.overCount

/-- The third gate in a row above A_eff (R115). -/
def legExceeds (s : State) (rate : Nat) : Prop :=
  s.allow.aEff + s.works.legTol < rate ∧ s.leg.excess = false ∧ 2 ≤ s.leg.count

/-- Two states with the same ports have the same port at each name. -/
theorem port_congr {t : State} (same : t.ports = s.ports) (p : Port) : t.port p = s.port p := congrArg (·.get (portIndex p)) same

/-! ### The draw check (R113) -/

theorem overdrawCheck_of_overdraws (third : s.overdraws t rate) : s.overdrawCheck t rate =
    ((s.modGrant t (fun g => { g with overCount := 3, overdraw := true })).notifyOwner .overdraw t).notify .overdraw .works := by
  obtain ⟨above, fresh, count⟩ := third
  simp [overdrawCheck, above, fresh, Nat.not_lt.mpr count]

theorem overdrawCheck_of_not_overdraws (not : ¬ s.overdraws t rate) : s.overdrawCheck t rate = s
    ∨ ∃ f, s.overdrawCheck t rate = s.modGrant t f := by
  unfold overdrawCheck
  dsimp only
  split
  next above =>
    split
    next => exact .inl rfl
    next fresh =>
      have count : (s.tank t).grant.overCount < 2 :=
        Nat.lt_of_not_le fun le => not ⟨of_decide_eq_true above, Bool.eq_false_iff.mpr fresh, le⟩
      rw [if_pos count]
      exact .inr ⟨_, rfl⟩
  next => exact .inr ⟨_, rfl⟩

theorem tank_overdrawCheck (t k : Fin 8) (rate : Nat) : (s.overdrawCheck t rate).tank k =
    if k = t then { s.tank t with grant := (s.tank t).grant.drawChecked (s.tank t).set.tol rate } else s.tank k := by
  unfold overdrawCheck Grant.drawChecked
  dsimp only
  by_cases above : max (s.tank t).grant.granted (s.tank t).grant.confirmed + (s.tank t).set.tol < rate
  case neg => simp [above]
  by_cases marked : (s.tank t).grant.overdraw = true
  case pos => by_cases e : k = t <;> simp [above, marked, e]
  by_cases count : (s.tank t).grant.overCount < 2
  · simp [above, marked, count]
  · have told (k : Fin 8) := tank_congr (s := s.modGrant t (fun g => { g with overCount := 3, overdraw := true }))
      (t := ((s.modGrant t (fun g => { g with overCount := 3, overdraw := true })).notifyOwner .overdraw t).notify
        .overdraw .works) (by simp) k
    simp [above, marked, count, told]

/-! ### The litres of the open cycle (R37) -/

theorem tank_addLitres (t k : Fin 8) (litres : Nat) :
    (s.addLitres t litres).tank k = if k = t then (s.tank t).takeLitres litres else s.tank k := by
  unfold addLitres Tank.takeLitres
  by_cases draining : (s.tank t).drain.status = .draining
  · simp [draining, tank_modCycle, satAdd]
  · by_cases e : k = t <;> simp [draining, e]

theorem ports_addLitres : (s.addLitres t litres).ports = s.ports := by
  unfold addLitres
  split <;> rfl

/-! ### The leg check (R115) -/

theorem leg_legCheck : (s.legCheck rate).leg =
    if ¬ s.allow.aEff + s.works.legTol < rate then { excess := false, count := 0 }
    else if s.leg.excess = true then s.leg
    else if s.leg.count < 2 then { s.leg with count := s.leg.count + 1 }
    else { excess := true, count := 3 } := by
  unfold legCheck
  by_cases above : s.allow.aEff + s.works.legTol < rate
  case neg => simp [above]
  by_cases marked : s.leg.excess = true
  case pos => simp [above, marked]
  by_cases count : s.leg.count < 2 <;> simp [above, marked, count]

theorem legCheck_of_legExceeds (third : s.legExceeds rate) :
    s.legCheck rate = ({ s with leg := { excess := true, count := 3 } } : State).notify .legExcess .works := by
  obtain ⟨above, fresh, count⟩ := third
  simp [legCheck, above, fresh, Nat.not_lt.mpr count]

theorem ports_legCheck (not : ¬ s.legExceeds rate) : (s.legCheck rate).ports = s.ports := by
  unfold legCheck
  split
  next above =>
    split
    next => rfl
    next fresh =>
      have count : s.leg.count < 2 := Nat.lt_of_not_le fun le => not ⟨above, Bool.eq_false_iff.mpr fresh, le⟩
      rw [if_pos count]
  next => rfl

/-! ### The end of a gate (R16) -/

/-- A flow channel that begins its next gate with the result of the last. -/
def gateEnded (k : Channel) : Channel :=
  { k with
    status := if k.flow.pulses = 65535 then .saturated else .ok
    flow := { pulses := 0, gateStart := k.flow.gateStart + k.gate, rate := some (gateRate k), litres := some (gateLitres k) } }

theorem endGate_eq : s.endGate c =
    (s.handGate (s.channel c).binder (gateRate (s.channel c)) (gateLitres (s.channel c))).modChannel c
      (fun q => { q with
        status := if (s.channel c).flow.pulses = 65535 then .saturated else .ok
        flow := {
          pulses := 0, gateStart := (s.channel c).flow.gateStart + (s.channel c).gate
          rate := some (gateRate (s.channel c)), litres := some (gateLitres (s.channel c)) } }) := rfl

theorem channel_endGate (c d : Fin 16) :
    (s.endGate c).channel d = if d = c then gateEnded (s.channel c) else s.channel d := by
  have handed (x : Fin 16) :
      (s.handGate (s.channel c).binder (gateRate (s.channel c)) (gateLitres (s.channel c))).channel x = s.channel x := by
    exact channel_congr (by simp) x
  rw [endGate_eq, channel_modChannel, handed, handed]
  rfl

theorem onlyChanges_endGate : onlyChanges [.channels, .tanks, .leg, .notices] s (s.endGate c) := by
  intro area other
  cases area <;> simp [unchanged] at other ⊢

/-- A draw channel's gate but for the channel itself: the draw check, then the litres. -/
theorem endGate_of_draw (draw : (s.channel c).binder = .tank t .draw) :
    (s.endGate c).leg = s.leg
      ∧ (s.endGate c).tanks = ((s.overdrawCheck t (gateRate (s.channel c))).addLitres t (gateLitres (s.channel c))).tanks
      ∧ (s.endGate c).ports = (s.overdrawCheck t (gateRate (s.channel c))).ports := by
  rw [endGate_eq, draw]
  refine ⟨?_, rfl, ?_⟩
  · exact (by simp : ((s.overdrawCheck t (gateRate (s.channel c))).addLitres t (gateLitres (s.channel c))).leg = s.leg)
  · exact ports_addLitres

theorem endGate_of_legMeter (meter : (s.channel c).binder = .legMeter) :
    (s.endGate c).tanks = s.tanks ∧ (s.endGate c).leg = (s.legCheck (gateRate (s.channel c))).leg
      ∧ (s.endGate c).ports = (s.legCheck (gateRate (s.channel c))).ports := by
  rw [endGate_eq, meter]
  refine ⟨?_, rfl, rfl⟩
  exact (by simp : (s.legCheck (gateRate (s.channel c))).tanks = s.tanks)

theorem told_overdraw_works (third : s.overdraws t rate) :
    ((s.overdrawCheck t rate).port .works).notices &&& noticeWord .overdraw ≠ 0#16 := by
  rw [overdrawCheck_of_overdraws third]
  exact told_notify _ _ _

theorem told_overdraw_owner {p : Port} (third : s.overdraws t rate) (owned : (s.tank t).owner ≠ .nobody)
    (owner : (s.tank t).owner = portOwner p) :
    ((s.overdrawCheck t rate).port p).notices &&& noticeWord .overdraw ≠ 0#16 := by
  rw [overdrawCheck_of_overdraws third]
  refine NoticesGrow.notify _ _ _ _ _ (told_notifyAll _ ?_)
  rw [mem_ownerPort_iff]
  simpa using ⟨owned, owner⟩

theorem ports_overdrawCheck (not : ¬ s.overdraws t rate) : (s.overdrawCheck t rate).ports = s.ports := by
  rcases overdrawCheck_of_not_overdraws not with same | ⟨f, only⟩
  · rw [same]
  · rw [only]
    rfl

end State

theorem exec_gateEnd {s : State} {c : Fin 16} (o : Open s) (flow : (s.channel c).kind = .flow)
    (due : (s.channel c).flow.gateStart + (s.channel c).gate ≤ s.partTime) :
    exec (.gateEnd c) s = ended (s.endGate c) :=
  exec_event_due (i := .gateEnd c) o rfl (by simp [gateDue, flow, due])

open State in
/-- Settles O48: a gate's end is the handing of its result to the binder's check and the channel's next gate. -/
theorem gateEndRule : Obligations.GateEndRule := by
  intro c s o flow due rate litres
  refine ⟨s.endGate c, exec_gateEnd o flow due, ?_, ?_, onlyChanges_endGate, ?_, ?_⟩
  · rw [channel_endGate, if_pos rfl]
    rfl
  · intro d ne
    rw [channel_endGate, if_neg ne]
  · intro k draw g above
    obtain ⟨leg, tanks, ports⟩ := endGate_of_draw draw
    have port (p : Port) : (s.endGate c).port p = (s.overdrawCheck k rate).port p := port_congr ports p
    refine ⟨leg, ?_, ?_, ?_, ?_⟩
    · intro x ne
      rw [tank_congr tanks, tank_addLitres, if_neg ne, tank_overdrawCheck, if_neg ne]
    · rw [tank_congr tanks, tank_addLitres, if_pos rfl, tank_overdrawCheck, if_pos rfl]
      unfold Tank.takeLitres
      dsimp only
      split <;> rfl
    · intro marked fresh count
      refine ⟨?_, ?_⟩
      · rw [port]
        exact told_overdraw_works ⟨marked, fresh, count⟩
      · intro p owned owner
        rw [port]
        exact told_overdraw_owner ⟨marked, fresh, count⟩ owned owner
    · intro not
      exact ports.trans (ports_overdrawCheck not)
  · intro meter above
    obtain ⟨tanks, leg, ports⟩ := endGate_of_legMeter meter
    refine ⟨tanks, leg.trans leg_legCheck, ?_, ?_⟩
    · intro marked fresh count
      have port : (s.endGate c).port .works = (s.legCheck rate).port .works := port_congr ports .works
      rw [port, legCheck_of_legExceeds ⟨marked, fresh, count⟩]
      exact told_notify _ _ _
    · intro not
      exact ports.trans (ports_legCheck not)

end Sys2Proof.Machine
end

section
/-! SUPPORT. The evaluation of the rain watch and the step down of its level (R34, R46 to R52, R55, R56). -/

namespace Sys2Proof.Machine

/-! ### Levels (R46, R48) -/

theorem alertCode_inj {a b : AlertLevel} : alertCode a = alertCode b ↔ a = b := by
  cases a <;> cases b <;> decide

theorem alertCode_maxLevel (a b : AlertLevel) : alertCode (maxLevel a b) = max (alertCode a) (alertCode b) := by
  cases a <;> cases b <;> rfl

theorem alertCode_lowerLevel (a : AlertLevel) : alertCode (lowerLevel a) = alertCode a - 1 := by
  cases a <;> rfl

theorem counts_iff {g : Gauge} : g.counts = true ↔ g.avail = .available := by simp [Gauge.counts]

theorem intensity_eq (g : Gauge) : g.i15 = intensity g := rfl

theorem hourDepth_eq (g : Gauge) : g.d60 = hourDepth g := rfl

theorem gaugeLevel_eq (r : Rain) (g : Gauge) : gaugeLevel r g = levelMet r g := by
  by_cases out : g.avail = .available
  · simp [gaugeLevel, levelMet, meetsEntry, Gauge.counts, out, ← intensity_eq, ← hourDepth_eq] <;> rfl
  · simp [gaugeLevel, levelMet, Gauge.counts, out]

theorem levelMet_of_not_available {r : Rain} {g : Gauge} (out : g.avail ≠ .available) : levelMet r g = .clear := if_pos out

/-- A level met by a gauge above CLEAR is met by one that counts. -/
theorem counts_of_levelMet {r : Rain} {g : Gauge} (above : levelMet r g ≠ .clear) : g.counts = true := by
  by_contra out
  exact above (levelMet_of_not_available (fun available => out (counts_iff.mpr available)))

theorem quietAt_iff (r : Rain) : quietAt r = true ↔ quietNow r := by
  have every (v : Threshold) : r.gauges.toList.all (fun g => !g.counts || meetsExit v g) = true ↔
      ∀ g, (r.gauges.get g).avail = .available → intensity (r.gauges.get g) < v.exitI ∧ hourDepth (r.gauges.get g) < v.exitD := by
    have member (p : Gauge → Prop) : (∀ x ∈ r.gauges.toList, p x) ↔ ∀ g, p (r.gauges.get g) := by
      constructor
      · intro all g
        exact all _ (by simp [Vector.get])
      · intro all x mem
        obtain ⟨i, lt, rfl⟩ := List.getElem_of_mem mem
        have small : i < 4 := by simpa using lt
        exact all ⟨i, small⟩
    rw [List.all_eq_true, member]
    refine forall_congr' fun g => ?_
    by_cases available : (r.gauges.get g).avail = .available <;>
      simp [meetsExit, Gauge.counts, available, ← intensity_eq, ← hourDepth_eq]
  unfold quietAt quietNow
  cases r.catchment <;> simp only [every] <;> simp

namespace State

variable {s : State} {level : AlertLevel} {lead : Option (Fin 4)}

/-! ### A record handed over in a state with the same store (R142 to R144) -/

theorem store_fillAssembly_congr {t : State} (n : Nat) (outer : t.outer = s.outer) (store : t.store = s.store) :
    (fillAssembly n t).store = (fillAssembly n s).store := by
  induction n generalizing s t with
  | zero => exact store
  | succ n ih =>
    obtain ⟨-, clock, -⟩ := outer_eq_iff.mp outer
    have now : t.partTime = s.partTime := by simp [partTime, clock]
    simp only [fillAssembly, store]
    split
    · exact store
    · split
      · refine ih outer ?_
        simp only [assemble, modStore_store, store, now]
      · exact store

theorem store_handOver_congr {t : State} (outer : t.outer = s.outer) (store : t.store = s.store) (kind subject : Nat)
    (body : Nat → List Byte) : (t.handOver kind subject body).2.store = (s.handOver kind subject body).2.store := by
  obtain ⟨-, clock, civil, -⟩ := outer_eq_iff.mp outer
  have bytes (x y : State) (c : x.clock = y.clock) (v : x.civil = y.civil) (n : Nat) :
      x.recordBytes n kind subject (body n) = y.recordBytes n kind subject (body n) := by
    simp only [recordBytes, civilTime, partTime, c, v]
  by_cases left : s.store.nextSeq < 4294967295
  case neg =>
    rw [s.handOver_of_no_number (Nat.not_lt.mp left), t.handOver_of_no_number (store ▸ Nat.not_lt.mp left)]
    exact congrArg (fun v : Store => { v with lost := min (v.lost + 1) 4294967295, state := .worn }) store
  by_cases room : s.store.queue.length < 32
  · rw [s.handOver_of_room left room, t.handOver_of_room (store ▸ left) (store ▸ room), store, recordOf_congr outer]
    refine store_fillAssembly_congr 16 outer ?_
    simp only [queued, modStore_store, store]
  · rw [s.handOver_of_no_room left (Nat.not_lt.mp room), t.handOver_of_no_room (store ▸ left) (store ▸ Nat.not_lt.mp room)]
    exact congrArg (fun v : Store => { v with nextSeq := v.nextSeq + 1, lost := min (v.lost + 1) 4294967295 }) store

theorem store_writeRecord_congr {t : State} (outer : t.outer = s.outer) (store : t.store = s.store) (kind subject : Nat)
    (body : List Byte) : (t.writeRecord kind subject body).store = (s.writeRecord kind subject body).store :=
  store_handOver_congr outer store kind subject _

/-! ### The tanks weighed anew (R34) -/

theorem bandOf_eq (alert : AlertLevel) (k : Tank) : bandOf alert k = (weighed alert k).band := by
  have warns : 2 ≤ alertCode alert ↔ alert = .warn ∨ alert = .storm := by cases alert <;> decide
  simp only [bandOf, weighed, warns]

theorem tank_recomputeWeight (t k : Fin 8) :
    (s.recomputeWeight t).tank k = if k = t then weighed s.rain.catchment (s.tank t) else s.tank k := by
  have tanks : (s.recomputeWeight t).tanks = (s.modTank t (fun k =>
      { k with band := bandOf s.rain.catchment (s.tank t)
               weight := (s.tank t).set.cls * bandOf s.rain.catchment (s.tank t) })).tanks := by
    unfold recomputeWeight
    dsimp only
    split <;> rfl
  rw [tank_congr tanks, tank_modTank, bandOf_eq]
  rfl

theorem weighed_weighed (a b : AlertLevel) (k : Tank) : weighed a (weighed b k) = weighed a k := rfl

theorem tank_foldl_recomputeWeight (l : List (Fin 8)) (k : Fin 8) :
    (l.foldl (fun s t => s.recomputeWeight t) s).tank k =
      if k ∈ l then weighed s.rain.catchment (s.tank k) else s.tank k := by
  induction l generalizing s with
  | nil => rfl
  | cons t l ih =>
    have rain : (s.recomputeWeight t).rain = s.rain := by simp
    rw [List.foldl_cons, ih, tank_recomputeWeight, rain]
    by_cases here : k = t
    · subst here
      simp [weighed_weighed]
    · simp [here]

theorem tank_alertChanged (before : AlertLevel) (k : Fin 8) :
    (s.alertChanged before).tank k = weighed s.rain.catchment (s.tank k) := by
  have all : ((List.finRange 8).foldl (fun s t => s.recomputeWeight t) s).tank k = weighed s.rain.catchment (s.tank k) := by
    rw [tank_foldl_recomputeWeight]
    exact if_pos (List.mem_finRange k)
  unfold alertChanged
  dsimp only
  split
  · rw [tank_noteTrigger, all]
  · exact all

theorem ports_recomputeWeight (t : Fin 8) : (s.recomputeWeight t).ports = s.ports := by
  unfold recomputeWeight
  dsimp only
  split <;> rfl

theorem ports_foldl_recomputeWeight (l : List (Fin 8)) : (l.foldl (fun s t => s.recomputeWeight t) s).ports = s.ports := by
  induction l generalizing s with
  | nil => rfl
  | cons t l ih => rw [List.foldl_cons, ih, ports_recomputeWeight]

theorem ports_noteTrigger : s.noteTrigger.ports = s.ports := rfl

theorem ports_alertChanged (before : AlertLevel) : (s.alertChanged before).ports = s.ports := by
  unfold alertChanged
  dsimp only
  split
  · rw [ports_noteTrigger, ports_foldl_recomputeWeight]
  · rw [ports_foldl_recomputeWeight]

/-! ### A change of the catchment level (R55, R56) -/

/-- The state with another catchment level. -/
def atLevel (s : State) (level : AlertLevel) : State := { s with rain := { s.rain with catchment := level } }

theorem changeLevel_eq : s.changeLevel level lead =
    (((s.atLevel level).alertRecord s.rain.catchment level lead ((lead.map (fun g => ((s.atLevel level).gauge g).i15)).getD 0)
      ((lead.map (fun g => ((s.atLevel level).gauge g).d60)).getD 0) (s.atLevel level).availableCount).notifyAll .alert
        [.works, .siteA, .siteB, .record]).alertChanged s.rain.catchment := rfl

theorem rain_changeLevel : (s.changeLevel level lead).rain = { s.rain with catchment := level } := by
  rw [changeLevel_eq]
  simp
  rfl

theorem tank_changeLevel (k : Fin 8) : (s.changeLevel level lead).tank k = weighed level (s.tank k) := by
  rw [changeLevel_eq, tank_alertChanged]
  rw [tank_congr (s := s) (by simp; rfl)]
  congr 1
  simp
  rfl

theorem told_changeLevel (p : Port) : ((s.changeLevel level lead).port p).notices &&& noticeWord .alert ≠ 0#16 := by
  rw [changeLevel_eq, port_congr (ports_alertChanged _) p]
  exact told_notifyAll _ (by cases p <;> simp)

theorem store_changeLevel : (s.changeLevel level lead).store =
    (s.alertRecord s.rain.catchment level lead ((lead.map (fun g => intensity (s.gauge g))).getD 0)
      ((lead.map (fun g => hourDepth (s.gauge g))).getD 0) s.availableCount).store := by
  rw [changeLevel_eq]
  have recorded (x : State) (before : AlertLevel) : ((x.notifyAll .alert [.works, .siteA, .siteB, .record]).alertChanged before).store
      = x.store := by simp
  rw [recorded]
  exact store_writeRecord_congr (s := s) (t := s.atLevel level) rfl rfl _ _ _

theorem onlyChanges_changeLevel : onlyChanges [.rain, .tanks, .store, .notices, .trigger] s (s.changeLevel level lead) := by
  intro area other
  cases area <;> simp [unchanged] at other ⊢

end State

end Sys2Proof.Machine
end

section
/-! SUPPORT. The evaluation of the rain watch and the timers it moves (R44, R48 to R52, R55, R56). -/

namespace Sys2Proof.Machine

namespace State

variable {s : State}

/-! ### The gauges take their levels (R48) -/

/-- The state whose gauges have taken their levels. -/
def leveled (s : State) : State :=
  { s with rain := { s.rain with gauges := s.rain.gauges.map (fun g => { g with level := gaugeLevel s.rain g }) } }

theorem evaluate_eq : s.evaluate = s.leveled.rise.decideTimer := rfl

theorem gauge_leveled (g : Fin 4) : s.leveled.gauge g = { s.gauge g with level := levelMet s.rain (s.gauge g) } := by
  simp [leveled, gauge, Vector.get_eq_getElem, gaugeLevel_eq]

theorem onlyChanges_leveled : onlyChanges [.rain] s s.leveled := by
  intro area other
  cases area <;> first | rfl | exact absurd (by simp) other

/-- The highest level of a gauge that counts. -/
def topLevel (s : State) : AlertLevel :=
  s.rain.gauges.toList.foldl (fun l g => if g.counts then maxLevel l g.level else l) .clear

theorem rise_of_le (le : alertCode s.topLevel ≤ alertCode s.rain.catchment) : s.rise = s := if_neg (Nat.not_lt.mpr le)

theorem rise_of_lt (lt : alertCode s.rain.catchment < alertCode s.topLevel) : s.rise =
    s.changeLevel s.topLevel ((List.finRange 4).find? (fun g => (s.gauge g).counts && (s.gauge g).level = s.topLevel)) :=
  if_pos lt

theorem gauges_toList : s.rain.gauges.toList = (List.finRange 4).map s.gauge := by
  refine List.ext_getElem (by simp) ?_
  intro i lt lt'
  simp [gauge, Vector.get]

/-- The levels of the gauges that count, folded from any level, are those that all the gauges meet. -/
theorem alertCode_foldl_levels (l : List (Fin 4)) (low : AlertLevel) :
    alertCode ((l.map s.leveled.gauge).foldl (fun l g => if g.counts then maxLevel l g.level else l) low) =
      l.foldl (fun n g => max n (alertCode (levelMet s.rain (s.gauge g)))) (alertCode low) := by
  induction l generalizing low with
  | nil => rfl
  | cons g l ih =>
    rw [List.map_cons, List.foldl_cons, List.foldl_cons, ih, gauge_leveled]
    congr 1
    by_cases counts : (s.gauge g).counts = true
    · have same : ({ s.gauge g with level := levelMet s.rain (s.gauge g) } : Gauge).counts = true := counts
      rw [if_pos same, alertCode_maxLevel]
    · have same : ¬ ({ s.gauge g with level := levelMet s.rain (s.gauge g) } : Gauge).counts = true := counts
      have clear : levelMet s.rain (s.gauge g) = .clear :=
        levelMet_of_not_available (fun available => counts (counts_iff.mpr available))
      rw [if_neg same, clear]
      exact (Nat.max_eq_left (Nat.zero_le _)).symm

theorem alertCode_topLevel : alertCode s.leveled.topLevel =
    (List.finRange 4).foldl (fun n g => max n (alertCode (levelMet s.rain (s.gauge g)))) 0 := by
  rw [topLevel, gauges_toList]
  exact alertCode_foldl_levels _ _

theorem foldl_max_start (f : Fin 4 → Nat) (l : List (Fin 4)) (n : Nat) :
    l.foldl (fun n g => max n (f g)) n = max n (l.foldl (fun n g => max n (f g)) 0) := by
  induction l generalizing n with
  | nil => simp
  | cons g l ih =>
    rw [List.foldl_cons, List.foldl_cons, ih, ih (max 0 (f g))]
    omega

/-- The highest of a level and the levels met. -/
theorem foldl_levels_eq : (List.finRange 4).foldl (fun n g => max n (alertCode (levelMet s.rain (s.gauge g))))
    (alertCode s.rain.catchment) = max (alertCode s.rain.catchment) (alertCode s.leveled.topLevel) := by
  rw [foldl_max_start, alertCode_topLevel]

/-! ### The rise and the clear timer (R50, R51) -/

theorem rain_decideTimer : s.decideTimer.rain =
    { s.rain with timer := if quietAt s.rain then some (s.rain.timer.getD s.partTime) else none } := rfl

theorem decideTimer_eq : s.decideTimer = { s with rain := s.decideTimer.rain } := rfl

theorem rain_evaluate : s.evaluate.rain = { s.leveled.rise.rain with
    timer := if quietAt s.leveled.rise.rain then some (s.leveled.rise.rain.timer.getD s.leveled.rise.partTime) else none } := rfl

theorem rain_rise : s.leveled.rise.rain = { s.leveled.rain with catchment := s.leveled.rise.rain.catchment } := by
  by_cases lt : alertCode s.leveled.rain.catchment < alertCode s.leveled.topLevel
  · rw [rise_of_lt lt, rain_changeLevel]
  · rw [rise_of_le (Nat.not_lt.mp lt)]

theorem alertCode_rise : alertCode s.leveled.rise.rain.catchment =
    max (alertCode s.rain.catchment) (alertCode s.leveled.topLevel) := by
  by_cases lt : alertCode s.leveled.rain.catchment < alertCode s.leveled.topLevel
  · rw [rise_of_lt lt, rain_changeLevel]
    exact (Nat.max_eq_right (Nat.le_of_lt lt)).symm
  · rw [rise_of_le (Nat.not_lt.mp lt)]
    exact (Nat.max_eq_left (Nat.not_lt.mp lt)).symm

/-- The first gauge at the level that a rise takes leads it. -/
theorem find_lead {g : Fin 4} (above : s.leveled.topLevel ≠ .clear) (met : levelMet s.rain (s.gauge g) = s.leveled.topLevel)
    (first : ∀ x, x < g → levelMet s.rain (s.gauge x) ≠ s.leveled.topLevel) :
    (List.finRange 4).find? (fun g => (s.leveled.gauge g).counts && (s.leveled.gauge g).level = s.leveled.topLevel) = some g := by
  have counts : (s.leveled.gauge g).counts = true := by
    rw [gauge_leveled]
    exact counts_of_levelMet (r := s.rain) (g := s.gauge g) (by rw [met]; exact above)
  rw [List.find?_eq_some_iff_getElem]
  refine ⟨?_, g.val, by simp, by simp, ?_⟩
  · rw [Bool.and_eq_true, decide_eq_true_eq]
    exact ⟨counts, by rw [gauge_leveled]; exact met⟩
  · intro j lt
    have small : j < 4 := lt.trans g.isLt
    have not := first ⟨j, small⟩ lt
    simp [gauge_leveled, not]

theorem rain_leveled : s.leveled.rain = { s.rain with gauges := s.leveled.rain.gauges } := rfl

theorem gauge_evaluate (g : Fin 4) : s.evaluate.gauge g = { s.gauge g with level := levelMet s.rain (s.gauge g) } := by
  have gauges : s.evaluate.rain.gauges = s.leveled.rain.gauges := by
    rw [rain_evaluate, rain_rise]
  rw [← gauge_leveled]
  exact congrArg (·.get g) gauges

theorem onlyChanges_evaluate : onlyChanges [.rain, .tanks, .store, .notices, .trigger] s s.evaluate := by
  intro area other
  cases area <;> simp [unchanged] at other ⊢

/-- The figures of a gauge do not tell its level. -/
theorem figures_leveled (g : Fin 4) : intensity (s.leveled.gauge g) = intensity (s.gauge g)
    ∧ hourDepth (s.leveled.gauge g) = hourDepth (s.gauge g) := by
  rw [gauge_leveled]
  exact ⟨rfl, rfl⟩

theorem availableCount_leveled : s.leveled.availableCount = s.availableCount := by
  unfold availableCount
  rw [gauges_toList, gauges_toList, List.filter_map, List.filter_map, List.length_map, List.length_map]
  congr 2
  funext g
  simp only [Function.comp, gauge_leveled, Gauge.counts]

/-- An evaluation is what the rules say of it. -/
theorem evaluated_evaluate (s : State) : evaluated s s.evaluate := by
  have timer : s.evaluate.rain.timer =
      if quietAt s.evaluate.rain then some (s.rain.timer.getD s.partTime) else none := by
    have now : s.leveled.rise.partTime = s.partTime := by
      have outer : s.leveled.rise.outer = s.outer := by simp; rfl
      obtain ⟨-, clock, -⟩ := outer_eq_iff.mp outer
      simp only [partTime, clock]
    have start : s.leveled.rise.rain.timer = s.rain.timer := by rw [rain_rise, rain_leveled]
    rw [rain_evaluate, start, now]
    rfl
  have catchment : alertCode s.evaluate.rain.catchment =
      max (alertCode s.rain.catchment) (alertCode s.leveled.topLevel) := by
    rw [rain_evaluate]
    exact alertCode_rise
  refine ⟨?_, gauge_evaluate, ?_, ?_, ?_, ?_, ?_, onlyChanges_evaluate⟩
  · rw [rain_evaluate, rain_rise, rain_leveled]
  · rw [foldl_levels_eq]
    exact catchment
  · intro quiet
    rw [timer, if_pos ((quietAt_iff _).mpr quiet)]
  · intro busy
    rw [timer, if_neg (fun quiet => busy ((quietAt_iff _).mp quiet))]
  · intro same
    have le : alertCode s.leveled.topLevel ≤ alertCode s.leveled.rain.catchment := by
      have code := congrArg alertCode same
      show alertCode s.leveled.topLevel ≤ alertCode s.rain.catchment
      omega
    rw [evaluate_eq, rise_of_le le]
    rfl
  · intro moved
    have lt : alertCode s.leveled.rain.catchment < alertCode s.leveled.topLevel := by
      show alertCode s.rain.catchment < alertCode s.leveled.topLevel
      by_contra le
      exact moved (alertCode_inj.mp (catchment.trans (Nat.max_eq_left (Nat.not_lt.mp le))))
    have risen := rise_of_lt lt
    have top : s.evaluate.rain.catchment = s.leveled.topLevel :=
      alertCode_inj.mp (catchment.trans (Nat.max_eq_right (Nat.le_of_lt lt)))
    rw [top]
    refine ⟨?_, ?_, ?_⟩
    · intro p
      have port : s.evaluate.port p = s.leveled.rise.port p := rfl
      rw [port, risen]
      exact told_changeLevel p
    · intro k
      have tank : s.evaluate.tank k = s.leveled.rise.tank k := rfl
      rw [tank, risen, tank_changeLevel]
      rfl
    · intro g met first
      have above : s.leveled.topLevel ≠ .clear := by
        intro clear
        rw [clear] at lt
        exact absurd lt (Nat.not_lt_zero _)
      have store : s.evaluate.store = s.leveled.rise.store := rfl
      obtain ⟨i15, d60⟩ := figures_leveled (s := s) g
      rw [store, risen, find_lead above met first, store_changeLevel]
      simp only [Option.map_some, Option.getD_some, i15, d60, availableCount_leveled]
      exact store_writeRecord_congr (s := s) (t := s.leveled) rfl rfl _ _ _

/-! ### The step down (R52) -/

/-- The state one level down, with the clear timer stopped. -/
def lowered (s : State) : State :=
  ({ s with rain := { s.rain with timer := none } } : State).changeLevel (lowerLevel s.rain.catchment) none

theorem stepDown_eq : s.stepDown = s.lowered.evaluate := rfl

theorem rain_lowered : s.lowered.rain = { s.rain with catchment := lowerLevel s.rain.catchment, timer := none } := by
  rw [lowered, rain_changeLevel]

theorem onlyChanges_lowered : onlyChanges [.rain, .tanks, .store, .notices, .trigger] s s.lowered := by
  intro area other
  cases area <;> simp [unchanged, lowered] at other ⊢

theorem store_lowered : s.lowered.store =
    (s.alertRecord s.rain.catchment (lowerLevel s.rain.catchment) none 0 0 s.availableCount).store := by
  rw [lowered, store_changeLevel]
  exact store_writeRecord_congr (s := s) (t := { s with rain := { s.rain with timer := none } }) rfl rfl _ _ _

/-- A step down is what the rules say of it. -/
theorem steppedDown_stepDown (s : State) : steppedDown s s.stepDown := by
  have catchment : s.lowered.rain.catchment = lowerLevel s.rain.catchment := by rw [rain_lowered]
  refine ⟨s.lowered, ?_, ?_, ?_, ?_, ?_, onlyChanges_lowered, evaluated_evaluate _⟩
  · rw [rain_lowered]
  · rw [catchment]
    exact alertCode_lowerLevel _
  · rw [catchment]
    exact store_lowered
  · exact told_changeLevel
  · intro k
    rw [catchment, lowered, tank_changeLevel]
    rfl

/-! ### A five-minute boundary (R44) -/

/-- The state whose rings have taken a new bin. -/
def rolled (s : State) : State :=
  { s with rain := { s.rain with
      boundary := s.rain.boundary + 1
      gauges := s.rain.gauges.map (fun g =>
        { g with five := roll 12 g.five
                 hourly := if decide ((s.rain.boundary + 1) % 12 = 0) then roll 24 g.hourly else g.hourly }) } }

theorem rollBins_eq : s.rollBins = s.rolled.evaluate := rfl

theorem gauge_rolled (g : Fin 4) : s.rolled.gauge g = { s.gauge g with
    five := (0 :: (s.gauge g).five).take 12
    hourly := if (s.rain.boundary + 1) % 12 = 0 then (0 :: (s.gauge g).hourly).take 24 else (s.gauge g).hourly } := by
  simp [rolled, gauge, Vector.get_eq_getElem, roll]

theorem onlyChanges_rollBins : onlyChanges [.rain, .tanks, .store, .notices, .trigger] s s.rollBins := by
  intro area other
  cases area <;> simp [unchanged] at other ⊢

theorem onlyChanges_stepDown : onlyChanges [.rain, .tanks, .store, .notices, .trigger] s s.stepDown := by
  intro area other
  cases area <;> simp [unchanged] at other ⊢

end State

open State

theorem exec_binBoundary {s : State} (o : Open s) (due : (s.rain.boundary + 1) * 300 ≤ s.partTime) :
    exec .binBoundary s = ended s.rollBins :=
  exec_event_due (i := .binBoundary) o rfl (by simp [binDue, due])

theorem exec_clearTimerExpiry {s : State} {start : Nat} (o : Open s) (running : s.rain.timer = some start)
    (due : start + 60 * s.rain.tClear ≤ s.partTime) : exec .clearTimerExpiry s = ended s.stepDown :=
  exec_event_due (i := .clearTimerExpiry) o rfl (by simp [clearDue, running, due])

/-- The level that an evaluation of a lowered state leaves is that of the gauges and the level below. -/
theorem alertCode_stepDown (s : State) : alertCode s.stepDown.rain.catchment =
    (List.finRange 4).foldl (fun n g => max n (alertCode (levelMet s.rain (s.gauge g)))) (alertCode s.rain.catchment - 1) := by
  obtain ⟨-, -, code, -⟩ := evaluated_evaluate s.lowered
  have levels (g : Fin 4) : levelMet s.lowered.rain (s.lowered.gauge g) = levelMet s.rain (s.gauge g) := by
    unfold State.gauge
    rw [rain_lowered]
    rfl
  have low : alertCode s.lowered.rain.catchment = alertCode s.rain.catchment - 1 := by
    rw [rain_lowered]
    exact alertCode_lowerLevel _
  rw [stepDown_eq, code, low]
  simp only [levels]

/-- Settles O49: both timers end in an evaluation, and the clear timer's lowers the level first. -/
theorem rainTimers : Obligations.RainTimers := by
  intro s o
  refine ⟨?_, ?_⟩
  · intro due
    obtain ⟨rain, gauges, -⟩ := evaluated_evaluate s.rolled
    have boundary : s.rollBins.rain.boundary = s.rain.boundary + 1 := (congrArg Rain.boundary rain :)
    have five (g : Fin 4) : (s.rollBins.gauge g).five = (0 :: (s.gauge g).five).take 12 := by
      rw [rollBins_eq, gauges, gauge_rolled]
    have hourly (g : Fin 4) : (s.rollBins.gauge g).hourly =
        if (s.rain.boundary + 1) % 12 = 0 then (0 :: (s.gauge g).hourly).take 24 else (s.gauge g).hourly := by
      rw [rollBins_eq, gauges, gauge_rolled]
    refine ⟨s.rolled, s.rollBins, exec_binBoundary o due, boundary, ?_, onlyChanges_rollBins, rfl, ?_, evaluated_evaluate _⟩
    · intro g
      refine ⟨five g, hourly g, ?_⟩
      rw [rollBins_eq, gauges, gauge_rolled]
    · intro g
      rw [five, hourly]
      exact gauge_rolled g
  · intro start running due
    have now : s.lowered.partTime = s.partTime := by
      obtain ⟨-, clock, -⟩ := outer_eq_iff.mp (onlyChanges_lowered (s := s) .outer (by simp))
      simp only [partTime, clock]
    have stopped : s.lowered.rain.timer = none := by rw [rain_lowered]
    obtain ⟨-, -, -, quiet, busy, -⟩ := evaluated_evaluate s.lowered
    refine ⟨s.stepDown, exec_clearTimerExpiry o running due, alertCode_stepDown s, ?_, ?_, ?_, onlyChanges_stepDown,
      steppedDown_stepDown s⟩
    · intro out
      rw [alertCode_stepDown, foldl_max_start]
      simp [levelMet_of_not_available (out _), List.finRange_succ, alertCode]
    · intro now'
      rw [stepDown_eq, quiet now', stopped, now]
      rfl
    · exact busy

end Sys2Proof.Machine
end

section
/-! SUPPORT. The entry of an outfall to SPILLING and the edges of its switch (R34, R36, R120 to R134). -/

namespace Sys2Proof.Machine

/-- Of the outfalls, the tanks and the spill settings, two states differ at one outfall and its tank alone. -/
def SameBut (s t : State) (o : Fin 8) : Prop :=
  (∀ k, k ≠ o → t.outfall k = s.outfall k ∧ t.tank k = s.tank k) ∧ t.spill = { s.spill with outfalls := t.spill.outfalls }

namespace SameBut

variable {s t u : State} {o : Fin 8}

theorem trans (first : SameBut s t o) (second : SameBut t u o) : SameBut s u o := by
  obtain ⟨others, spill⟩ := first
  obtain ⟨others', spill'⟩ := second
  refine ⟨?_, ?_⟩
  · intro k ne
    obtain ⟨outfall, tank⟩ := others k ne
    obtain ⟨outfall', tank'⟩ := others' k ne
    exact ⟨outfall'.trans outfall, tank'.trans tank⟩
  · rw [spill', spill]

theorem of_same (spill : t.spill = s.spill) (tanks : t.tanks = s.tanks) : SameBut s t o :=
  ⟨fun k _ => ⟨State.outfall_congr spill k, State.tank_congr tanks k⟩, by rw [spill]⟩

theorem modOutfall (s : State) (o : Fin 8) (f : Outfall → Outfall) : SameBut s (s.modOutfall o f) o :=
  ⟨fun k ne => ⟨by rw [State.outfall_modOutfall, if_neg ne], rfl⟩, rfl⟩

theorem of_spill {f : Outfall → Outfall} (spill : t.spill = (s.modOutfall o f).spill) (tanks : t.tanks = s.tanks) :
    SameBut s t o := (modOutfall s o f).trans (of_same spill tanks)

theorem of_tank (spill : t.spill = s.spill) (others : ∀ k, k ≠ o → t.tank k = s.tank k) : SameBut s t o :=
  ⟨fun k ne => ⟨State.outfall_congr spill k, others k ne⟩, by rw [spill]⟩

end SameBut

namespace State

variable {s : State} {o : Fin 8} {start stretch : Nat} {v : SpillEvent}

/-! ### The event of an entry (R126, R129) -/

/-- The outfall's event, opened or counted as an entry to SPILLING finds it. -/
def eventTaken (s : State) (o : Fin 8) (start : Nat) : State :=
  match (s.outfall o).event with
  | none => s.openEvent o start
  | some v => if v.counted then s else s.countInterval o false

theorem eventTaken_of_none (none_ : (s.outfall o).event = none) : s.eventTaken o start = s.openEvent o start := by
  simp [eventTaken, none_]

theorem eventTaken_of_counted (open_ : (s.outfall o).event = some v) (counted : v.counted = true) :
    s.eventTaken o start = s := by
  simp [eventTaken, open_, counted]

theorem eventTaken_of_uncounted (open_ : (s.outfall o).event = some v) (uncounted : v.counted = false) :
    s.eventTaken o start = s.countInterval o false := by
  simp [eventTaken, open_, uncounted]

theorem spill_countInterval (open_ : (s.outfall o).event = some v) (atStart : Bool) :
    (s.countInterval o atStart).spill = (s.intervalCounted o).spill := by
  rw [countInterval_of_event open_]
  simp

theorem outfall_countInterval (open_ : (s.outfall o).event = some v) (atStart : Bool) (k : Fin 8) :
    (s.countInterval o atStart).outfall k =
      if k = o then { s.outfall o with count := min ((s.outfall o).count + 1) 65535, event := some (countedEvent v) }
      else s.outfall k :=
  (outfall_congr (spill_countInterval open_ atStart) k).trans (outfall_intervalCounted open_ k)

theorem sameBut_countPeriod : SameBut s (s.countPeriod o) o := SameBut.modOutfall s o _

theorem sameBut_openEvent : SameBut s (s.openEvent o start) o :=
  sameBut_countPeriod.trans (SameBut.of_spill (s.spill_openEvent o start) (by simp))

theorem sameBut_intervalCounted : SameBut s (s.intervalCounted o) o := sameBut_countPeriod.trans (SameBut.modOutfall _ o _)

theorem sameBut_countInterval (open_ : (s.outfall o).event = some v) (atStart : Bool) :
    SameBut s (s.countInterval o atStart) o := by
  have tanks : (s.countInterval o atStart).tanks = (s.intervalCounted o).tanks := by
    rw [countInterval_of_event open_]
    simp
  exact sameBut_intervalCounted.trans (SameBut.of_same (spill_countInterval open_ atStart) tanks)

theorem sameBut_eventTaken : SameBut s (s.eventTaken o start) o := by
  cases event : (s.outfall o).event with
  | none =>
    rw [eventTaken_of_none event]
    exact sameBut_openEvent
  | some v =>
    by_cases counted : v.counted = true
    · rw [eventTaken_of_counted event counted]
      exact SameBut.of_same rfl rfl
    · rw [eventTaken_of_uncounted event (Bool.eq_false_iff.mpr counted)]
      exact sameBut_countInterval event false

@[simp] theorem kept_eventTaken (o : Fin 8) (start : Nat) :
    (s.eventTaken o start).tanks = s.tanks ∧ (s.eventTaken o start).rain = s.rain
      ∧ (s.eventTaken o start).outer = s.outer := by
  unfold eventTaken
  split
  · simp
  · split <;> simp

/-- What an entry makes of the outfall's event and count, the phase and the switch aside. -/
theorem exists_outfall_eventTaken (s : State) (o : Fin 8) (start : Nat) : ∃ w count,
    (s.eventTaken o start).outfall o = { s.outfall o with event := some w, count := count }
      ∧ match (s.outfall o).event with
        | none => eventOpened s o start w ∧ count = min ((s.outfall o).count + 1) 65535
        | some v =>
          (v.counted = true → w = v ∧ count = (s.outfall o).count)
          ∧ (v.counted = false → w = { v with counted := true, count := min (v.count + 1) 65535 }
              ∧ count = min ((s.outfall o).count + 1) 65535) := by
  cases event : (s.outfall o).event with
  | none =>
    refine ⟨s.openedEvent o start, min ((s.outfall o).count + 1) 65535, ?_, s.eventOpened_openedEvent o start, rfl⟩
    rw [eventTaken_of_none event, outfall_openEvent, if_pos rfl]
  | some v =>
    by_cases counted : v.counted = true
    · refine ⟨v, (s.outfall o).count, ?_, fun _ => ⟨rfl, rfl⟩, fun not => absurd (counted.symm.trans not) (by decide)⟩
      rw [eventTaken_of_counted event counted, ← event]
    · have uncounted := Bool.eq_false_iff.mpr counted
      refine ⟨countedEvent v, min ((s.outfall o).count + 1) 65535, ?_, fun yes => absurd yes counted, fun _ => ⟨rfl, rfl⟩⟩
      rw [eventTaken_of_uncounted event uncounted, outfall_countInterval event, if_pos rfl]

/-! ### The tank of a spilling outfall (R34, R36, R134) -/

theorem tank_reportSpilling (t k : Fin 8) (yes : Bool) : (s.reportSpilling t yes).tank k =
    if k = t then weighed s.rain.catchment { s.tank t with spilling := yes } else s.tank k := by
  have weighedAnew : ((s.modTank t (fun k => { k with spilling := yes })).recomputeWeight t).tank k =
      if k = t then weighed s.rain.catchment { s.tank t with spilling := yes } else s.tank k := by
    rw [tank_recomputeWeight, tank_modTank, tank_modTank]
    by_cases here : k = t
    · rw [if_pos here, if_pos here, if_pos rfl]
      rfl
    · rw [if_neg here, if_neg here, if_neg here]
  unfold reportSpilling
  dsimp only
  split
  · rw [tank_noteTrigger, weighedAnew]
  · exact weighedAnew

theorem tank_takeSpillRef (t k : Fin 8) (opening : Nat) : (s.takeSpillRef t opening).tank k =
    if k = t then
      { s.tank t with openCycle := (s.tank t).openCycle.map (fun c => { c with spillRef := some (c.spillRef.getD opening) }) }
    else s.tank k := by
  have taken : (fun c : Cycle => if c.spillRef.isNone then { c with spillRef := some opening } else c) =
      fun c => { c with spillRef := some (c.spillRef.getD opening) } := by
    funext c
    cases ref : c.spillRef with
    | none => simp
    | some x =>
      show c = { c with spillRef := some x }
      rw [← ref]
  rw [takeSpillRef, taken, tank_modCycle]

theorem sameBut_reportSpilling (yes : Bool) : SameBut s (s.reportSpilling o yes) o :=
  SameBut.of_tank (by simp) fun k ne => by rw [tank_reportSpilling, if_neg ne]

theorem sameBut_takeSpillRef (opening : Nat) : SameBut s (s.takeSpillRef o opening) o :=
  SameBut.of_tank (by simp) fun k ne => by rw [tank_takeSpillRef, if_neg ne]

/-! ### The entry to SPILLING (R121) -/

/-- The outfall in its stretch, its event as the entry finds it. -/
def stretched (s : State) (o : Fin 8) (start : Nat) : State :=
  (s.modOutfall o (fun w => { w with phase := .spilling start })).eventTaken o start

/-- The stretch reported to the tank. -/
def reported (s : State) (o : Fin 8) (start : Nat) : State :=
  ((s.stretched o start).takeSpillRef o ((((s.stretched o start).outfall o).event.map (fun v => v.opening)).getD 0)).reportSpilling
    o true

theorem enterSpilling_eq (announce : Bool) : s.enterSpilling o start announce =
    if announce then (s.reported o start).announceSpill o else s.reported o start := rfl

theorem spill_enterSpilling (announce : Bool) : (s.enterSpilling o start announce).spill = (s.stretched o start).spill := by
  rw [enterSpilling_eq]
  split <;> simp [reported]

theorem tanks_enterSpilling (announce : Bool) : (s.enterSpilling o start announce).tanks = (s.reported o start).tanks := by
  rw [enterSpilling_eq]
  split <;> simp

theorem sameBut_enterSpilling (announce : Bool) : SameBut s (s.enterSpilling o start announce) o := by
  have reported : SameBut s (s.reported o start) o :=
    ((SameBut.modOutfall s o _).trans sameBut_eventTaken).trans
      ((sameBut_takeSpillRef _).trans (sameBut_reportSpilling true))
  refine reported.trans (SameBut.of_same ?_ (tanks_enterSpilling announce))
  rw [spill_enterSpilling]
  simp [State.reported]

/-- An entry to SPILLING is what the rules say of it. -/
theorem spillEntered_enterSpilling (s : State) (o : Fin 8) (start : Nat) (announce : Bool) :
    spillEntered s (s.enterSpilling o start announce) o start := by
  obtain ⟨w, count, outfall, event⟩ :=
    exists_outfall_eventTaken (s.modOutfall o (fun w => { w with phase := .spilling start })) o start
  have here : (s.modOutfall o (fun w => { w with phase := .spilling start })).outfall o =
      { s.outfall o with phase := .spilling start } := by
    rw [outfall_modOutfall, if_pos rfl]
  rw [here] at outfall event
  have spill : (s.enterSpilling o start announce).outfall o = (s.stretched o start).outfall o :=
    outfall_congr (spill_enterSpilling announce) o
  refine ⟨w, count, ?_, ?_, event⟩
  · rw [spill]
    show (s.stretched o start).outfall o = { s.outfall o with
      switch := ((s.stretched o start).outfall o).switch, phase := .spilling start, event := some w, count := count }
    rw [stretched, outfall]
  · have tanks : (s.stretched o start).tanks = s.tanks := by simp [stretched]
    have rain : (s.stretched o start).rain = s.rain := by simp [stretched]
    have opening : ((((s.stretched o start).outfall o).event.map (fun v => v.opening)).getD 0) = w.opening := by
      rw [stretched, outfall]
      rfl
    have rain' : ((s.stretched o start).takeSpillRef o w.opening).rain = s.rain := by rw [← rain]; simp
    rw [tank_congr (tanks_enterSpilling announce), reported, opening, tank_reportSpilling, if_pos rfl, tank_takeSpillRef,
      if_pos rfl, tank_congr tanks, rain']

theorem onlyChanges_enterSpilling (announce : Bool) :
    onlyChanges [.spill, .tanks, .store, .notices, .trigger] s (s.enterSpilling o start announce) := by
  intro area other
  cases area <;> simp [unchanged] at other ⊢

theorem told_announceSpill : ((s.announceSpill o).port .record).notices &&& noticeWord .spill ≠ 0#16 :=
  NoticesGrow.notifyOwner _ _ _ _ _ (told_notify _ _ _)

theorem told_enterSpilling : ((s.enterSpilling o start true).port .record).notices &&& noticeWord .spill ≠ 0#16 :=
  told_announceSpill

end State

end Sys2Proof.Machine
end

section
/-! SUPPORT. The stretch that ends, the edges of a switch, and the timers of an outfall (R120 to R134). -/

namespace Sys2Proof.Machine

namespace State

variable {s : State} {o : Fin 8} {start stretch : Nat} {v : SpillEvent} {active : Bool}

/-! ### The end of a stretch (R122, R123, R133, R134) -/

/-- An outfall whose stretch has ended. -/
def trailed (s : State) (stretch : Nat) (w : Outfall) : Outfall :=
  { w with
    phase := .trailing s.partTime, seconds := min (w.seconds + (s.partTime - stretch)) 4294967295
    event := w.event.map (fun v => { v with seconds := min (v.seconds + (s.partTime - stretch)) 4294967295 }) }

/-- The stretch ended and reported to the tank. -/
def stretchEnded (s : State) (o : Fin 8) (stretch : Nat) : State :=
  ((s.modOutfall o (s.trailed stretch)).stretchTotals o (s.partTime - stretch)).reportSpilling o false

theorem endStretch_eq : s.endStretch o stretch =
    if s.spill.set.tOff = 0 then (s.stretchEnded o stretch).becomeQuiet o else s.stretchEnded o stretch := by
  have set_ : (s.stretchEnded o stretch).spill.set = s.spill.set := by
    have spill : (s.stretchEnded o stretch).spill = (s.modOutfall o (s.trailed stretch)).spill := by simp [stretchEnded]
    rw [spill]
    rfl
  rw [← set_]
  rfl

theorem spill_stretchEnded : (s.stretchEnded o stretch).spill = (s.modOutfall o (s.trailed stretch)).spill := by
  simp [stretchEnded]

theorem spill_becomeQuiet : (s.becomeQuiet o).spill = (s.modOutfall o (fun w => { w with phase := .quiet })).spill := by
  simp [becomeQuiet]

theorem outfall_becomeQuiet (k : Fin 8) :
    (s.becomeQuiet o).outfall k = if k = o then { s.outfall o with phase := .quiet } else s.outfall k :=
  (outfall_congr spill_becomeQuiet k).trans (outfall_modOutfall s o k _)

theorem sameBut_becomeQuiet : SameBut s (s.becomeQuiet o) o := SameBut.of_spill spill_becomeQuiet (by simp)

theorem sameBut_stretchEnded : SameBut s (s.stretchEnded o stretch) o :=
  ((SameBut.modOutfall s o (s.trailed stretch)).trans (SameBut.of_same (by simp) (by simp))).trans (sameBut_reportSpilling false)

theorem sameBut_endStretch : SameBut s (s.endStretch o stretch) o := by
  rw [endStretch_eq]
  split
  · exact sameBut_stretchEnded.trans sameBut_becomeQuiet
  · exact sameBut_stretchEnded

theorem outfall_stretchEnded : (s.stretchEnded o stretch).outfall o = s.trailed stretch (s.outfall o) := by
  rw [outfall_congr spill_stretchEnded, outfall_modOutfall, if_pos rfl]

theorem outfall_endStretch : (s.endStretch o stretch).outfall o = { s.trailed stretch (s.outfall o) with
    phase := if s.spill.set.tOff = 0 then .quiet else .trailing s.partTime } := by
  rw [endStretch_eq]
  by_cases zero : s.spill.set.tOff = 0
  · rw [if_pos zero, if_pos zero, outfall_becomeQuiet, if_pos rfl, outfall_stretchEnded]
  · rw [if_neg zero, if_neg zero, outfall_stretchEnded]
    rfl

theorem tank_endStretch : (s.endStretch o stretch).tank o = weighed s.rain.catchment { s.tank o with spilling := false } := by
  have ended : (s.stretchEnded o stretch).tank o = weighed s.rain.catchment { s.tank o with spilling := false } := by
    have rain : ((s.modOutfall o (s.trailed stretch)).stretchTotals o (s.partTime - stretch)).rain = s.rain := by
      simp
    have tank : ((s.modOutfall o (s.trailed stretch)).stretchTotals o (s.partTime - stretch)).tank o = s.tank o :=
      tank_congr (by simp) o
    rw [stretchEnded, tank_reportSpilling, if_pos rfl, rain, tank]
  rw [endStretch_eq]
  split
  · rw [tank_congr (s := s.stretchEnded o stretch) (by simp), ended]
  · exact ended

/-! ### The edges of a switch (R120 to R123) -/

/-- The switch at the level of its edge. -/
def switchedTo (s : State) (o : Fin 8) (active : Bool) : State := s.modOutfall o (fun w => { w with switch := active })

theorem outfall_switchedTo : (s.switchedTo o active).outfall o = { s.outfall o with switch := active } := by
  rw [switchedTo, outfall_modOutfall, if_pos rfl]

theorem modOutfall_modOutfall (f g : Outfall → Outfall) : (s.modOutfall o f).modOutfall o g = s.modOutfall o (fun w => g (f w)) := by
  simp only [modOutfall, outfall, get_put, if_true, put_put]

/-- An edge to another level, by the phase it meets. -/
theorem spillEdge_of_ne (moves : (s.outfall o).switch ≠ active) : s.spillEdge o active =
    match (s.outfall o).phase, active with
    | .quiet, true =>
      if s.spill.set.tOn = 0 then (s.switchedTo o true).enterSpilling o s.partTime true
      else s.modOutfall o (fun w => { w with switch := true, phase := .pending s.partTime })
    | .pending _, false => s.modOutfall o (fun w => { w with switch := false, phase := .quiet })
    | .spilling stretch, false => (s.switchedTo o false).endStretch o stretch
    | .trailing _, true => (s.switchedTo o true).enterSpilling o s.partTime false
    | _, _ => s.switchedTo o active := by
  have phase : ((s.switchedTo o active).outfall o).phase = (s.outfall o).phase := by rw [outfall_switchedTo]
  unfold switchedTo at phase
  unfold spillEdge
  rw [if_neg moves]
  dsimp only
  rw [phase]
  cases (s.outfall o).phase <;> cases active <;> first | rfl | skip
  · exact if_congr Iff.rfl rfl (modOutfall_modOutfall _ _)
  · exact modOutfall_modOutfall _ _

theorem sameBut_spillEdge (s : State) (o : Fin 8) (active : Bool) : SameBut s (s.spillEdge o active) o := by
  by_cases same : (s.outfall o).switch = active
  · exact SameBut.of_same (by rw [spillEdge, if_pos same]) (by rw [spillEdge, if_pos same])
  have edge : SameBut s (s.switchedTo o active) o := SameBut.modOutfall s o _
  rw [spillEdge_of_ne same]
  split
  · split
    · exact edge.trans (sameBut_enterSpilling true)
    · exact SameBut.modOutfall s o _
  · exact SameBut.modOutfall s o _
  · exact edge.trans sameBut_endStretch
  · exact edge.trans (sameBut_enterSpilling false)
  · exact edge

theorem onlyChanges_spillEdge : onlyChanges [.spill, .tanks, .store, .notices, .trigger] s (s.spillEdge o active) := by
  intro area other
  cases area <;> simp [unchanged] at other ⊢

theorem switch_enterSpilling (announce : Bool) :
    ((s.enterSpilling o start announce).outfall o).switch = (s.outfall o).switch := by
  obtain ⟨w, count, taken, -⟩ :=
    exists_outfall_eventTaken (s.modOutfall o (fun w => { w with phase := .spilling start })) o start
  rw [outfall_congr (spill_enterSpilling announce) o, stretched, taken, outfall_modOutfall, if_pos rfl]

/-- What an entry to SPILLING at an edge makes of the outfall before the edge. -/
theorem spillEntered_switchedTo {t : State} (entered : spillEntered (s.switchedTo o active) t o start)
    (switch : (t.outfall o).switch = active) : spillEntered s t o start := by
  obtain ⟨w, count, outfall, tank, event⟩ := entered
  rw [outfall_switchedTo] at outfall event
  refine ⟨w, count, ?_, tank, event⟩
  rw [switch] at outfall ⊢
  exact outfall

/-- An edge of a switch is what the rules say of it. -/
theorem switched_spillEdge (s : State) (o : Fin 8) (active : Bool) : switched s (s.spillEdge o active) o active := by
  refine ⟨fun same => if_pos same, fun moves => ?_⟩
  obtain ⟨others, spill⟩ := sameBut_spillEdge s o active
  have entered (announce : Bool) : spillEntered s ((s.switchedTo o true).enterSpilling o s.partTime announce) o s.partTime :=
    spillEntered_switchedTo (spillEntered_enterSpilling (s.switchedTo o true) o s.partTime announce)
      (by rw [switch_enterSpilling, outfall_switchedTo])
  have edge := spillEdge_of_ne moves
  refine ⟨?_, others, spill, onlyChanges_spillEdge, ?_⟩
  · rw [edge]
    split
    · split
      · rw [switch_enterSpilling, outfall_switchedTo]
      · rw [outfall_modOutfall, if_pos rfl]
    · rw [outfall_modOutfall, if_pos rfl]
    · rw [outfall_endStretch, outfall_switchedTo]
      rfl
    · rw [switch_enterSpilling, outfall_switchedTo]
    · rw [outfall_switchedTo]
  · cases phase : (s.outfall o).phase <;> cases active <;> simp only [phase] at edge ⊢
    case quiet.true =>
      refine ⟨fun zero => ?_, fun long => ?_⟩
      · rw [edge, if_pos zero]
        exact ⟨entered true, told_enterSpilling⟩
      · rw [edge, if_neg long]
    case spilling.false stretch =>
      rw [edge, outfall_endStretch, tank_endStretch, outfall_switchedTo]
      exact ⟨rfl, rfl⟩
    case trailing.true =>
      rw [edge]
      exact entered false
    all_goals exact edge

/-! ### The next block and the close of an event (R130, R131) -/

/-- The event of an outfall in its next block. -/
def blockBegun (s : State) (v : SpillEvent) : SpillEvent :=
  { v with
    interval := min (v.interval + 1) 4294967295, blockStart := v.intervalEnd, blockHours := s.spill.set.w2
    intervalEnd := v.intervalEnd + 3600 * s.spill.set.w2, counted := false }

/-- The state in the next block, before it is counted. -/
def inNextBlock (s : State) (o : Fin 8) : State := s.modEvent o s.blockBegun

theorem outfall_inNextBlock (open_ : (s.outfall o).event = some v) :
    (s.inNextBlock o).outfall o = { s.outfall o with event := some (s.blockBegun v) } := by
  simp [inNextBlock, modEvent, open_]

theorem nextBlock_eq : s.nextBlock o =
    if (s.inNextBlock o).isSpilling o then (s.inNextBlock o).countInterval o true else s.inNextBlock o := rfl

/-- The next block of an event, counted where the outfall is SPILLING. -/
theorem exists_outfall_nextBlock (open_ : (s.outfall o).event = some v) : ∃ w,
    ((s.nextBlock o).outfall o).event = some w ∧ w.interval = min (v.interval + 1) 4294967295
      ∧ w.intervalEnd = v.intervalEnd + 3600 * s.spill.set.w2 ∧ w.opening = v.opening
      ∧ (w.counted = true ↔ ∃ start, (s.outfall o).phase = .spilling start)
      ∧ ((s.nextBlock o).outfall o).phase = (s.outfall o).phase := by
  have begun : (s.inNextBlock o).outfall o = { s.outfall o with event := some (s.blockBegun v) } := outfall_inNextBlock open_
  have event : ((s.inNextBlock o).outfall o).event = some (s.blockBegun v) := by rw [begun]
  have spills : (s.inNextBlock o).isSpilling o = true ↔ ∃ start, (s.outfall o).phase = .spilling start := by
    rw [isSpilling_iff, begun]
  rw [nextBlock_eq]
  by_cases spilling : (s.inNextBlock o).isSpilling o = true
  · rw [if_pos spilling, outfall_countInterval event, if_pos rfl, begun]
    exact ⟨countedEvent (s.blockBegun v), rfl, rfl, rfl, rfl, iff_of_true rfl (spills.mp spilling), rfl⟩
  · rw [if_neg spilling, begun]
    exact ⟨s.blockBegun v, rfl, rfl, rfl, rfl, iff_of_false Bool.false_ne_true (fun now => spilling (spills.mpr now)), rfl⟩

theorem sameBut_nextBlock (open_ : (s.outfall o).event = some v) : SameBut s (s.nextBlock o) o := by
  have begun : SameBut s (s.inNextBlock o) o := SameBut.modOutfall s o _
  have event : ((s.inNextBlock o).outfall o).event = some (s.blockBegun v) := by rw [outfall_inNextBlock open_]
  rw [nextBlock_eq]
  split
  · exact begun.trans (sameBut_countInterval event true)
  · exact begun

theorem spill_closeEvent : (s.closeEvent o v).spill = (s.modOutfall o (fun w => { w with event := none })).spill := by
  unfold closeEvent
  simp only [modOutfall, outfall]
  simp

theorem outfall_closeEvent (k : Fin 8) :
    (s.closeEvent o v).outfall k = if k = o then { s.outfall o with event := none } else s.outfall k :=
  (outfall_congr spill_closeEvent k).trans (outfall_modOutfall s o k _)

theorem onlyChanges_nextBlock : onlyChanges [.spill, .store, .notices] s (s.nextBlock o) := by
  intro area other
  cases area <;> simp [unchanged] at other ⊢

theorem onlyChanges_closeEvent : onlyChanges [.spill, .store, .notices] s (s.closeEvent o v) := by
  intro area other
  cases area <;> simp [unchanged] at other ⊢

theorem onlyChanges_becomeQuiet : onlyChanges [.spill, .notices] s (s.becomeQuiet o) := by
  intro area other
  cases area <;> simp [unchanged] at other ⊢

end State

/-! ### The timers (R121, R123, R130) -/

section Timers

variable {s : State} {k : Fin 8} {start : Nat} {v : SpillEvent}

theorem exec_tOnExpiry (o : Open s) (pending : (s.outfall k).phase = .pending start) (due : start + s.spill.set.tOn ≤ s.partTime) :
    exec (.tOnExpiry k) s = ended (s.enterSpilling k start true) := by
  have since : s.pendingSince k = some start := by simp [State.pendingSince, pending]
  rw [exec_event_due (i := .tOnExpiry k) o rfl (by simp [onDue, State.reached, since, due])]
  simp only [since]

theorem exec_tOffExpiry (o : Open s) (trailing : (s.outfall k).phase = .trailing start)
    (due : start + s.spill.set.tOff ≤ s.partTime) : exec (.tOffExpiry k) s = ended (s.becomeQuiet k) := by
  have since : s.trailingSince k = some start := by simp [State.trailingSince, trailing]
  exact exec_event_due (i := .tOffExpiry k) o rfl (by simp [offDue, State.reached, since, due])

theorem exec_intervalEnd (o : Open s) (open_ : (s.outfall k).event = some v) (due : v.intervalEnd ≤ s.partTime) :
    exec (.intervalEnd k) s = ended (s.endInterval k v) := by
  rw [exec_event_due (i := .intervalEnd k) o rfl (by simp [intervalDue, State.reached, open_, due])]
  simp only [open_]

end Timers

open State in
/-- Settles O52: T_on's expiry is an entry to SPILLING, T_off's the quiet, and an interval ends in a block or a close. -/
theorem spillTimers : Obligations.SpillTimers := by
  intro o s opened
  refine ⟨?_, ?_, ?_⟩
  · intro start pending due
    obtain ⟨w, count, outfall, tank, event⟩ := spillEntered_enterSpilling s o start true
    obtain ⟨others, -⟩ := sameBut_enterSpilling (s := s) (o := o) (start := start) true
    refine ⟨_, exec_tOnExpiry opened pending due, ?_, ?_, ?_, ?_, ?_, others, onlyChanges_enterSpilling true⟩
    · rw [outfall]
    · rw [outfall]
      rfl
    · intro none_
      rw [outfall]
      simp only [none_] at event
      exact event.2
    · rw [outfall]
    · rw [tank]
      rfl
  · intro start trailing due
    refine ⟨_, exec_tOffExpiry opened trailing due, ?_, ?_, told_announceSpill, onlyChanges_becomeQuiet⟩
    · rw [outfall_becomeQuiet, if_pos rfl]
    · intro k ne
      rw [outfall_becomeQuiet, if_neg ne]
  · intro v event due
    have taken := exec_intervalEnd opened event due
    refine ⟨?_, ?_⟩
    · intro later uncounted
      rw [endInterval, if_neg (by simp [later, uncounted])] at taken
      refine ⟨_, taken, ?_, ?_, onlyChanges_closeEvent⟩
      · rw [outfall_closeEvent, if_pos rfl]
      · intro k ne
        rw [outfall_closeEvent, if_neg ne]
    · intro goesOn
      rw [endInterval, if_pos goesOn] at taken
      obtain ⟨w, next, interval, end_, opening, counted, phase⟩ := exists_outfall_nextBlock event
      obtain ⟨others, -⟩ := sameBut_nextBlock event
      exact ⟨_, w, taken, next, interval, end_, opening, counted, phase, fun k ne => (others k ne).1, onlyChanges_nextBlock⟩

end Sys2Proof.Machine
end

section
/-! SUPPORT. A channel in and out of FAULT, and the availability of a gauge (R5, R11, R18, R42). -/

namespace Sys2Proof.Machine

/-- A gauge with another availability: an unbound one has its rings cleared. -/
def Gauge.becoming (a : Availability) (q : Gauge) : Gauge :=
  if a = .unbound then { q with avail := a, five := List.replicate 12 0, hourly := List.replicate 24 0 } else { q with avail := a }

namespace State

variable {s : State} {c d : Fin 16} {g : Fin 4} {entered : Bool} {cause : FaultCause} {a : Availability}

theorem modChannel_modChannel (f g : Channel → Channel) : (s.modChannel c f).modChannel c g = s.modChannel c (fun k => g (f k)) := by
  simp only [modChannel, channel, get_put, if_true, put_put]

/-! ### FAULT (R18) -/

/-- The channel in or out of FAULT, before its record. -/
def faultMarked (s : State) (c : Fin 16) (entered : Bool) : State :=
  s.modChannel c (fun k => { k with status := if entered then .fault else .ok })

theorem faultChange_eq : s.faultChange c entered cause =
    ((s.faultMarked c entered).channelRecord c entered cause).notifyChannel (s.channel c).binder := rfl

theorem channels_faultChange : (s.faultChange c entered cause).channels = (s.faultMarked c entered).channels := by
  rw [faultChange_eq]
  simp

theorem channel_faultChange (d : Fin 16) : (s.faultChange c entered cause).channel d =
    if d = c then { s.channel c with status := if entered then .fault else .ok } else s.channel d :=
  (channel_congr channels_faultChange d).trans (channel_modChannel s c d _)

theorem store_faultChange : (s.faultChange c entered cause).store = (s.channelRecord c entered cause).store := by
  have same : (s.faultMarked c entered).channel c = { s.channel c with status := if entered then .fault else .ok } := by
    rw [faultMarked, channel_modChannel, if_pos rfl]
  have record : ((s.faultMarked c entered).channelRecord c entered cause).store = (s.channelRecord c entered cause).store := by
    unfold channelRecord
    dsimp only
    rw [same]
    exact store_writeRecord_congr (s := s) (t := s.faultMarked c entered) rfl rfl _ _ _
  rw [faultChange_eq, ← record]
  simp

theorem told_faultChange_record : ((s.faultChange c entered cause).port .record).notices &&& noticeWord .channel ≠ 0#16 :=
  told_notify _ _ _

/-- The ports of the binder hear of a FAULT. -/
theorem told_faultChange {p : Port} (mem : p ∈ s.binderPorts (s.channel c).binder) :
    ((s.faultChange c entered cause).port p).notices &&& noticeWord .channel ≠ 0#16 := by
  have same : ((s.faultMarked c entered).channelRecord c entered cause).binderPorts (s.channel c).binder =
      s.binderPorts (s.channel c).binder := by
    have tanks : ((s.faultMarked c entered).channelRecord c entered cause).tanks = s.tanks := by simp [faultMarked]
    unfold binderPorts
    cases (s.channel c).binder <;> simp only [tank_congr tanks]
  rw [faultChange_eq, notifyChannel, same]
  exact NoticesGrow.notify _ _ _ _ _ (told_notifyAll _ mem)

theorem onlyChanges_faultChange : onlyChanges [.channels, .store, .notices] s (s.faultChange c entered cause) := by
  intro area other
  cases area <;> simp [unchanged] at other ⊢

/-- Leaving FAULT at a release is what the rules say of it. -/
theorem faultReleased_faultChange (s : State) (c : Fin 16) :
    faultReleased s (if (s.channel c).status = .fault then s.faultChange c false .unbound else s) c := by
  refine ⟨fun sound => if_neg sound, fun fault => ?_⟩
  rw [if_pos fault]
  refine ⟨store_faultChange, told_faultChange_record, ?_, ?_, onlyChanges_faultChange⟩
  · intro k r p binder owner some
    refine told_faultChange ?_
    rw [binder]
    exact (mem_ownerPort_iff _ _).mpr ⟨owner ▸ some, owner.symm⟩
  · intro binder
    refine told_faultChange ?_
    rw [binder]
    exact List.mem_singleton.mpr rfl

/-! ### The availability of a gauge (R42) -/

theorem setAvailability_of_same (same : (s.gauge g).avail = a) : s.setAvailability g a = s := if_pos same

theorem setAvailability_of_ne (ne : (s.gauge g).avail ≠ a) :
    s.setAvailability g a = (s.modGauge g (Gauge.becoming a)).evaluate := if_neg ne

theorem avail_setAvailability : ((s.setAvailability g a).gauge g).avail = a := by
  by_cases same : (s.gauge g).avail = a
  · rw [setAvailability_of_same same, same]
  · rw [setAvailability_of_ne same, gauge_evaluate, gauge_modGauge, if_pos rfl]
    unfold Gauge.becoming
    split <;> rfl

theorem evaluated_setAvailability (ne : (s.gauge g).avail ≠ a) :
    evaluated (s.modGauge g (Gauge.becoming a)) (s.setAvailability g a) := by
  rw [setAvailability_of_ne ne]
  exact evaluated_evaluate _

/-! ### A hand-over and an evaluation take no notice back (R143, R55) -/

theorem noticesGrow_handOver (kind subject : Nat) (body : Nat → List Byte) : NoticesGrow s (s.handOver kind subject body).2 := by
  by_cases left : s.store.nextSeq < 4294967295
  case neg =>
    rw [s.handOver_of_no_number (Nat.not_lt.mp left)]
    exact (NoticesGrow.of_ports rfl).trans (NoticesGrow.notify _ _ _)
  by_cases room : s.store.queue.length < 32
  · rw [s.handOver_of_room left room]
    exact NoticesGrow.of_ports (ports_fillAssembly _ _)
  · rw [s.handOver_of_no_room left (Nat.not_lt.mp room)]
    exact (NoticesGrow.of_ports rfl).trans (NoticesGrow.notify _ _ _)

theorem noticesGrow_writeRecord (kind subject : Nat) (body : List Byte) : NoticesGrow s (s.writeRecord kind subject body) :=
  noticesGrow_handOver _ _ _

theorem noticesGrow_changeLevel (level : AlertLevel) (lead : Option (Fin 4)) : NoticesGrow s (s.changeLevel level lead) := by
  have record : NoticesGrow s ((s.atLevel level).alertRecord s.rain.catchment level lead
      ((lead.map (fun g => ((s.atLevel level).gauge g).i15)).getD 0)
      ((lead.map (fun g => ((s.atLevel level).gauge g).d60)).getD 0) (s.atLevel level).availableCount) :=
    (NoticesGrow.of_ports rfl : NoticesGrow s (s.atLevel level)).trans (noticesGrow_writeRecord _ _ _)
  rw [changeLevel_eq]
  exact (record.trans (NoticesGrow.notifyAll _ _ _)).trans (NoticesGrow.of_ports (ports_alertChanged _))

theorem noticesGrow_evaluate : NoticesGrow s s.evaluate := by
  have risen : NoticesGrow s.leveled s.leveled.rise := by
    unfold rise
    dsimp only
    split
    · exact noticesGrow_changeLevel _ _
    · exact NoticesGrow.of_ports rfl
  rw [evaluate_eq]
  exact ((NoticesGrow.of_ports rfl : NoticesGrow s s.leveled).trans risen).trans (NoticesGrow.of_ports rfl)

theorem noticesGrow_setAvailability : NoticesGrow s (s.setAvailability g a) := by
  by_cases same : (s.gauge g).avail = a
  · rw [setAvailability_of_same same]
    exact NoticesGrow.of_ports rfl
  · rw [setAvailability_of_ne same]
    exact (NoticesGrow.of_ports rfl : NoticesGrow s (s.modGauge g _)).trans noticesGrow_evaluate

end State

end Sys2Proof.Machine
end

section
/-! SUPPORT. The edges and the settling of a channel, by its kind (R7 to R12, R16, R17). -/

namespace Sys2Proof.Machine

/-! ### The period of a LEVEL channel (R12) -/

section Period

variable {k : Channel} {at_ start fall : Nat} {q : Period}

/-- A channel with the period that begins at an instant. -/
def Channel.beginning (k : Channel) (at_ : Nat) : Channel :=
  { k with level := { k.level with period := some { start := at_, fall := none } } }

theorem levelRise_of_closed (period : k.level.period = some { start := start, fall := some fall }) (within : at_ - start < 65535) :
    k.levelRise at_ = Channel.beginning { k with level := { k.level with
      sumActive := k.level.sumActive + (fall - start), sumPeriod := k.level.sumPeriod + (at_ - start) } } at_ := by
  simp [Channel.levelRise, period, periodLimit, within, Channel.beginning]

theorem levelRise_of_long (period : k.level.period = some { start := start, fall := some fall }) (long : 65535 ≤ at_ - start) :
    k.levelRise at_ = Channel.beginning { k with status := if k.status = .ok then .saturated else k.status } at_ := by
  simp [Channel.levelRise, period, periodLimit, Nat.not_lt.mpr long, Channel.beginning, Channel.saturate]

theorem levelRise_of_open (open_ : ∀ start fall, k.level.period ≠ some { start := start, fall := some fall }) :
    k.levelRise at_ = Channel.beginning k at_ := by
  unfold Channel.levelRise
  split
  · rename_i start fall period
    exact absurd period (open_ start fall)
  · rfl

theorem levelFall_of_within (period : k.level.period = some q) (within : at_ - q.start < 65535) :
    k.levelFall at_ = { k with level := { k.level with period := some { q with fall := some at_ } } } := by
  simp [Channel.levelFall, period, periodLimit, within]

theorem levelFall_of_long (period : k.level.period = some q) (long : 65535 ≤ at_ - q.start) :
    k.levelFall at_ = { k with
      status := if k.status = .ok then .saturated else k.status, level := { k.level with period := none } } := by
  simp [Channel.levelFall, period, periodLimit, Nat.not_lt.mpr long, Channel.saturate]

theorem levelFall_of_none (none_ : k.level.period = none) : k.levelFall at_ = k := by
  simp [Channel.levelFall, none_]

/-- A change of level moves the status and the running values of a channel alone. -/
theorem levelRise_frame : k.levelRise at_ = { k with status := (k.levelRise at_).status, level := (k.levelRise at_).level } := by
  unfold Channel.levelRise Channel.saturate
  dsimp only
  split
  · split <;> rfl
  · rfl

theorem levelFall_frame : k.levelFall at_ = { k with status := (k.levelFall at_).status, level := (k.levelFall at_).level } := by
  unfold Channel.levelFall Channel.saturate
  split
  · split <;> rfl
  · rfl

end Period

namespace State

variable {s : State} {c d : Fin 16} {g : Fin 4} {t : Fin 8} {at_ : Nat} {active : Bool}

theorem modChannel_congr {f h : Channel → Channel} (same : f (s.channel c) = h (s.channel c)) :
    s.modChannel c f = s.modChannel c h := by
  simp only [modChannel, same]

theorem channel_modChannel_self (f : Channel → Channel) : (s.modChannel c f).channel c = f (s.channel c) := by
  rw [channel_modChannel, if_pos rfl]

theorem channel_modChannel_ne (ne : d ≠ c) (f : Channel → Channel) : (s.modChannel c f).channel d = s.channel d := by
  rw [channel_modChannel, if_neg ne]

theorem onlyChanges_modChannel (f : Channel → Channel) : onlyChanges [.channels] s (s.modChannel c f) := by
  intro area other
  cases area <;> first | rfl | exact absurd (by simp) other

/-! ### The rain watch hears of a channel (R10, R11, R42, R43) -/

theorem tipRing_eq (l : List Nat) : tipRing l = l.modifyHead (fun n => min (n + 1) 65535) := by
  cases l <;> rfl

theorem rejectTip_eq : s.rejectTip g = s.modGauge g (fun q => { q with rejected := min (q.rejected + 1) 65535 }) := rfl

theorem tip_eq : s.tip g = (s.modGauge g (fun q =>
    { q with five := q.five.modifyHead (fun n => min (n + 1) 65535)
             hourly := q.hourly.modifyHead (fun n => min (n + 1) 65535), totalTips := q.totalTips + 1#32 })).evaluate := by
  unfold tip
  simp only [tipRing_eq]

theorem rainReleased_of_gauge (binder : (s.channel c).binder = .gauge g) :
    s.rainReleased c = (s.faultChange c false .released).setAvailability g .available := by
  unfold rainReleased
  simp only [binder]

theorem becomeStuck_of_gauge (binder : (s.channel c).binder = .gauge g) :
    s.becomeStuck c = ((s.stopStuck c).faultChange c true .stuck).setAvailability g .fault := by
  unfold becomeStuck
  simp only [binder]

theorem channels_setAvailability (a : Availability) : (s.setAvailability g a).channels = s.channels := by simp

theorem channel_rainReleased (binder : (s.channel c).binder = .gauge g) (d : Fin 16) :
    (s.rainReleased c).channel d = if d = c then { s.channel c with status := .ok } else s.channel d := by
  rw [rainReleased_of_gauge binder, channel_congr (channels_setAvailability _), channel_faultChange]
  rfl

theorem avail_rainReleased (binder : (s.channel c).binder = .gauge g) : ((s.rainReleased c).gauge g).avail = .available := by
  rw [rainReleased_of_gauge binder]
  exact avail_setAvailability

theorem told_rainReleased (binder : (s.channel c).binder = .gauge g) :
    ((s.rainReleased c).port .record).notices &&& noticeWord .channel ≠ 0#16 := by
  rw [rainReleased_of_gauge binder]
  exact noticesGrow_setAvailability _ _ told_faultChange_record

/-! ### An accepted edge by the channel's binder (R8) -/

/-- The channel's debounced state turned over. -/
def edged (s : State) (c : Fin 16) : State := s.modChannel c (fun k => { k with active := !k.active, since := none })

theorem acceptEdge_eq : s.acceptEdge c =
    (s.edged c).actOnEdge c ((s.channel c).since.getD s.clock) (!(s.channel c).active) := rfl

theorem binder_edged : ((s.edged c).channel c).binder = (s.channel c).binder := by
  rw [edged, channel_modChannel_self]

theorem actOnEdge_of_gauge (binder : (s.channel c).binder = .gauge g) :
    s.actOnEdge c at_ active = if active then s.rainRise c g else s.rainFall c := by
  unfold actOnEdge
  simp only [binder]

theorem actOnEdge_of_level (binder : (s.channel c).binder = .tank t .level) :
    s.actOnEdge c at_ active = s.modChannel c (fun k => if active then k.levelRise at_ else k.levelFall at_) := by
  unfold actOnEdge
  simp only [binder]

theorem actOnEdge_of_spill (binder : (s.channel c).binder = .tank t .spill) : s.actOnEdge c at_ active = s.spillEdge t active := by
  unfold actOnEdge
  simp only [binder]

theorem actOnEdge_of_flow (binder : (s.channel c).binder = .legMeter ∨ ∃ t, (s.channel c).binder = .tank t .draw) :
    s.actOnEdge c at_ active =
      if active then s.modChannel c (fun k => { k with flow := { k.flow with pulses := min 65535 (k.flow.pulses + 1) } })
      else s := by
  unfold actOnEdge
  rcases binder with binder | ⟨t, binder⟩ <;> simp only [binder]

theorem acceptEdge_of_flow (binder : (s.channel c).binder = .legMeter ∨ ∃ t, (s.channel c).binder = .tank t .draw) :
    s.acceptEdge c = s.modChannel c (fun k => { k with
      active := !k.active, since := none
      flow := { k.flow with pulses := if k.active then k.flow.pulses else min 65535 (k.flow.pulses + 1) } }) := by
  rw [acceptEdge_eq, actOnEdge_of_flow (by rw [binder_edged]; exact binder)]
  unfold edged
  cases active : (s.channel c).active
  · rw [Bool.not_false, if_pos rfl, modChannel_modChannel]
    exact modChannel_congr (by simp [active])
  · rw [Bool.not_true, if_neg Bool.false_ne_true]
    exact modChannel_congr (by rw [active]; rfl)

theorem acceptEdge_of_level (binder : (s.channel c).binder = .tank t .level) : s.acceptEdge c =
    s.modChannel c (fun k =>
      if k.active then ({ k with active := false, since := none } : Channel).levelFall ((s.channel c).since.getD s.clock)
      else ({ k with active := true, since := none } : Channel).levelRise ((s.channel c).since.getD s.clock)) := by
  rw [acceptEdge_eq, actOnEdge_of_level (by rw [binder_edged, binder]), edged, modChannel_modChannel]
  refine modChannel_congr ?_
  cases active : (s.channel c).active <;> rfl

theorem acceptEdge_of_spill (binder : (s.channel c).binder = .tank t .spill) :
    s.acceptEdge c = (s.edged c).spillEdge t (!(s.channel c).active) := by
  rw [acceptEdge_eq, actOnEdge_of_spill (by rw [binder_edged, binder])]

/-- A rain channel at its active edge, its stuck timing begun where it is not in FAULT. -/
def rainRisen (s : State) (c : Fin 16) : State :=
  s.modChannel c (fun k => { k with
    active := true, since := none
    rain := { k.rain with stuckFrom := if (s.channel c).status = .fault then none else some s.partTime } })

theorem acceptEdge_of_rise (binder : (s.channel c).binder = .gauge g) (low : (s.channel c).active = false) : s.acceptEdge c =
    if (s.rainRisen c).locked c then (s.rainRisen c).rejectTip g
    else ((s.rainRisen c).modChannel c (fun k => { k with rain := { k.rain with lastTip := some s.clock } })).tip g := by
  have risen : (s.edged c).modChannel c (fun k => { k with rain := { k.rain with
      stuckFrom := if ((s.edged c).channel c).status = .fault then none else some (s.edged c).partTime } }) = s.rainRisen c := by
    have status : ((s.edged c).channel c).status = (s.channel c).status := by rw [edged, channel_modChannel_self]
    rw [status, edged, modChannel_modChannel]
    exact modChannel_congr (by simp [low]; rfl)
  rw [acceptEdge_eq, actOnEdge_of_gauge (by rw [binder_edged, binder]), low, Bool.not_false, if_pos rfl, rainRise, risen]
  rfl

/-- A rain channel at its inactive edge, its stuck timing stopped. -/
def rainFallen (s : State) (c : Fin 16) : State :=
  s.modChannel c (fun k => { k with active := false, since := none, rain := { k.rain with stuckFrom := none } })

theorem acceptEdge_of_fall (binder : (s.channel c).binder = .gauge g) (high : (s.channel c).active = true) : s.acceptEdge c =
    if (s.channel c).status = .fault then (s.rainFallen c).rainReleased c else s.rainFallen c := by
  have fallen : (s.edged c).stopStuck c = s.rainFallen c := by
    rw [stopStuck, edged, modChannel_modChannel]
    exact modChannel_congr (by simp [high])
  have status : ((s.rainFallen c).channel c).status = (s.channel c).status := by rw [rainFallen, channel_modChannel_self]
  rw [acceptEdge_eq, actOnEdge_of_gauge (by rw [binder_edged, binder]), high, Bool.not_true, if_neg Bool.false_ne_true, rainFall,
    fallen, status]

theorem locked_rainRisen : (s.rainRisen c).locked c = s.locked c := by
  unfold locked rainRisen
  rw [channel_modChannel_self]
  rfl

theorem locked_iff : s.locked c = true ↔
    ∃ x, (s.channel c).rain.lastTip = some x ∧ s.clock < x + 1000 * (s.channel c).lockout := by
  unfold locked
  cases (s.channel c).rain.lastTip <;> simp

end State

end Sys2Proof.Machine
end

section
/-! SUPPORT. The end of a settling, a stuck rain channel, and the events that take them (R7, R8, R11, R17). -/

namespace Sys2Proof.Machine

namespace State

variable {s : State} {c d : Fin 16} {g : Fin 4} {t : Fin 8}

/-! ### The end of a settling (R7) -/

/-- The debounced state that a settling takes from the line. -/
def lineActive (s : State) (c : Fin 16) : Bool := s.lines.get c != (s.channel c).activeLow

/-- The channel settled to its line. -/
def settledTo (s : State) (c : Fin 16) : State :=
  s.modChannel c (fun k => { k with active := s.lines.get c != k.activeLow, settled := true, since := none })

theorem settleChannel_eq : s.settleChannel c =
    match ((s.settledTo c).channel c).binder with
    | .gauge _ =>
      if ((s.settledTo c).channel c).status = .fault then
        (if s.lineActive c then s.settledTo c else (s.settledTo c).rainReleased c)
      else (s.settledTo c).modChannel c (fun k => { k with rain := { k.rain with
        stuckFrom := if s.lineActive c then some s.partTime else none } })
    | .tank t .spill =>
      if s.lineActive c = (s.channel c).active then s.settledTo c else (s.settledTo c).spillEdge t (s.lineActive c)
    | _ => s.settledTo c := by
  have same : s.modChannel c (fun k =>
      { k with active := (s.channel c).levelActive (s.lines.get c), settled := true, since := none }) = s.settledTo c :=
    modChannel_congr rfl
  unfold settleChannel
  dsimp only
  rw [same]
  rfl

theorem channel_settledTo : (s.settledTo c).channel c =
    { s.channel c with active := s.lines.get c != (s.channel c).activeLow, settled := true, since := none } :=
  channel_modChannel_self _

theorem settleChannel_of_gauge_fault (binder : (s.channel c).binder = .gauge g) (fault : (s.channel c).status = .fault) :
    s.settleChannel c = if s.lineActive c then s.settledTo c else (s.settledTo c).rainReleased c := by
  simp only [settleChannel_eq, channel_settledTo, binder, fault, if_true]

theorem settleChannel_of_gauge_sound (binder : (s.channel c).binder = .gauge g) (sound : (s.channel c).status ≠ .fault) :
    s.settleChannel c = s.modChannel c (fun k => { k with
      active := s.lines.get c != (s.channel c).activeLow, settled := true, since := none
      rain := { (s.channel c).rain with
        stuckFrom := if s.lines.get c != (s.channel c).activeLow then some s.partTime else none } }) := by
  simp only [settleChannel_eq, channel_settledTo, binder, if_neg sound]
  rw [settledTo, modChannel_modChannel]
  exact modChannel_congr rfl

theorem settleChannel_of_spill (binder : (s.channel c).binder = .tank t .spill) : s.settleChannel c =
    if s.lineActive c = (s.channel c).active then s.settledTo c else (s.settledTo c).spillEdge t (s.lineActive c) := by
  simp only [settleChannel_eq, channel_settledTo, binder]

theorem settleChannel_of_other (binder : (s.channel c).binder = .legMeter
    ∨ ∃ t, (s.channel c).binder = .tank t .draw ∨ (s.channel c).binder = .tank t .level) :
    s.settleChannel c = s.settledTo c := by
  rcases binder with binder | ⟨t, binder | binder⟩ <;> simp only [settleChannel_eq, channel_settledTo, binder]

/-! ### What the two events leave of the channels -/

theorem channels_spillEdge (active : Bool) : (s.spillEdge t active).channels = s.channels := by simp

theorem channels_tip : (s.tip g).channels = s.channels := by simp

theorem channel_acceptEdge_of_rise (binder : (s.channel c).binder = .gauge g) (low : (s.channel c).active = false) : ∃ r,
    ∀ d, (s.acceptEdge c).channel d =
      if d = c then { s.channel c with active := true, since := none, rain := r } else s.channel d := by
  rw [acceptEdge_of_rise binder low]
  by_cases locked : (s.rainRisen c).locked c = true
  · refine ⟨((s.rainRisen c).channel c).rain, fun d => ?_⟩
    rw [if_pos locked]
    have channels : ((s.rainRisen c).rejectTip g).channels = (s.rainRisen c).channels := rfl
    rw [channel_congr channels, rainRisen, channel_modChannel_self]
    exact channel_modChannel s c d _
  · refine ⟨{ lastTip := some s.clock, stuckFrom := if (s.channel c).status = .fault then none else some s.partTime },
      fun d => ?_⟩
    rw [if_neg locked, channel_congr channels_tip, rainRisen, modChannel_modChannel]
    exact channel_modChannel s c d _

theorem channel_acceptEdge_of_fall (binder : (s.channel c).binder = .gauge g) (high : (s.channel c).active = true)
    (d : Fin 16) : (s.acceptEdge c).channel d =
      if d = c then { s.channel c with
        active := false, since := none, rain := { (s.channel c).rain with stuckFrom := none }
        status := if (s.channel c).status = .fault then .ok else (s.channel c).status }
      else s.channel d := by
  have fallen (x : Fin 16) : (s.rainFallen c).channel x = if x = c then { s.channel c with
      active := false, since := none, rain := { (s.channel c).rain with stuckFrom := none } } else s.channel x :=
    channel_modChannel s c x _
  have binder' : ((s.rainFallen c).channel c).binder = .gauge g := by
    rw [fallen, if_pos rfl]
    exact binder
  rw [acceptEdge_of_fall binder high]
  by_cases fault : (s.channel c).status = .fault
  · rw [if_pos fault, channel_rainReleased binder']
    simp only [fallen, if_true, if_pos fault]
    split <;> rfl
  · rw [if_neg fault, fallen]
    simp only [if_neg fault]

theorem channel_acceptEdge_of_spill (binder : (s.channel c).binder = .tank t .spill) (d : Fin 16) :
    (s.acceptEdge c).channel d =
      if d = c then { s.channel c with active := !(s.channel c).active, since := none } else s.channel d := by
  rw [acceptEdge_of_spill binder, channel_congr (channels_spillEdge _)]
  exact channel_modChannel s c d _

/-- An accepted edge writes the debounced state and the running values of its channel. -/
theorem channel_acceptEdge (bound : (s.channel c).binder ≠ .none) : ∃ status rain level flow, ∀ d,
    (s.acceptEdge c).channel d =
      if d = c then { s.channel c with
        active := !(s.channel c).active, since := none, status := status, rain := rain, level := level, flow := flow }
      else s.channel d := by
  cases binder : (s.channel c).binder with
  | none => exact absurd binder bound
  | legMeter =>
    exact ⟨_, _, _, _, fun d => by rw [acceptEdge_of_flow (.inl binder)]; exact channel_modChannel s c d _⟩
  | gauge g =>
    cases active : (s.channel c).active with
    | false =>
      obtain ⟨r, channel⟩ := channel_acceptEdge_of_rise binder active
      exact ⟨_, r, _, _, channel⟩
    | true => exact ⟨_, _, _, _, channel_acceptEdge_of_fall binder active⟩
  | tank t r =>
    cases r with
    | draw => exact ⟨_, _, _, _, fun d => by rw [acceptEdge_of_flow (.inr ⟨t, binder⟩)]; exact channel_modChannel s c d _⟩
    | spill => exact ⟨_, _, _, _, channel_acceptEdge_of_spill binder⟩
    | level =>
      have here : (s.acceptEdge c).channel c = { s.channel c with
          active := !(s.channel c).active, since := none, status := ((s.acceptEdge c).channel c).status
          level := ((s.acceptEdge c).channel c).level } := by
        rw [acceptEdge_of_level binder, channel_modChannel_self]
        cases active : (s.channel c).active with
        | false => exact levelRise_frame
        | true => exact levelFall_frame
      refine ⟨((s.acceptEdge c).channel c).status, (s.channel c).rain, ((s.acceptEdge c).channel c).level, (s.channel c).flow,
        fun d => ?_⟩
      by_cases e : d = c
      · rw [e, if_pos rfl]
        exact here
      · rw [if_neg e, acceptEdge_of_level binder, channel_modChannel_ne e]

/-- The end of a settling writes the debounced state, the status and the rain figures of its channel. -/
theorem channel_settleChannel (bound : (s.channel c).binder ≠ .none) : ∃ status rain, ∀ d,
    (s.settleChannel c).channel d =
      if d = c then { s.channel c with
        active := s.lines.get c != (s.channel c).activeLow, settled := true, since := none, status := status, rain := rain }
      else s.channel d := by
  have settled (d : Fin 16) : (s.settledTo c).channel d = if d = c then { s.channel c with
      active := s.lines.get c != (s.channel c).activeLow, settled := true, since := none } else s.channel d :=
    channel_modChannel s c d _
  have other (binder : (s.channel c).binder = .legMeter
      ∨ ∃ t, (s.channel c).binder = .tank t .draw ∨ (s.channel c).binder = .tank t .level) : ∃ status rain, ∀ d,
      (s.settleChannel c).channel d = if d = c then { s.channel c with
        active := s.lines.get c != (s.channel c).activeLow, settled := true, since := none, status := status, rain := rain }
      else s.channel d := by
    rw [settleChannel_of_other binder]
    exact ⟨(s.channel c).status, (s.channel c).rain, settled⟩
  cases binder : (s.channel c).binder with
  | none => exact absurd binder bound
  | legMeter => exact other (.inl binder)
  | gauge g =>
    by_cases fault : (s.channel c).status = .fault
    · rw [settleChannel_of_gauge_fault binder fault]
      by_cases active : s.lineActive c = true
      · rw [if_pos active]
        exact ⟨(s.channel c).status, (s.channel c).rain, settled⟩
      · have binder' : ((s.settledTo c).channel c).binder = .gauge g := by
          rw [channel_settledTo]
          exact binder
        refine ⟨.ok, (s.channel c).rain, fun d => ?_⟩
        rw [if_neg active, channel_rainReleased binder']
        simp only [settled, if_true]
        split <;> rfl
    · rw [settleChannel_of_gauge_sound binder fault]
      exact ⟨(s.channel c).status, _, fun d => channel_modChannel s c d _⟩
  | tank t r =>
    cases r with
    | draw => exact other (.inr ⟨t, .inl binder⟩)
    | level => exact other (.inr ⟨t, .inr binder⟩)
    | spill =>
      rw [settleChannel_of_spill binder]
      refine ⟨(s.channel c).status, (s.channel c).rain, fun d => ?_⟩
      split
      · exact settled d
      · exact (channel_congr (channels_spillEdge _) d).trans (settled d)

theorem onlyChanges_acceptEdge :
    onlyChanges [.channels, .tanks, .rain, .spill, .store, .notices, .trigger] s (s.acceptEdge c) := by
  intro area other
  cases area <;> simp [unchanged] at other ⊢

theorem onlyChanges_settleChannel :
    onlyChanges [.channels, .tanks, .rain, .spill, .store, .notices, .trigger] s (s.settleChannel c) := by
  intro area other
  cases area <;> simp [unchanged] at other ⊢

theorem onlyChanges_becomeStuck : onlyChanges [.channels, .tanks, .rain, .store, .notices, .trigger] s (s.becomeStuck c) := by
  intro area other
  cases area <;> simp [unchanged] at other ⊢

/-! ### A rain channel that is stuck (R11) -/

theorem channel_becomeStuck (binder : (s.channel c).binder = .gauge g) (d : Fin 16) : (s.becomeStuck c).channel d =
    if d = c then { s.channel c with status := .fault, rain := { (s.channel c).rain with stuckFrom := none } }
    else s.channel d := by
  rw [becomeStuck_of_gauge binder, channel_congr (channels_setAvailability _), channel_faultChange, stopStuck]
  simp only [channel_modChannel, if_true]
  split <;> rfl

theorem avail_becomeStuck (binder : (s.channel c).binder = .gauge g) : ((s.becomeStuck c).gauge g).avail = .fault := by
  rw [becomeStuck_of_gauge binder]
  exact avail_setAvailability

end State

end Sys2Proof.Machine
end

section
/-! SUPPORT. The line events of a bound channel (R7, R8, R11). -/

namespace Sys2Proof.Machine

section LineEvents

variable {s : State} {c : Fin 16} {since : Nat}

theorem exec_debounceAccept (o : Open s) (bound : (s.channel c).binder ≠ .none) (candidate : (s.channel c).since = some since)
    (held : since + 1000 * (s.channel c).debounce ≤ s.clock) (settled : (s.channel c).settled = true) :
    exec (.debounceAccept c) s = ended (s.acceptEdge c) :=
  exec_event_due (i := .debounceAccept c) o rfl (by simp [debounceDue, Channel.heldLong, bound, candidate, held, settled])

theorem exec_channelSettle (o : Open s) (bound : (s.channel c).binder ≠ .none) (candidate : (s.channel c).since = some since)
    (held : since + 1000 * (s.channel c).debounce ≤ s.clock) (unsettled : (s.channel c).settled = false) :
    exec (.channelSettle c) s = ended (s.settleChannel c) :=
  exec_event_due (i := .channelSettle c) o rfl (by simp [settleDue, Channel.heldLong, bound, candidate, held, unsettled])

theorem exec_rainStuck (o : Open s) (kind : (s.channel c).kind = .rain) (sound : (s.channel c).status ≠ .fault)
    (from_ : (s.channel c).rain.stuckFrom = some since) (due : since + 10 ≤ s.partTime) :
    exec (.rainStuck c) s = ended (s.becomeStuck c) :=
  exec_event_due (i := .rainStuck c) o rfl (by simp [stuckDue, State.reached, kind, sound, from_, due])

end LineEvents

namespace State

variable {s : State} {c : Fin 16} {g : Fin 4} {t : Fin 8} {since start fall : Nat}

/-! ### The edges of a gauge's channel (R10, R11, R43) -/

theorem acceptEdge_of_locked (binder : (s.channel c).binder = .gauge g) (low : (s.channel c).active = false)
    (locked : ∃ x, (s.channel c).rain.lastTip = some x ∧ s.clock < x + 1000 * (s.channel c).lockout) :
    s.acceptEdge c = (s.modChannel c (fun k => { k with
      active := true, since := none
      rain := { k.rain with stuckFrom := if (s.channel c).status = .fault then none else some s.partTime } })).modGauge g
        (fun q => { q with rejected := min (q.rejected + 1) 65535 }) := by
  rw [acceptEdge_of_rise binder low, if_pos (locked_rainRisen.trans (locked_iff.mpr locked))]
  rfl

theorem evaluated_acceptEdge (binder : (s.channel c).binder = .gauge g) (low : (s.channel c).active = false)
    (free : ∀ x, (s.channel c).rain.lastTip = some x → x + 1000 * (s.channel c).lockout ≤ s.clock) :
    evaluated ((s.modChannel c (fun k => { k with
      active := true, since := none
      rain := { lastTip := some s.clock
                stuckFrom := if (s.channel c).status = .fault then none else some s.partTime } })).modGauge g (fun q =>
        { q with five := q.five.modifyHead (fun n => min (n + 1) 65535)
                 hourly := q.hourly.modifyHead (fun n => min (n + 1) 65535), totalTips := q.totalTips + 1#32 }))
      (s.acceptEdge c) := by
  have open_ : ¬ (s.rainRisen c).locked c = true := by
    rw [locked_rainRisen, locked_iff]
    rintro ⟨x, tip, lt⟩
    exact Nat.not_lt.mpr (free x tip) lt
  rw [acceptEdge_of_rise binder low, if_neg open_, tip_eq, rainRisen, modChannel_modChannel]
  exact evaluated_evaluate _

theorem acceptEdge_of_recovering (binder : (s.channel c).binder = .gauge g) (high : (s.channel c).active = true)
    (fault : (s.channel c).status = .fault) :
    ((s.acceptEdge c).gauge g).avail = .available
      ∧ ((s.acceptEdge c).port .record).notices &&& noticeWord .channel ≠ 0#16 := by
  have binder' : ((s.rainFallen c).channel c).binder = .gauge g := by
    rw [rainFallen, channel_modChannel_self]
    exact binder
  rw [acceptEdge_of_fall binder high, if_pos fault]
  exact ⟨avail_rainReleased binder', told_rainReleased binder'⟩

theorem onlyChanges_acceptEdge_of_fall (binder : (s.channel c).binder = .gauge g) (high : (s.channel c).active = true)
    (sound : (s.channel c).status ≠ .fault) : onlyChanges [.channels] s (s.acceptEdge c) := by
  rw [acceptEdge_of_fall binder high, if_neg sound]
  exact onlyChanges_modChannel _

/-! ### The edges of a LEVEL channel (R12) -/

theorem onlyChanges_acceptEdge_of_level (binder : (s.channel c).binder = .tank t .level) :
    onlyChanges [.channels] s (s.acceptEdge c) := by
  rw [acceptEdge_of_level binder]
  exact onlyChanges_modChannel _

theorem channel_acceptEdge_of_levelRise (binder : (s.channel c).binder = .tank t .level) (low : (s.channel c).active = false)
    (candidate : (s.channel c).since = some since) : (s.acceptEdge c).channel c =
      ({ s.channel c with active := true, since := none } : Channel).levelRise since := by
  rw [acceptEdge_of_level binder, channel_modChannel_self, low, if_neg Bool.false_ne_true, candidate]
  rfl

theorem channel_acceptEdge_of_levelFall (binder : (s.channel c).binder = .tank t .level) (high : (s.channel c).active = true)
    (candidate : (s.channel c).since = some since) : (s.acceptEdge c).channel c =
      ({ s.channel c with active := false, since := none } : Channel).levelFall since := by
  rw [acceptEdge_of_level binder, channel_modChannel_self, high, if_pos rfl, candidate]
  rfl

/-! ### The settling of a gauge's channel (R11) -/

theorem settleChannel_of_recovering (binder : (s.channel c).binder = .gauge g) (fault : (s.channel c).status = .fault)
    (low : (s.lines.get c != (s.channel c).activeLow) = false) :
    ((s.settleChannel c).channel c).status = .ok ∧ ((s.settleChannel c).channel c).rain = (s.channel c).rain
      ∧ ((s.settleChannel c).gauge g).avail = .available
      ∧ ((s.settleChannel c).port .record).notices &&& noticeWord .channel ≠ 0#16 := by
  have binder' : ((s.settledTo c).channel c).binder = .gauge g := by
    rw [channel_settledTo]
    exact binder
  have inactive : ¬ s.lineActive c = true := Bool.eq_false_iff.mp low
  rw [settleChannel_of_gauge_fault binder fault, if_neg inactive, channel_rainReleased binder', if_pos rfl]
  refine ⟨rfl, ?_, avail_rainReleased binder', told_rainReleased binder'⟩
  rw [channel_settledTo]

end State

open State

/-- Settles O46: an accepted edge, the end of a settling and the stuck timing, each by the binder of its channel. -/
theorem debounceSettleAndStuck : Obligations.DebounceSettleAndStuck := by
  intro c s since o bound
  refine ⟨fun candidate held => ⟨fun settled => ?_, fun unsettled => ?_⟩, ?_⟩
  · obtain ⟨status, rain, level, flow, channel⟩ := channel_acceptEdge bound
    refine ⟨s.acceptEdge c, exec_debounceAccept o bound candidate held settled, ?_, ?_, onlyChanges_acceptEdge,
      acceptEdge_of_flow, ?_, ?_, ?_, ?_⟩
    · rw [channel, if_pos rfl]
    · intro d ne
      rw [channel, if_neg ne]
    · intro g binder low stuck
      exact ⟨acceptEdge_of_locked binder low, evaluated_acceptEdge binder low⟩
    · intro g binder high
      refine ⟨?_, acceptEdge_of_recovering binder high, onlyChanges_acceptEdge_of_fall binder high⟩
      rw [channel_acceptEdge_of_fall binder high, if_pos rfl]
    · intro k binder
      refine ⟨onlyChanges_acceptEdge_of_level binder, fun low => ?_, fun high => ?_⟩
      · rw [channel_acceptEdge_of_levelRise binder low candidate]
        refine ⟨?_, ?_, ?_⟩
        · intro start fall period within
          exact levelRise_of_closed period within
        · intro start fall period long
          exact levelRise_of_long period long
        · intro open_
          exact levelRise_of_open open_
      · rw [channel_acceptEdge_of_levelFall binder high candidate]
        refine ⟨?_, ?_, ?_⟩
        · intro q period within
          exact levelFall_of_within period within
        · intro q period long
          exact levelFall_of_long period long
        · intro none_
          exact levelFall_of_none none_
    · intro k binder
      rw [acceptEdge_of_spill binder]
      exact switched_spillEdge _ _ _
  · obtain ⟨status, rain, channel⟩ := channel_settleChannel bound
    refine ⟨s.settleChannel c, exec_channelSettle o bound candidate held unsettled, ?_, ?_, onlyChanges_settleChannel, ?_, ?_, ?_⟩
    · rw [channel, if_pos rfl]
    · intro d ne
      rw [channel, if_neg ne]
    · intro binder
      rw [settleChannel_of_other binder, channel_settledTo]
      exact ⟨onlyChanges_modChannel _, rfl, rfl⟩
    · intro g binder active settled
      refine ⟨settleChannel_of_gauge_sound binder, fun fault high => ?_, settleChannel_of_recovering binder⟩
      have lineHigh : s.lineActive c = true := high
      rw [settleChannel_of_gauge_fault binder fault, if_pos lineHigh]
      exact modChannel_congr rfl
    · intro k binder settled
      refine ⟨fun same => ?_, fun moves => ?_⟩
      · rw [settleChannel_of_spill binder]
        exact if_pos same
      · have eq : s.settleChannel c = (s.settledTo c).spillEdge k (s.lineActive c) :=
          (settleChannel_of_spill binder).trans (if_neg moves)
        rw [eq]
        exact switched_spillEdge _ _ _
  · intro g kind binder sound from_ due
    refine ⟨s.becomeStuck c, exec_rainStuck o kind sound from_ due, ?_, avail_becomeStuck binder, ?_, onlyChanges_becomeStuck⟩
    · rw [channel_becomeStuck binder, if_pos rfl]
    · intro d ne
      rw [channel_becomeStuck binder, if_neg ne]

end Sys2Proof.Machine
end

section
/-! SUPPORT. One evaluation of a tank: phase, band, weight, capture cycle and drain list (R28 to R39, R83, R86, R95). -/

namespace Sys2Proof.Machine

/-! ### The tank that an evaluation makes -/

/-- A tank whose capture cycle is open, opened now where none was (R35). -/
def Tank.capturing (k : Tank) (late : Bool) (fill now : Nat) : Tank :=
  { k with
    counter := if k.openCycle = none then k.counter + 1#16 else k.counter
    openCycle := some (k.openCycle.getD
      { number := k.counter + 1#16, start := now, lateStart := late, peakFill := fill, peakTime := now,
        toFull := none, spillRef := none, mode := none, litres := 0, admission := none, returned := none, endTime := none,
        endReason := none }) }

/-- A tank whose capture cycle has closed (R38). -/
def Tank.closing (k : Tank) (reason : EndReason) (now : Nat) : Tank :=
  { k with openCycle := none, lastCycle := lastClosed k reason now }

/-- A tank whose open cycle has seen FULL (R36). -/
def Tank.filling (k : Tank) (now : Nat) : Tank := { k with openCycle := k.openCycle.map (fun c => cycleFilled c now) }

/-- A tank after the phase transitions of one evaluation (R28, R29). -/
def phasedTank (k : Tank) (fill now : Nat) : Tank :=
  let p := nextPhase k.set k.phase fill
  if p = k.phase then k
  else if p = .dry then { k.closing .drained now with phase := .dry }
  else
    let c := if k.phase = .dry ∨ k.phase = .unknown then k.capturing (decide (k.phase = .unknown)) fill now else k
    { (if p = .full then c.filling now else c) with phase := p }

theorem evaluatedTank_of_offline {alert : AlertLevel} {k : Tank} {fill now : Nat} (offline : k.phase = .offline) :
    evaluatedTank alert k fill now = k := by
  simp [evaluatedTank, offline]

theorem evaluatedTank_of_online {alert : AlertLevel} {k : Tank} {fill now : Nat} (online : k.phase ≠ .offline) :
    evaluatedTank alert k fill now =
      weighed alert { phasedTank k fill now with rawBand := nextBand k.phase k.rawBand fill } := by
  unfold evaluatedTank phasedTank
  dsimp only
  rw [if_neg online]
  by_cases stays : nextPhase k.set k.phase fill = k.phase
  · rw [if_pos stays, if_pos stays, stays]
  rw [if_neg stays, if_neg stays]
  by_cases dry : nextPhase k.set k.phase fill = .dry
  · rw [if_pos dry, if_pos dry, dry]
    rfl
  rw [if_neg dry, if_neg dry]
  by_cases opens : k.phase = .dry ∨ k.phase = .unknown
  · by_cases full : nextPhase k.set k.phase fill = .full
    · simp only [if_pos full, opens, true_and]
      rfl
    · simp only [if_neg full, opens, true_and]
      rfl
  · by_cases full : nextPhase k.set k.phase fill = .full
    · simp only [if_pos full, opens, false_and]
      rfl
    · simp only [if_neg full, opens, false_and]
      rfl

/-! ### A state with one tank replaced -/

/-- A state that differs from another in one tank and in what records write. -/
structure Retanked (s v : State) (t : Fin 8) (k : Tank) : Prop where
  tank : v.tank t = k
  others : ∀ x, x ≠ t → v.tank x = s.tank x
  drains : v.drains = s.drains
  trigger : v.trigger = s.trigger
  rain : v.rain = s.rain
  outer : v.outer = s.outer

namespace Retanked

variable {s v w : State} {t : Fin 8} {k k' : Tank}

theorem refl (s : State) (t : Fin 8) : Retanked s s t (s.tank t) := ⟨rfl, fun _ _ => rfl, rfl, rfl, rfl, rfl⟩

theorem partTime (r : Retanked s v t k) : v.partTime = s.partTime := by
  obtain ⟨-, clock, -⟩ := State.outer_eq_iff.mp r.outer
  simp only [State.partTime, clock]

theorem step (r : Retanked s v t k) (tank : w.tank t = k') (others : ∀ x, x ≠ t → w.tank x = v.tank x)
    (drains : w.drains = v.drains) (trigger : w.trigger = v.trigger) (rain : w.rain = v.rain) (outer : w.outer = v.outer) :
    Retanked s w t k' :=
  ⟨tank, fun x ne => (others x ne).trans (r.others x ne), drains.trans r.drains, trigger.trans r.trigger,
    rain.trans r.rain, outer.trans r.outer⟩

theorem modTank (r : Retanked s v t k) (f : Tank → Tank) : Retanked s (v.modTank t f) t (f k) :=
  r.step (by rw [State.tank_modTank, if_pos rfl, r.tank]) (fun x ne => by rw [State.tank_modTank, if_neg ne]) rfl rfl rfl rfl

theorem listed_iff (r : Retanked s v t k) : v.listed t = true ↔ t ∈ s.drainList :=
  (Iff.of_eq (congrArg (· = true) (State.listed_congr r.drains t))).trans State.listed_iff

end Retanked

namespace State

variable {s : State} {t x : Fin 8} {fill : Nat} {p : Phase}

/-! ### The capture cycle (R35 to R38) -/

theorem cycleEnded_eq (c : Cycle) (reason : EndReason) (volume now : Nat) :
    { c with returned := returnedVolume c volume, endTime := some now, endReason := some reason } =
      cycleEnded c reason volume now := by
  unfold cycleEnded returnedVolume
  cases c.mode with
  | none => rfl
  | some m => cases m <;> rfl

theorem closeCycle_of_none {reason : EndReason} (none_ : (s.tank t).openCycle = none) : s.closeCycle t reason = s := by
  unfold closeCycle
  simp only [none_]

theorem closeCycle_of_some {c : Cycle} {reason : EndReason} (open_ : (s.tank t).openCycle = some c) : s.closeCycle t reason =
    (s.cycleRecord t (cycleEnded c reason (((s.tank t).held.map (fun h => h.volume)).getD 0) s.partTime) reason).modTank t
      (fun k => { k with
        openCycle := none
        lastCycle := some (cycleEnded c reason (((s.tank t).held.map (fun h => h.volume)).getD 0) s.partTime) }) := by
  unfold closeCycle
  simp only [open_, cycleEnded_eq]

theorem tank_closeCycle (reason : EndReason) (x : Fin 8) :
    (s.closeCycle t reason).tank x = if x = t then (s.tank t).closing reason s.partTime else s.tank x := by
  cases cycle : (s.tank t).openCycle with
  | none =>
    rw [closeCycle_of_none cycle]
    split
    · rename_i here
      have last : lastClosed (s.tank t) reason s.partTime = (s.tank t).lastCycle := by
        unfold lastClosed
        rw [cycle]
      rw [here, Tank.closing, last, ← cycle]
    · rfl
  | some c =>
    have recorded (v : Cycle) (y : Fin 8) : (s.cycleRecord t v reason).tank y = s.tank y := tank_congr (by simp) y
    rw [closeCycle_of_some cycle, tank_modTank, recorded, recorded]
    split
    · rw [Tank.closing, lastClosed, cycle]
    · rfl

theorem tank_openCycle (late : Bool) (x : Fin 8) : (s.openCycle t late).tank x =
    if x = t then (s.tank t).capturing late (((s.tank t).held.map (fun h => h.fill)).getD 0) s.partTime else s.tank x := by
  unfold openCycle
  dsimp only
  split
  · rename_i c cycle
    split
    · rename_i here
      rw [here]
      simp only [Tank.capturing, cycle, Option.getD_some, reduceCtorEq, if_false]
      rw [← cycle]
    · rfl
  · rename_i cycle
    rw [tank_modTank]
    simp only [Tank.capturing, cycle, if_true, Option.getD_none]

theorem cycleFull_eq : s.cycleFull t = s.modTank t (fun k => k.filling s.partTime) := by
  have filled : (fun c : Cycle => if c.toFull.isNone then { c with toFull := some (s.partTime - c.start) } else c) =
      fun c => cycleFilled c s.partTime := by
    funext c
    unfold cycleFilled
    cases full : c.toFull with
    | none => rfl
    | some n =>
      show c = { c with toFull := some n }
      rw [← full]
  rw [cycleFull, filled]
  rfl

end State

end Sys2Proof.Machine
end

section
/-! SUPPORT. What an evaluation of a tank does to the drain list and the trigger (R29 to R33, R83, R86, R95). -/

namespace Sys2Proof.Machine

namespace State

variable {s : State} {t : Fin 8} {p : Phase}

/-- The tank in a phase, before the allocator hears of it. -/
def inPhase (s : State) (t : Fin 8) (p : Phase) : State := s.modTank t (fun k => { k with phase := p })

theorem listed_inPhase : (s.inPhase t p).listed t = s.listed t := listed_congr rfl t

/-- A change between measured phases, of which the allocator hears nothing. -/
theorem setPhase_of_sighted (sight : (s.tank t).phase.blind = p.blind) (wet : p ≠ .dry) : s.setPhase t p = s.inPhase t p := by
  unfold setPhase
  dsimp only
  split
  · rfl
  · rw [if_neg (not_not.mpr sight)]
    rfl

theorem setPhase_of_unlisted (out : t ∉ s.drainList) : s.setPhase t p = s.inPhase t p := by
  have unlisted : ¬ (s.inPhase t p).listed t = true := by
    rw [listed_inPhase, listed_iff]
    exact out
  unfold setPhase
  dsimp only
  split
  · rfl
  · rename_i both
    refine absurd ?_ both
    rw [Bool.or_eq_true, Bool.not_eq_true']
    exact .inr (Bool.eq_false_iff.mpr unlisted)

theorem setPhase_of_same (same : (s.tank t).phase = p) : s.setPhase t p = s.inPhase t p := by
  unfold setPhase
  dsimp only
  rw [if_pos]
  · rfl
  · simp [same]

theorem setPhase_of_listed (ne : (s.tank t).phase ≠ p) (listed : t ∈ s.drainList) : s.setPhase t p =
    if p = .dry then ((s.inPhase t p).leaveList t .drained).notifyOwner .drainEnded t
    else if (s.tank t).phase.blind ≠ p.blind then (s.inPhase t p).noteTrigger else s.inPhase t p := by
  have heard : ¬ (decide ((s.tank t).phase = p) || !(s.inPhase t p).listed t) = true := by
    have yes := listed_iff.mpr listed
    simp [ne, listed_inPhase, yes]
  exact if_neg heard

end State

/-! ### A tank moved, with what the allocator hears (R83, R86, R95) -/

/-- What an evaluation makes of a state: one tank, which leaves the drain list where it has become DRY, and the trigger. -/
structure TankMoved (s u : State) (t : Fin 8) (leaves : Prop) (after : Tank) (triggers : Prop) : Prop where
  left : leaves → u.tank t = outOfList after .drained ∧ u.drainList = s.drainList.filter (fun x => x ≠ t)
  stayed : ¬ leaves → u.tank t = after ∧ u.drainList = s.drainList
  others : ∀ x, x ≠ t → u.tank x = s.tank x
  serial : u.globalSerial = s.globalSerial
  told : leaves → ∀ p, after.owner ≠ .nobody → after.owner = portOwner p →
    (u.port p).notices &&& noticeWord .drainEnded ≠ 0#16
  trigger : u.trigger = true ↔ s.trigger = true ∨ leaves ∨ (t ∈ s.drainList ∧ triggers)
  rain : u.rain = s.rain
  outer : u.outer = s.outer

namespace Retanked

variable {s v : State} {t : Fin 8} {k : Tank} {p : Phase}

theorem closeCycle (r : Retanked s v t k) (reason : EndReason) :
    Retanked s (v.closeCycle t reason) t (k.closing reason s.partTime) :=
  r.step (by rw [State.tank_closeCycle, if_pos rfl, r.tank, r.partTime])
    (fun x ne => by rw [State.tank_closeCycle, if_neg ne]) (by simp) (by simp) (by simp) (by simp)

theorem openCycle {fill : Nat} (r : Retanked s v t k) (held : (k.held.map (fun h => h.fill)).getD 0 = fill) (late : Bool) :
    Retanked s (v.openCycle t late) t (k.capturing late fill s.partTime) :=
  r.step (by rw [State.tank_openCycle, if_pos rfl, r.tank, r.partTime, held])
    (fun x ne => by rw [State.tank_openCycle, if_neg ne]) (by simp) (by simp) (by simp) (by simp)

theorem cycleFull (r : Retanked s v t k) : Retanked s (v.cycleFull t) t (k.filling s.partTime) := by
  rw [State.cycleFull_eq, r.partTime]
  exact r.modTank _

theorem inPhase (r : Retanked s v t k) (p : Phase) : Retanked s (v.inPhase t p) t { k with phase := p } := r.modTank _

theorem setPhase (r : Retanked s v t k) (sight : k.phase.blind = p.blind) (wet : p ≠ .dry) :
    Retanked s (v.setPhase t p) t { k with phase := p } := by
  rw [State.setPhase_of_sighted (by rw [r.tank]; exact sight) wet]
  exact r.inPhase p

theorem drainList (r : Retanked s v t k) : v.drainList = s.drainList := (congrArg Prod.fst r.drains :)

theorem globalSerial (r : Retanked s v t k) : v.globalSerial = s.globalSerial := (congrArg Prod.snd r.drains :)

/-- A tank replaced in a state, of which the allocator hears nothing. -/
theorem moved (r : Retanked s v t k) : TankMoved s v t False k False where
  left := fun no => no.elim
  stayed := fun _ => ⟨r.tank, r.drainList⟩
  others := r.others
  serial := r.globalSerial
  told := fun no => no.elim
  trigger := by simp [r.trigger]
  rain := r.rain
  outer := r.outer

/-- A tank that becomes DRY, and leaves the drain list where it is on it (R83). -/
theorem moved_dry (r : Retanked s v t k) (ne : k.phase ≠ .dry) :
    TankMoved s (v.setPhase t .dry) t (t ∈ s.drainList) { k with phase := .dry } False := by
  by_cases listed : t ∈ s.drainList
  case neg =>
    rw [State.setPhase_of_unlisted (by rw [r.drainList]; exact listed)]
    have q := (r.inPhase .dry).moved
    exact { left := fun yes => absurd yes listed, stayed := fun _ => q.stayed (fun no => no), others := q.others, serial := q.serial
            told := fun yes => absurd yes listed, trigger := by rw [q.trigger]; simp [listed], rain := q.rain, outer := q.outer }
  have q := r.inPhase .dry
  rw [State.setPhase_of_listed (by rw [r.tank]; exact ne) (by rw [r.drainList]; exact listed), if_pos rfl]
  have tank (x : Fin 8) : ((((v.inPhase t .dry).leaveList t .drained).notifyOwner .drainEnded t).tank x) =
      if x = t then outOfList ((v.inPhase t .dry).tank t) .drained else (v.inPhase t .dry).tank x := by
    rw [State.tank_congr (s := (v.inPhase t .dry).leaveList t .drained) (by simp), State.tank_leaveList]
  have drains : (((v.inPhase t .dry).leaveList t .drained).notifyOwner .drainEnded t).drains =
      (s.drainList.filter (fun x => x ≠ t), s.globalSerial) := by
    have left := State.drains_leaveList (v.inPhase t .dry) t .drained
    have told : (((v.inPhase t .dry).leaveList t .drained).notifyOwner .drainEnded t).drains =
        ((v.inPhase t .dry).leaveList t .drained).drains := by simp
    rw [told, left, q.drainList, q.globalSerial]
  exact {
    left := fun _ => ⟨by rw [tank, if_pos rfl, q.tank], (congrArg Prod.fst drains :)⟩
    stayed := fun out => absurd listed out
    others := fun x ne' => by rw [tank, if_neg ne', q.others x ne']
    serial := (congrArg Prod.snd drains :)
    told := fun _ p some owner => by
      refine State.told_notifyAll _ ?_
      rw [State.mem_ownerPort_iff, State.tank_leaveList, if_pos rfl, q.tank]
      exact ⟨some, owner⟩
    trigger := by
      have noted : (((v.inPhase t .dry).leaveList t .drained).notifyOwner .drainEnded t).trigger =
          ((v.inPhase t .dry).leaveList t .drained).trigger := by simp
      exact iff_of_true (noted.trans rfl) (.inr (.inl listed))
    rain := by rw [← q.rain]; simp
    outer := by rw [← q.outer]; simp }

/-- A tank that comes out of UNKNOWN into water, a trigger where it is listed (R86). -/
theorem moved_sighted (r : Retanked s v t k) (blind : k.phase.blind = true) (seen : p.blind = false) (wet : p ≠ .dry) :
    TankMoved s (v.setPhase t p) t False { k with phase := p } True := by
  have q := r.inPhase p
  by_cases listed : t ∈ s.drainList
  · have ne : (v.tank t).phase ≠ p := by
      rw [r.tank]
      rintro rfl
      exact absurd (blind.symm.trans seen) (by decide)
    have apart : (v.tank t).phase.blind ≠ p.blind := by
      rw [r.tank, blind, seen]
      decide
    rw [State.setPhase_of_listed ne (by rw [r.drainList]; exact listed), if_neg wet, if_pos apart]
    exact { left := fun no => no.elim, stayed := fun _ => ⟨q.tank, q.drainList⟩, others := q.others, serial := q.globalSerial
            told := fun no => no.elim, trigger := by simp [State.noteTrigger, listed], rain := q.rain, outer := q.outer }
  · rw [State.setPhase_of_unlisted (by rw [r.drainList]; exact listed)]
    have m := q.moved
    exact { left := m.left, stayed := m.stayed, others := m.others, serial := m.serial, told := m.told
            trigger := by rw [m.trigger]; simp [listed], rain := m.rain, outer := m.outer }

end Retanked

end Sys2Proof.Machine
end

section
/-! SUPPORT. One evaluation of a tank from the fill held, and a valid sample (R26 to R39, R83, R86, R95). -/

namespace Sys2Proof.Machine

/-- A tank that has become DRY out of another phase. -/
def driedOut (k after : Tank) : Prop := after.phase = .dry ∧ k.phase ≠ .dry

/-! ### The phase (R28, R29) -/

section Phases

variable {k : Tank} {fill now : Nat}

theorem phase_phasedTank (k : Tank) (fill now : Nat) : (phasedTank k fill now).phase = nextPhase k.set k.phase fill := by
  unfold phasedTank
  dsimp only
  by_cases stays : nextPhase k.set k.phase fill = k.phase
  · rw [if_pos stays, stays]
  · rw [if_neg stays]
    by_cases dry : nextPhase k.set k.phase fill = .dry
    · rw [if_pos dry, dry]
    · rw [if_neg dry]

theorem phasedTank_of_stays (stays : nextPhase k.set k.phase fill = k.phase) : phasedTank k fill now = k := if_pos stays

theorem phasedTank_of_dry (dry : nextPhase k.set k.phase fill = .dry) (ne : k.phase ≠ .dry) :
    phasedTank k fill now = { k.closing .drained now with phase := .dry } := by
  unfold phasedTank
  dsimp only
  rw [if_neg (by rw [dry]; exact ne.symm), if_pos dry]

theorem phasedTank_of_opens {p : Phase} (next : nextPhase k.set k.phase fill = p) (ne : p ≠ k.phase) (wet : p ≠ .dry)
    (opens : k.phase = .dry ∨ k.phase = .unknown) : phasedTank k fill now =
      { (if p = .full then (k.capturing (decide (k.phase = .unknown)) fill now).filling now
          else k.capturing (decide (k.phase = .unknown)) fill now) with phase := p } := by
  unfold phasedTank
  dsimp only
  rw [next, if_neg ne, if_neg wet, if_pos opens]

theorem phasedTank_of_moves {p : Phase} (next : nextPhase k.set k.phase fill = p) (ne : p ≠ k.phase) (wet : p ≠ .dry)
    (stands : ¬ (k.phase = .dry ∨ k.phase = .unknown)) : phasedTank k fill now =
      { (if p = .full then k.filling now else k) with phase := p } := by
  unfold phasedTank
  dsimp only
  rw [next, if_neg ne, if_neg wet, if_neg stands]

end Phases

namespace TankMoved

variable {s u : State} {t : Fin 8} {leaves leaves' triggers triggers' : Prop} {after after' : Tank}

theorem congr (m : TankMoved s u t leaves after triggers) (same : leaves ↔ leaves') (eq : after = after')
    (heard : t ∈ s.drainList → (triggers ↔ triggers')) : TankMoved s u t leaves' after' triggers' := by
  obtain rfl : leaves = leaves' := propext same
  subst eq
  refine { m with trigger := m.trigger.trans (or_congr Iff.rfl (or_congr Iff.rfl (and_congr_right heard))) }

/-- A part of the tank that the drain list does not touch is replaced. -/
theorem modTank (m : TankMoved s u t leaves after triggers) (f : Tank → Tank)
    (apart : f (outOfList after .drained) = outOfList (f after) .drained) (owner : (f after).owner = after.owner) :
    TankMoved s (u.modTank t f) t leaves (f after) triggers where
  left := fun yes => by
    obtain ⟨tank, list⟩ := m.left yes
    exact ⟨by rw [State.tank_modTank, if_pos rfl, tank, apart], list⟩
  stayed := fun no => by
    obtain ⟨tank, list⟩ := m.stayed no
    exact ⟨by rw [State.tank_modTank, if_pos rfl, tank], list⟩
  others := fun x ne => by rw [State.tank_modTank, if_neg ne, m.others x ne]
  serial := m.serial
  told := fun yes p some is => m.told yes p (owner ▸ some) (owner ▸ is)
  trigger := m.trigger
  rain := m.rain
  outer := m.outer

/-- Band and weight are made anew, with a trigger where a listed tank's weight changes (R34, R95). -/
theorem recomputeWeight (m : TankMoved s u t leaves after triggers) (listed : leaves → t ∈ s.drainList) :
    TankMoved s (u.recomputeWeight t) t leaves (weighed s.rain.catchment after)
      (triggers ∨ (weighed s.rain.catchment after).weight ≠ after.weight) := by
  have drains : (u.recomputeWeight t).drains = u.drains := by simp
  have list : (u.recomputeWeight t).drainList = u.drainList := (congrArg Prod.fst drains :)
  have trigger : (u.recomputeWeight t).trigger = true ↔ u.trigger = true
      ∨ t ∈ u.drainList ∧ (weighed u.rain.catchment (u.tank t)).weight ≠ (u.tank t).weight := by
    unfold State.recomputeWeight
    dsimp only
    rw [State.bandOf_eq]
    have same : (u.tank t).set.cls * (weighed u.rain.catchment (u.tank t)).band =
        (weighed u.rain.catchment (u.tank t)).weight := rfl
    have stands (f : Tank → Tank) : (u.modTank t f).listed t = true ↔ t ∈ u.drainList :=
      (Iff.of_eq (congrArg (· = true) (State.listed_congr rfl t))).trans State.listed_iff
    rw [same]
    split
    · rename_i both
      rw [Bool.and_eq_true, decide_eq_true_eq, stands] at both
      exact iff_of_true rfl (.inr ⟨both.2, both.1⟩)
    · rename_i both
      rw [Bool.and_eq_true, decide_eq_true_eq, stands] at both
      have quiet : ¬ (t ∈ u.drainList ∧ (weighed u.rain.catchment (u.tank t)).weight ≠ (u.tank t).weight) :=
        fun now => both ⟨now.2, now.1⟩
      rw [or_iff_left quiet]
      rfl
  exact {
    left := fun yes => by
      obtain ⟨tank, left⟩ := m.left yes
      exact ⟨by rw [State.tank_recomputeWeight, if_pos rfl, tank, m.rain]; rfl, list.trans left⟩
    stayed := fun no => by
      obtain ⟨tank, stayed⟩ := m.stayed no
      exact ⟨by rw [State.tank_recomputeWeight, if_pos rfl, tank, m.rain], list.trans stayed⟩
    others := fun x ne => by rw [State.tank_recomputeWeight, if_neg ne, m.others x ne]
    serial := (congrArg Prod.snd drains : (u.recomputeWeight t).globalSerial = u.globalSerial).trans m.serial
    told := fun yes p some owner => by
      rw [State.port_congr (State.ports_recomputeWeight t)]
      exact m.told yes p some owner
    trigger := by
      rw [trigger, m.trigger]
      by_cases yes : leaves
      · exact iff_of_true (.inl (.inr (.inl yes))) (.inr (.inl yes))
      · obtain ⟨tank, stayed⟩ := m.stayed yes
        rw [tank, stayed, m.rain]
        tauto
    rain := by rw [← m.rain]; simp
    outer := by rw [← m.outer]; simp }

end TankMoved

namespace Retanked

variable {s v : State} {t : Fin 8} {k : Tank} {fill : Nat}

/-- The phase transitions of one evaluation of a tank that tells measured water (R29). -/
theorem evaluatePhase (r : Retanked s v t k) (held : (k.held.map (fun h => h.fill)).getD 0 = fill)
    (sight : k.phase.blind = false) :
    TankMoved s (v.evaluatePhase t fill) t (t ∈ s.drainList ∧ driedOut k (phasedTank k fill s.partTime))
      (phasedTank k fill s.partTime) False := by
  -- A tank that is not DRY afterwards leaves no list.
  have kept (after : Tank) (w : State) (q : Retanked s w t after) (eq : after = phasedTank k fill s.partTime)
      (not : ¬ driedOut k (phasedTank k fill s.partTime)) : TankMoved s w t
        (t ∈ s.drainList ∧ driedOut k (phasedTank k fill s.partTime)) (phasedTank k fill s.partTime) False :=
    q.moved.congr (by simp [not]) eq (fun _ => Iff.rfl)
  have dried (ne : k.phase ≠ .dry) (next : nextPhase k.set k.phase fill = .dry) (w : State) (a : Tank)
      (q : Retanked s w t a) (wet : a.phase ≠ .dry) (eq : { a with phase := .dry } = phasedTank k fill s.partTime) :
      TankMoved s (w.setPhase t .dry) t (t ∈ s.drainList ∧ driedOut k (phasedTank k fill s.partTime))
        (phasedTank k fill s.partTime) False := by
    have yes : driedOut k (phasedTank k fill s.partTime) := ⟨by rw [phase_phasedTank, next], ne⟩
    exact (q.moved_dry wet).congr (by simp [yes]) eq (fun _ => Iff.rfl)
  have notDry (ne : nextPhase k.set k.phase fill ≠ .dry) : ¬ driedOut k (phasedTank k fill s.partTime) := by
    rintro ⟨dry, -⟩
    rw [phase_phasedTank] at dry
    exact ne dry
  have stays (same : nextPhase k.set k.phase fill = k.phase) : TankMoved s v t
      (t ∈ s.drainList ∧ driedOut k (phasedTank k fill s.partTime)) (phasedTank k fill s.partTime) False := by
    refine kept k v r (phasedTank_of_stays same).symm ?_
    rintro ⟨dry, ne⟩
    rw [phasedTank_of_stays same] at dry
    exact ne dry
  unfold State.evaluatePhase
  dsimp only
  rw [r.tank]
  cases phase : k.phase with
  | offline => rw [phase] at sight; exact absurd sight (by decide)
  | unknown => rw [phase] at sight; exact absurd sight (by decide)
  | dry =>
    dsimp only
    have opened : Retanked s (v.dryToWet t) t { k.capturing false fill s.partTime with phase := .wet } :=
      (r.openCycle held false).setPhase (by rw [Tank.capturing, phase]; rfl) (by decide)
    have late : decide (k.phase = .unknown) = false := by rw [phase]; rfl
    split
    · rename_i wet
      split
      · rename_i full
        have next : nextPhase k.set k.phase fill = .full := by simp [nextPhase, phase, wet, full]
        refine kept _ _ (opened.cycleFull.setPhase rfl (by decide)) ?_ (notDry (by rw [next]; decide))
        rw [phasedTank_of_opens next (by rw [phase]; decide) (by decide) (.inl phase), late]
        rfl
      · rename_i notFull
        have next : nextPhase k.set k.phase fill = .wet := by simp [nextPhase, phase, wet, notFull]
        refine kept _ _ opened ?_ (notDry (by rw [next]; decide))
        rw [phasedTank_of_opens next (by rw [phase]; decide) (by decide) (.inl phase), late]
        rfl
    · rename_i low
      exact stays (by simp [nextPhase, phase, low])
  | wet =>
    dsimp only
    split
    · rename_i low
      have next : nextPhase k.set k.phase fill = .dry := by simp [nextPhase, phase, low]
      refine dried (by rw [phase]; decide) next _ _ (r.closeCycle .drained) (by rw [Tank.closing, phase]; decide) ?_
      rw [phasedTank_of_dry next (by rw [phase]; decide)]
    · rename_i above
      split
      · rename_i full
        have next : nextPhase k.set k.phase fill = .full := by simp [nextPhase, phase, above, full]
        refine kept _ _ (r.cycleFull.setPhase (by rw [Tank.filling, phase]; rfl) (by decide)) ?_ (notDry (by rw [next]; decide))
        rw [phasedTank_of_moves next (by rw [phase]; decide) (by decide) (by rw [phase]; decide)]
        rfl
      · rename_i notFull
        exact stays (by simp [nextPhase, phase, above, notFull])
  | full =>
    dsimp only
    have lowered : Retanked s (v.setPhase t .wet) t { k with phase := .wet } := r.setPhase (by rw [phase]; rfl) (by decide)
    split
    · rename_i below
      split
      · rename_i low
        have next : nextPhase k.set k.phase fill = .dry := by simp [nextPhase, phase, below, low]
        refine dried (by rw [phase]; decide) next _ _ (lowered.closeCycle .drained) (show Phase.wet ≠ .dry by decide) ?_
        rw [phasedTank_of_dry next (by rw [phase]; decide)]
        rfl
      · rename_i above
        have next : nextPhase k.set k.phase fill = .wet := by simp [nextPhase, phase, below, above]
        refine kept _ _ lowered ?_ (notDry (by rw [next]; decide))
        rw [phasedTank_of_moves next (by rw [phase]; decide) (by decide) (by rw [phase]; decide)]
        rfl
    · rename_i high
      exact stays (by simp [nextPhase, phase, high])

end Retanked

end Sys2Proof.Machine
end

section
/-! SUPPORT. A tank's first sample, its evaluation whole, and what a sample brings (R26 to R39). -/

namespace Sys2Proof.Machine

theorem nextBand_unknown (band fill : Nat) : nextBand .unknown band fill = bandDirect fill := if_pos rfl

theorem nextBand_of_known {old : Phase} (known : old ≠ .unknown) (band fill : Nat) : nextBand old band fill = rawBandNext band fill :=
  if_neg known

theorem nextPhase_unknown (v : TankSettings) (fill : Nat) : nextPhase v .unknown fill = phaseDirect v fill := rfl

namespace Retanked

variable {s v : State} {t : Fin 8} {k : Tank} {fill : Nat}

/-- The raw band does not tell the phase. -/
theorem phasedTank_rawBand (k : Tank) (n fill now : Nat) :
    phasedTank { k with rawBand := n } fill now = { phasedTank k fill now with rawBand := n } := by
  unfold phasedTank
  dsimp only
  split
  · rfl
  · split
    · rfl
    · by_cases opens : k.phase = .dry ∨ k.phase = .unknown
      · rw [if_pos opens, if_pos opens]
        split <;> rfl
      · rw [if_neg opens, if_neg opens]
        split <;> rfl

/-- The first valid sample of a tank in UNKNOWN (R28, R35, R39, R86). -/
theorem firstSample (r : Retanked s v t k) (held : (k.held.map (fun h => h.fill)).getD 0 = fill) (phase : k.phase = .unknown) :
    TankMoved s (v.firstSample t fill) t (t ∈ s.drainList ∧ driedOut k (phasedTank k fill s.partTime))
      { phasedTank k fill s.partTime with rawBand := bandDirect fill } True := by
  have banded : Retanked s (v.modTank t (fun k => { k with rawBand := bandDirect fill })) t { k with rawBand := bandDirect fill } :=
    r.modTank _
  have set_ : ((v.modTank t (fun k => { k with rawBand := bandDirect fill })).tank t).set = k.set := by rw [banded.tank]
  have late : decide (({ k with rawBand := bandDirect fill } : Tank).phase = .unknown) = true := by
    rw [decide_eq_true_eq]
    exact phase
  have blind : k.phase.blind = true := by rw [phase]; rfl
  have next {p : Phase} (direct : phaseDirect k.set fill = p) :
      nextPhase ({ k with rawBand := bandDirect fill } : Tank).set ({ k with rawBand := bandDirect fill } : Tank).phase fill = p := by
    show nextPhase k.set k.phase fill = p
    rw [phase, nextPhase_unknown, direct]
  have out {p : Phase} (direct : phaseDirect k.set fill = p) (wet : p ≠ .dry) :
      ¬ driedOut k (phasedTank k fill s.partTime) := by
    rintro ⟨dry, -⟩
    rw [phase_phasedTank, phase, nextPhase_unknown, direct] at dry
    exact wet dry
  rw [← phasedTank_rawBand]
  unfold State.firstSample
  dsimp only
  rw [set_]
  cases direct : phaseDirect k.set fill with
  | dry =>
    have dried : driedOut k (phasedTank k fill s.partTime) :=
      ⟨by rw [phase_phasedTank, phase, nextPhase_unknown, direct], by rw [phase]; decide⟩
    have moved := (banded.closeCycle .drained).moved_dry (show k.phase ≠ .dry by rw [phase]; decide)
    rw [phasedTank_of_dry (next direct) (show k.phase ≠ .dry by rw [phase]; decide)]
    have listed : (t ∈ s.drainList ∧ driedOut k (phasedTank k fill s.partTime)) ↔ t ∈ s.drainList := and_iff_left dried
    exact {
      left := fun yes => moved.left yes.1
      stayed := fun no => moved.stayed (fun yes => no (listed.mpr yes))
      others := moved.others, serial := moved.serial
      told := fun yes => moved.told yes.1
      trigger := by rw [moved.trigger, listed]; tauto
      rain := moved.rain, outer := moved.outer }
  | full =>
    have moved := ((banded.openCycle held true).cycleFull).moved_sighted (p := .full) blind rfl (by decide)
    refine moved.congr (by simp [out direct (by decide)]) ?_ (fun _ => Iff.rfl)
    rw [phasedTank_of_opens (next direct) (show Phase.full ≠ k.phase by rw [phase]; decide) (by decide) (.inr phase), late]
    rfl
  | wet =>
    have moved := (banded.openCycle held true).moved_sighted (p := .wet) blind rfl (by decide)
    refine moved.congr (by simp [out direct (by decide)]) ?_ (fun _ => Iff.rfl)
    rw [phasedTank_of_opens (next direct) (show Phase.wet ≠ k.phase by rw [phase]; decide) (by decide) (.inr phase), late]
    rfl
  | offline =>
    unfold phaseDirect at direct
    split at direct
    · exact absurd direct (by decide)
    · split at direct <;> exact absurd direct (by decide)
  | unknown =>
    unfold phaseDirect at direct
    split at direct
    · exact absurd direct (by decide)
    · split at direct <;> exact absurd direct (by decide)

/-- The weight is made of the phase's tank with its raw band, and compared with the weight before. -/
theorem weight_phasedTank (k : Tank) (fill now : Nat) : (phasedTank k fill now).weight = k.weight := by
  unfold phasedTank
  dsimp only
  split
  · rfl
  · split
    · rfl
    · by_cases opens : k.phase = .dry ∨ k.phase = .unknown
      · rw [if_pos opens]
        split <;> rfl
      · rw [if_neg opens]
        split <;> rfl

/-- An evaluation from the fill held is what the rules say of it (R24, R28 to R39, R83, R86, R95). -/
theorem evaluateFill (r : Retanked s v t k) (held : (k.held.map (fun h => h.fill)).getD 0 = fill) :
    TankMoved s (v.evaluateFill t fill) t
      (t ∈ s.drainList ∧ driedOut k (evaluatedTank s.rain.catchment k fill s.partTime))
      (evaluatedTank s.rain.catchment k fill s.partTime)
      (k.phase = .unknown ∨ (evaluatedTank s.rain.catchment k fill s.partTime).weight ≠ k.weight) := by
  by_cases offline : k.phase = .offline
  · rw [evaluatedTank_of_offline offline]
    have stands : v.evaluateFill t fill = v := by
      unfold State.evaluateFill
      rw [r.tank, offline]
    rw [stands]
    refine r.moved.congr ?_ rfl ?_
    · simp [driedOut, offline]
    · simp [offline]
  rw [evaluatedTank_of_online offline]
  have dry : driedOut k (weighed s.rain.catchment { phasedTank k fill s.partTime with rawBand := nextBand k.phase k.rawBand fill })
      ↔ driedOut k (phasedTank k fill s.partTime) := Iff.rfl
  rw [dry]
  by_cases unknown : k.phase = .unknown
  · have filled : v.evaluateFill t fill = (v.firstSample t fill).recomputeWeight t := by
      unfold State.evaluateFill
      rw [r.tank, unknown]
    rw [filled, unknown, nextBand_unknown]
    refine ((r.firstSample held unknown).recomputeWeight (fun yes => yes.1)).congr Iff.rfl rfl ?_
    simp
  · have sight : k.phase.blind = false := by
      revert offline unknown
      cases k.phase <;> decide
    have filled : v.evaluateFill t fill = ((v.evaluatePhase t fill).evaluateBand t fill).recomputeWeight t := by
      unfold State.evaluateFill
      rw [r.tank]
      revert offline unknown
      cases k.phase <;> simp
    have phased := r.evaluatePhase held sight
    have banded : TankMoved s ((v.evaluatePhase t fill).evaluateBand t fill) t
        (t ∈ s.drainList ∧ driedOut k (phasedTank k fill s.partTime))
        { phasedTank k fill s.partTime with rawBand := rawBandNext (phasedTank k fill s.partTime).rawBand fill } False :=
      phased.modTank (fun q => { q with rawBand := rawBandNext q.rawBand fill }) rfl rfl
    have raw : (phasedTank k fill s.partTime).rawBand = k.rawBand := by
      have same := congrArg Tank.rawBand (phasedTank_rawBand k k.rawBand fill s.partTime)
      exact same
    rw [raw] at banded
    rw [filled, nextBand_of_known unknown]
    refine (banded.recomputeWeight (fun yes => yes.1)).congr Iff.rfl rfl (fun _ => ?_)
    have weight : ({ phasedTank k fill s.partTime with rawBand := rawBandNext k.rawBand fill } : Tank).weight = k.weight :=
      weight_phasedTank k fill s.partTime
    rw [weight]
    simp [unknown]

/-- A valid sample is what the rules say of it (R26). -/
theorem tankSample {level : Nat} {clamped : Bool} (r : Retanked s v t k) :
    let after := sampledTank s.rain.catchment k (heldOf k.set.shape level) clamped s.partTime
    TankMoved s (v.tankSample t level clamped) t (t ∈ s.drainList ∧ driedOut k after) after
      (k.phase = .unknown ∨ after.weight ≠ k.weight) := by
  intro after
  have shape : heldOf (v.tank t).set.shape level = heldOf k.set.shape level := by rw [r.tank]
  have peaked : (v.modTank t (fun k => { k with held := some (heldOf (v.tank t).set.shape level), clamped := clamped })).cyclePeak t
      (heldOf (v.tank t).set.shape level).fill = (v.modTank t (fun k => { k with
        held := some (heldOf (v.tank t).set.shape level), clamped := clamped })).modTank t (fun k => { k with
          openCycle := k.openCycle.map (fun c => cyclePeaked c (heldOf (v.tank t).set.shape level).fill s.partTime) }) := by
    rw [← r.partTime]
    rfl
  have sampled : Retanked s ((v.modTank t (fun k => { k with
      held := some (heldOf (v.tank t).set.shape level), clamped := clamped })).cyclePeak t
        (heldOf (v.tank t).set.shape level).fill) t { k with
          held := some (heldOf k.set.shape level), clamped := clamped
          openCycle := k.openCycle.map (fun c => cyclePeaked c (heldOf k.set.shape level).fill s.partTime) } := by
    rw [peaked, shape]
    exact (r.modTank _).modTank _
  have eq : v.tankSample t level clamped = ((v.modTank t (fun k => { k with
      held := some (heldOf (v.tank t).set.shape level), clamped := clamped })).cyclePeak t
        (heldOf (v.tank t).set.shape level).fill).evaluateFill t (heldOf k.set.shape level).fill := by
    rw [← shape]
    rfl
  rw [eq]
  exact sampled.evaluateFill rfl

end Retanked

/-- An evaluation leaves the values held, the settings and the owner. -/
theorem evaluatedTank_keeps (alert : AlertLevel) (k : Tank) (fill now : Nat) :
    (evaluatedTank alert k fill now).held = k.held ∧ (evaluatedTank alert k fill now).clamped = k.clamped
      ∧ (evaluatedTank alert k fill now).owner = k.owner := by
  unfold evaluatedTank
  dsimp only
  split
  · exact ⟨rfl, rfl, rfl⟩
  · split
    · exact ⟨rfl, rfl, rfl⟩
    · split <;> exact ⟨rfl, rfl, rfl⟩

end Sys2Proof.Machine
end

section
/-! SUPPORT. The timed steps of a LEVEL channel (R12 to R15, R26, R27). -/

namespace Sys2Proof.Machine

namespace State

variable {s : State} {c d : Fin 16} {t x : Fin 8} {p : Phase} {level duty : Nat} {clamped : Bool}

/-! ### A phase other than DRY (R27, R32) -/

theorem setPhase_cases (wet : p ≠ .dry) : s.setPhase t p = s.inPhase t p ∨ s.setPhase t p = (s.inPhase t p).noteTrigger := by
  by_cases same : (s.tank t).phase = p
  · exact .inl (setPhase_of_same same)
  by_cases listed : t ∈ s.drainList
  · rw [setPhase_of_listed same listed, if_neg wet]
    split
    · exact .inr rfl
    · exact .inl rfl
  · exact .inl (setPhase_of_unlisted listed)

theorem tank_inPhase (x : Fin 8) : (s.inPhase t p).tank x = if x = t then { s.tank t with phase := p } else s.tank x :=
  tank_modTank s t x _

theorem tank_setPhase (wet : p ≠ .dry) (x : Fin 8) :
    (s.setPhase t p).tank x = if x = t then { s.tank t with phase := p } else s.tank x := by
  rcases setPhase_cases (s := s) (t := t) wet with eq | eq <;> rw [eq]
  · exact tank_inPhase x
  · exact tank_inPhase x

theorem onlyChanges_setPhase (wet : p ≠ .dry) : onlyChanges [.tanks, .trigger] s (s.setPhase t p) := by
  rcases setPhase_cases (s := s) (t := t) wet with eq | eq <;> rw [eq]
  all_goals
    intro area other
    cases area <;> first | rfl | exact absurd (by simp) other

/-! ### A tank that leaves OFFLINE (R24, R27) -/

theorem leaveOffline_eq : s.leaveOffline t =
    if (s.tank t).set.enabled = true ∧ s.levelSound t = true ∧ (s.tank t).phase = .offline then s.inPhase t .unknown else s := by
  unfold leaveOffline
  by_cases leaves : (s.tank t).set.enabled = true ∧ s.levelSound t = true ∧ (s.tank t).phase = .offline
  · obtain ⟨enabled, sound, offline⟩ := leaves
    rw [if_pos (by simp [enabled, sound, offline]), if_pos ⟨enabled, sound, offline⟩]
    exact setPhase_of_sighted (by rw [offline]; rfl) (by decide)
  · rw [if_neg leaves, if_neg]
    simpa [and_assoc] using leaves

theorem levelSound_of_channelOf (bound : s.channelOf (.tank t .level) = some c) :
    s.levelSound t = true ↔ (s.channel c).status ≠ .fault := by
  simp [levelSound, bound]

/-! ### A sample (R13, R14) -/

/-- The second ended at the channel. -/
def secondEnded (s : State) (c : Fin 16) : State :=
  s.modChannel c (fun k => { k with level := { k.level with sumActive := 0, sumPeriod := 0, sampledAt := s.partTime } })

theorem levelSecond_of_none (none_ : (s.channel c).level.sumPeriod = 0) : s.levelSecond c t = s.secondEnded c := by
  simp [levelSecond, LevelRun.sample, none_, secondEnded]

theorem levelSecond_of_some (some_ : (s.channel c).level.sumPeriod ≠ 0) : s.levelSecond c t =
    (s.secondEnded c).levelSample c t (1000 * (s.channel c).level.sumActive / (s.channel c).level.sumPeriod) := by
  simp [levelSecond, LevelRun.sample, some_, secondEnded]

theorem levelSample_of_out (out : mapDuty (s.tank t).set duty = none) : s.levelSample c t duty = s := by
  simp [levelSample, out]

/-- The channel that takes a valid sample. -/
def sampleTaken (s : State) (c : Fin 16) (t : Fin 8) (duty level : Nat) (clamped : Bool) : State :=
  (s.levelReturns c t).modChannel c (fun k =>
    { k with level := { k.level with duty := some duty, level := some level, clamped := some clamped,
                                     lastValid := some (s.levelReturns c t).partTime
                                     reference := (s.levelReturns c t).partTime } })

theorem levelSample_of_in (within : mapDuty (s.tank t).set duty = some (level, clamped)) :
    s.levelSample c t duty = (s.sampleTaken c t duty level clamped).tankSample t level clamped := by
  simp [levelSample, within, sampleTaken]

/-- A tank whose level returns, UNKNOWN where that ends its OFFLINE. -/
def returning (s : State) (c : Fin 16) (t : Fin 8) : Tank :=
  if (s.channel c).status = .fault ∧ ((s.tank t).set.enabled = true ∧ (s.faultChange c false .sample).levelSound t = true
    ∧ (s.tank t).phase = .offline) then { s.tank t with phase := .unknown } else s.tank t

theorem levelReturns_cases (s : State) (c : Fin 16) (t : Fin 8) : Retanked s (s.levelReturns c t) t (s.returning c t)
    ∧ ∀ d, (s.levelReturns c t).channel d = if d = c then { s.channel c with status := .ok } else s.channel d := by
  by_cases fault : (s.channel c).status = .fault
  · have left : Retanked s (s.faultChange c false .sample) t (s.tank t) :=
      (Retanked.refl s t).step (tank_congr (by simp) t) (fun x _ => tank_congr (by simp) x) (by simp) (by simp) (by simp) (by simp)
    have channel (d : Fin 16) := channel_faultChange (s := s) (c := c) (entered := false) (cause := .sample) d
    have returns : s.levelReturns c t = (s.faultChange c false .sample).leaveOffline t := if_pos fault
    rw [returns, leaveOffline_eq, left.tank, returning]
    by_cases leaves : (s.tank t).set.enabled = true ∧ (s.faultChange c false .sample).levelSound t = true
        ∧ (s.tank t).phase = .offline
    · rw [if_pos leaves, if_pos ⟨fault, leaves⟩]
      exact ⟨left.inPhase .unknown, channel⟩
    · rw [if_neg leaves, if_neg (fun both => leaves both.2)]
      exact ⟨left, channel⟩
  · have returns : s.levelReturns c t = s.modChannel c (fun k => { k with status := .ok }) := if_neg fault
    rw [returns, returning, if_neg (fun both => fault both.1)]
    exact ⟨(Retanked.refl s t).step rfl (fun _ _ => rfl) rfl rfl rfl rfl, fun d => channel_modChannel s c d _⟩

theorem returning_of_own (bound : s.channelOf (.tank t .level) = some c) : s.returning c t =
    if (s.channel c).status = .fault ∧ (s.tank t).set.enabled = true ∧ (s.tank t).phase = .offline then
      { s.tank t with phase := .unknown } else s.tank t := by
  have still : (s.faultChange c false .sample).channelOf (.tank t .level) = some c := by
    rw [← bound]
    unfold channelOf
    congr 1
    funext d
    rw [channel_faultChange]
    split
    · rename_i here
      rw [here]
    · rfl
  have sound : (s.faultChange c false .sample).levelSound t = true := by
    rw [levelSound_of_channelOf still, channel_faultChange, if_pos rfl]
    exact show ChannelStatus.ok ≠ .fault by decide
  simp only [returning, sound, true_and]

theorem set_returning : (s.returning c t).set = (s.tank t).set := by
  unfold returning
  split <;> rfl

theorem owner_returning : (s.returning c t).owner = (s.tank t).owner := by
  unfold returning
  split <;> rfl

theorem retanked_sampleTaken : Retanked s (s.sampleTaken c t duty level clamped) t (s.returning c t) := by
  obtain ⟨moved, -⟩ := levelReturns_cases s c t
  exact moved.step moved.tank (fun _ _ => rfl) rfl rfl rfl rfl

theorem channel_sampleTaken (d : Fin 16) : (s.sampleTaken c t duty level clamped).channel d =
    if d = c then { s.channel c with
      status := .ok
      level := { (s.channel c).level with duty := some duty, level := some level, clamped := some clamped,
                                          lastValid := some s.partTime, reference := s.partTime } }
    else s.channel d := by
  obtain ⟨moved, channel⟩ := levelReturns_cases s c t
  rw [sampleTaken, channel_modChannel, channel, channel, if_pos rfl, moved.partTime]
  split <;> rfl

theorem onlyChanges_levelSecond :
    onlyChanges [.channels, .tanks, .drains, .store, .notices, .trigger] s (s.levelSecond c t) := by
  intro area other
  cases area <;> simp [unchanged] at other ⊢

/-! ### FAULT of a LEVEL channel (R15, R27) -/

theorem tank_levelFault (x : Fin 8) :
    (s.levelFault c t).tank x = if x = t then { s.tank t with phase := .offline } else s.tank x := by
  have kept (y : Fin 8) : (s.faultChange c true .noSample).tank y = s.tank y := tank_congr (by simp) y
  rw [levelFault, tank_setPhase (by decide), kept, kept]

theorem channel_levelFault (d : Fin 16) :
    (s.levelFault c t).channel d = if d = c then { s.channel c with status := .fault } else s.channel d := by
  have channels : (s.levelFault c t).channels = (s.faultChange c true .noSample).channels := by simp [levelFault]
  rw [channel_congr channels, channel_faultChange]
  rfl

theorem onlyChanges_levelFault : onlyChanges [.channels, .tanks, .store, .notices, .trigger] s (s.levelFault c t) :=
  onlyChanges_trans (onlyChanges_mono (by decide) onlyChanges_faultChange)
    (onlyChanges_mono (by decide) (onlyChanges_setPhase (by decide)))

end State

/-! ### The events -/

section Events

variable {s : State} {c : Fin 16} {t : Fin 8}

theorem levelTank_eq_some (binder : (s.channel c).binder = .tank t .level) : levelTank s c = some t := by
  simp [levelTank, binder]

theorem exec_levelSaturate {q : Period} (o : Open s) (kind : (s.channel c).kind = .level)
    (period : (s.channel c).level.period = some q) (due : q.start + 65535 ≤ s.clock) (free : (s.channel c).since = none) :
    exec (.levelSaturate c) s = ended (s.modChannel c Channel.saturate) :=
  exec_event_due (i := .levelSaturate c) o rfl (by simp [saturateDue, closingPending, periodLimit, kind, period, due, free])

theorem exec_levelSample (o : Open s) (binder : (s.channel c).binder = .tank t .level)
    (due : (s.channel c).level.sampledAt < s.partTime) : exec (.levelSample c) s = ended (s.levelSecond c t) := by
  have tank := levelTank_eq_some binder
  rw [exec_event_due (i := .levelSample c) o rfl (by simp [sampleDue, tank, due])]
  simp only [tank]

theorem exec_levelStaleTimeout (o : Open s) (binder : (s.channel c).binder = .tank t .level)
    (running : (s.channel c).status = .ok ∨ (s.channel c).status = .saturated)
    (due : (s.channel c).level.reference + 5 ≤ s.partTime) :
    exec (.levelStaleTimeout c) s = ended (s.modChannel c (fun k => { k with status := .stale })) :=
  exec_event_due (i := .levelStaleTimeout c) o rfl (by simp [staleDue, levelTank_eq_some binder, running, due])

theorem exec_levelFaultTimeout (o : Open s) (binder : (s.channel c).binder = .tank t .level)
    (sound : (s.channel c).status ≠ .fault) (due : (s.channel c).level.reference + 60 ≤ s.partTime) :
    exec (.levelFaultTimeout c) s = ended (s.levelFault c t) := by
  have tank := levelTank_eq_some binder
  rw [exec_event_due (i := .levelFaultTimeout c) o rfl (by simp [levelFaultDue, tank, sound, due])]
  simp only [tank]

end Events

end Sys2Proof.Machine
end

section
/-! SUPPORT. A sampled tank, and the obligation of a LEVEL channel's steps (R12 to R15, R26 to R39). -/

namespace Sys2Proof.Machine

/-- A sample gives the tank its values, whatever they make of it. -/
theorem sampledTank_keeps (alert : AlertLevel) (k : Tank) (h : Held) (clamped : Bool) (now : Nat) :
    (sampledTank alert k h clamped now).held = some h ∧ (sampledTank alert k h clamped now).clamped = clamped
      ∧ (sampledTank alert k h clamped now).owner = k.owner := evaluatedTank_keeps _ _ _ _

namespace TankMoved

variable {s u : State} {t : Fin 8} {leaves triggers : Prop} {after : Tank}

/-- Leaving the drain list leaves the values held. -/
theorem held (m : TankMoved s u t leaves after triggers) :
    (u.tank t).held = after.held ∧ (u.tank t).clamped = after.clamped := by
  by_cases yes : leaves
  · rw [(m.left yes).1]
    exact ⟨rfl, rfl⟩
  · rw [(m.stayed yes).1]
    exact ⟨rfl, rfl⟩

theorem tank_eq [Decidable leaves] (m : TankMoved s u t leaves after triggers) :
    u.tank t = if leaves then outOfList after .drained else after := by
  split
  · rename_i yes
    exact (m.left yes).1
  · rename_i no
    exact (m.stayed no).1

theorem drainList_eq [Decidable leaves] (m : TankMoved s u t leaves after triggers) :
    u.drainList = if leaves then s.drainList.filter (fun x => x ≠ t) else s.drainList := by
  split
  · rename_i yes
    exact (m.left yes).2
  · rename_i no
    exact (m.stayed no).2

end TankMoved

namespace State

variable {s : State} {c : Fin 16} {t : Fin 8} {level : Nat} {clamped : Bool}

/-- The duty of the periods that a second completed. -/
def duty (s : State) (c : Fin 16) : Nat := 1000 * (s.channel c).level.sumActive / (s.channel c).level.sumPeriod

/-- A second with a duty in range, as a tank sees it. -/
theorem tankMoved_levelSecond (periods : (s.channel c).level.sumPeriod ≠ 0)
    (within : mapDuty (s.tank t).set (s.duty c) = some (level, clamped)) :
    let k := (s.secondEnded c).returning c t
    let after := sampledTank s.rain.catchment k (heldOf (s.tank t).set.shape level) clamped s.partTime
    TankMoved s (s.levelSecond c t) t (t ∈ s.drainList ∧ after.phase = .dry ∧ k.phase ≠ .dry) after
      (k.phase = .unknown ∨ after.weight ≠ k.weight) := by
  intro k after
  have taken : Retanked (s.secondEnded c) ((s.secondEnded c).sampleTaken c t (s.duty c) level clamped) t k := retanked_sampleTaken
  have again : Retanked s ((s.secondEnded c).sampleTaken c t (s.duty c) level clamped) t k :=
    ⟨taken.tank, taken.others, taken.drains, taken.trigger, taken.rain, taken.outer⟩
  have sampled := again.tankSample (level := level) (clamped := clamped)
  have shape : k.set = (s.tank t).set := set_returning
  rw [shape] at sampled
  have eq : s.levelSecond c t = ((s.secondEnded c).sampleTaken c t (s.duty c) level clamped).tankSample t level clamped :=
    (levelSecond_of_some periods).trans (levelSample_of_in within)
  rw [eq]
  exact sampled

theorem channel_levelSecond (periods : (s.channel c).level.sumPeriod ≠ 0)
    (within : mapDuty (s.tank t).set (s.duty c) = some (level, clamped)) (d : Fin 16) :
    (s.levelSecond c t).channel d = if d = c then { s.channel c with
      status := .ok
      level := { (s.channel c).level with
        duty := some (s.duty c), level := some level, clamped := some clamped, lastValid := some s.partTime
        reference := s.partTime, sumActive := 0, sumPeriod := 0, sampledAt := s.partTime } }
    else s.channel d := by
  have eq : s.levelSecond c t = ((s.secondEnded c).sampleTaken c t (s.duty c) level clamped).tankSample t level clamped :=
    (levelSecond_of_some periods).trans (levelSample_of_in within)
  have channels (v : State) : (v.tankSample t level clamped).channels = v.channels := by simp
  rw [eq, channel_congr (channels _), channel_sampleTaken, secondEnded]
  simp only [channel_modChannel, if_true]
  split <;> rfl

end State

open State

/-- The tank that a sample meets, where its channel is the only one of its level role. -/
theorem returning_secondEnded {s : State} {c : Fin 16} {t : Fin 8} (binder : (s.channel c).binder = .tank t .level)
    (own : ∀ d, (s.channel d).binder = .tank t .level → d = c) : (s.secondEnded c).returning c t =
      if (s.channel c).status = .fault ∧ (s.tank t).set.enabled = true ∧ (s.tank t).phase = .offline then
        { s.tank t with phase := .unknown } else s.tank t := by
  have same (d : Fin 16) : ((s.secondEnded c).channel d).binder = (s.channel d).binder := by
    rw [secondEnded, channel_modChannel]
    split
    · rename_i here
      rw [here]
    · rfl
  have bound : (s.secondEnded c).channelOf (.tank t .level) = some c :=
    channelOf_eq_some ((same c).trans binder) (fun d held => own d ((same d).symm.trans held))
  have status : ((s.secondEnded c).channel c).status = (s.channel c).status := by rw [secondEnded, channel_modChannel_self]
  rw [returning_of_own bound, status]
  rfl

/-- Settles O47: the saturation, the second, the two timeouts of a LEVEL channel, each with its tank. -/
theorem levelChannelSteps : Obligations.LevelChannelSteps := by
  intro c t s o kind binder
  refine ⟨?_, ?_, ?_, ?_, ?_, ?_⟩
  · intro q period due free
    exact exec_levelSaturate o kind period due free
  · intro due none_
    rw [exec_levelSample o binder due, levelSecond_of_none none_]
    rfl
  · intro due periods out
    have nothing : s.levelSecond c t = s.secondEnded c := (levelSecond_of_some periods).trans (levelSample_of_out out)
    rw [exec_levelSample o binder due, nothing]
    rfl
  · intro level clamped due periods within
    have moved := tankMoved_levelSecond periods within
    have channel := channel_levelSecond periods within
    obtain ⟨held, clamps⟩ := moved.held
    obtain ⟨heldAfter, clampedAfter, -⟩ := sampledTank_keeps s.rain.catchment ((s.secondEnded c).returning c t)
      (heldOf (s.tank t).set.shape level) clamped s.partTime
    refine ⟨s.levelSecond c t, exec_levelSample o binder due, ?_, held.trans heldAfter, clamps.trans clampedAfter, ?_, moved.others,
      onlyChanges_levelSecond, moved.serial, ?_⟩
    · rw [channel, if_pos rfl]
      rfl
    · intro d ne
      rw [channel, if_neg ne]
    · intro own
      rw [returning_secondEnded binder own] at moved
      intro k after leaves
      have owner : after.owner = (s.tank t).owner := by
        obtain ⟨-, -, same⟩ := sampledTank_keeps s.rain.catchment k (heldOf (s.tank t).set.shape level) clamped s.partTime
        refine same.trans ?_
        show (if _ then _ else _ : Tank).owner = _
        split <;> rfl
      refine ⟨moved.tank_eq, moved.drainList_eq, ?_, moved.trigger⟩
      intro yes p some is
      exact moved.told yes p (owner.symm ▸ some) (owner.symm ▸ is)
  · intro running due
    exact exec_levelStaleTimeout o binder running due
  · intro sound due
    refine ⟨s.levelFault c t, exec_levelFaultTimeout o binder sound due, ?_, ?_, ?_, ?_, onlyChanges_levelFault⟩
    · rw [channel_levelFault, if_pos rfl]
    · rw [tank_levelFault, if_pos rfl]
    · intro d ne
      rw [channel_levelFault, if_neg ne]
    · intro k ne
      rw [tank_levelFault, if_neg ne]

end Sys2Proof.Machine
end

section
/-! SUPPORT. The release of a channel and what its binder's block hears (R5, R27, R42, R114, R125, R149). -/

namespace Sys2Proof.Machine

namespace State

variable {s : State} {c d : Fin 16} {t : Fin 8} {g : Fin 4}

/-! ### The binder's block is told (R2, R5) -/

theorem resetDrawCheck_eq : s.resetDrawCheck t =
    s.modTank t (fun q => { q with grant := { q.grant with overdraw := false, overCount := 0 } }) := rfl

/-- A block told that it holds no channel any more is what the rules say of it. -/
theorem toldReleased_tellReleased {b : Binder} (free : ∀ k, b = .tank k .level → k ∉ s.drainList) :
    toldReleased s (s.tellReleased b) b := by
  cases b with
  | none => rfl
  | legMeter => rfl
  | gauge g =>
    refine ⟨setAvailability_of_same, fun ne => ?_⟩
    exact evaluated_setAvailability ne
  | tank k r =>
    cases r with
    | level => exact setPhase_of_unlisted (free k rfl)
    | draw => exact resetDrawCheck_eq
    | spill => rfl

/-- What a block hears touches that block alone. -/
theorem onlyChanges_tellReleased_tank {r : Role} (k : Fin 8) :
    onlyChanges [.tanks, .trigger] s (s.tellReleased (.tank k r)) := by
  cases r with
  | level => exact onlyChanges_setPhase (by decide)
  | draw =>
    intro area other
    cases area <;> first | rfl | exact absurd (by simp) other
  | spill => exact onlyChanges_refl _ s

theorem onlyChanges_setAvailability (a : Availability) :
    onlyChanges [.rain, .tanks, .store, .notices, .trigger] s (s.setAvailability g a) := by
  by_cases same : (s.gauge g).avail = a
  · rw [setAvailability_of_same same]
    exact onlyChanges_refl _ s
  · rw [setAvailability_of_ne same]
    have marked : onlyChanges [.rain, .tanks, .store, .notices, .trigger] s (s.modGauge g (Gauge.becoming a)) := by
      intro area other
      cases area <;> first | rfl | exact absurd (by simp) other
    exact onlyChanges_trans marked onlyChanges_evaluate

/-! ### The steps of a release (R5) -/

/-- The release up to the channel's FAULT. -/
def faultLeft (s : State) (c : Fin 16) : State :=
  if ((s.closingEdge c).channel c).status = .fault then (s.closingEdge c).faultChange c false .unbound else s.closingEdge c

/-- The release up to what the block hears. -/
def blockTold (s : State) (c : Fin 16) : State := (s.faultLeft c).tellReleased (s.channel c).binder

theorem releaseChannel_eq : s.releaseChannel c =
    ((s.blockTold c).modChannel c (fun k => unboundChannel.withParams (heldParams k))).dropOwed := rfl

theorem channels_closingEdge : (s.closingEdge c).channels = s.channels := by simp

theorem channel_closingEdge (d : Fin 16) : (s.closingEdge c).channel d = s.channel d := channel_congr channels_closingEdge d

theorem closingEdge_of_quiet (quiet : (∀ k, (s.channel c).binder ≠ .tank k .spill) ∨ (s.channel c).active = false) :
    s.closingEdge c = s := by
  unfold closingEdge
  split
  · rename_i k binder
    have low := quiet.resolve_left (fun none_ => none_ k binder)
    rw [low]
    rfl
  · rfl

theorem closingEdge_of_active (binder : (s.channel c).binder = .tank t .spill) (active : (s.channel c).active = true) :
    s.closingEdge c = s.spillEdge t false := by
  unfold closingEdge
  simp only [binder, active, if_true]

theorem faultReleased_faultLeft : faultReleased (s.closingEdge c) (s.faultLeft c) c := faultReleased_faultChange _ _

theorem channel_faultLeft (d : Fin 16) : (s.faultLeft c).channel d =
    if d = c ∧ (s.channel c).status = .fault then { s.channel c with status := .ok } else s.channel d := by
  unfold faultLeft
  rw [channel_closingEdge]
  by_cases fault : (s.channel c).status = .fault
  · rw [if_pos fault, channel_faultChange, channel_closingEdge, channel_closingEdge]
    simp only [fault, and_true]
    rfl
  · rw [if_neg fault, channel_closingEdge, if_neg (fun both => fault both.2)]

theorem heldParams_faultLeft : heldParams ((s.faultLeft c).channel c) = heldParams (s.channel c) := by
  rw [channel_faultLeft]
  split <;> rfl

theorem channel_blockTold (d : Fin 16) : (s.blockTold c).channel d = (s.faultLeft c).channel d := channel_congr (by simp [blockTold]) d

/-- A release leaves its channel unbound with its parameters, and the others as they are. -/
theorem channel_releaseChannel (d : Fin 16) :
    (s.releaseChannel c).channel d = if d = c then releasedChannel (s.channel c) else s.channel d := by
  have channels : (s.releaseChannel c).channels =
      ((s.blockTold c).modChannel c (fun k => unboundChannel.withParams (heldParams k))).channels := rfl
  rw [channel_congr channels, channel_modChannel, channel_blockTold, channel_blockTold, heldParams_faultLeft]
  by_cases here : d = c
  · rw [if_pos here, if_pos here]
    rfl
  · rw [if_neg here, if_neg here, channel_faultLeft, if_neg (fun both => here both.1)]

theorem drainList_congr {u : State} (drains : u.drains = s.drains) : u.drainList = s.drainList := (congrArg Prod.fst drains :)

theorem drains_faultLeft : (s.faultLeft c).drains = s.drains := by
  unfold faultLeft
  split <;> simp

/-- A release is what the rules say of it, the channel itself aside. -/
theorem blockReleased_releaseChannel (free : ∀ k, (s.channel c).binder = .tank k .level → k ∉ s.drainList) :
    blockReleased s (s.releaseChannel c) c := by
  refine ⟨s.closingEdge c, s.faultLeft c, s.blockTold c, closingEdge_of_quiet, ?_, ?_, ?_, ?_, rfl, ?_⟩
  · intro k binder active
    rw [closingEdge_of_active binder active]
    exact switched_spillEdge _ _ _
  · exact faultReleased_faultLeft
  · refine toldReleased_tellReleased fun k binder => ?_
    rw [drainList_congr drains_faultLeft]
    exact free k binder
  · rw [releaseChannel_eq]
    intro area other
    cases area <;> first | rfl | exact absurd (by simp) other
  · intro o
    have enabled : (s.releaseChannel c).outfallEnabled =
        ((s.blockTold c).modChannel c (fun k => unboundChannel.withParams (heldParams k))).outfallEnabled :=
      outfallEnabled_congr rfl rfl
    rw [enabled]
    exact List.mem_filter

/-! ### What a release touches, by its binder -/

theorem onlyChanges_closingEdge : onlyChanges [.spill, .tanks, .store, .notices, .trigger] s (s.closingEdge c) := by
  unfold closingEdge
  split
  · split
    · exact onlyChanges_spillEdge
    · exact onlyChanges_refl _ s
  · exact onlyChanges_refl _ s

theorem onlyChanges_faultLeft_of_quiet (quiet : ∀ k, (s.channel c).binder ≠ .tank k .spill) :
    onlyChanges [.channels, .store, .notices] s (s.faultLeft c) := by
  unfold faultLeft
  rw [closingEdge_of_quiet (.inl quiet)]
  split
  · exact onlyChanges_faultChange
  · exact onlyChanges_refl _ s

theorem onlyChanges_faultLeft : onlyChanges [.channels, .spill, .tanks, .store, .notices, .trigger] s (s.faultLeft c) := by
  unfold faultLeft
  have edge := onlyChanges_mono (more := [.channels, .spill, .tanks, .store, .notices, .trigger]) (by decide)
    (onlyChanges_closingEdge (s := s) (c := c))
  split
  · exact onlyChanges_trans edge (onlyChanges_mono (by decide) onlyChanges_faultChange)
  · exact edge

theorem onlyChanges_unbinding : onlyChanges [.channels, .store] (s.blockTold c) (s.releaseChannel c) := by
  rw [releaseChannel_eq]
  intro area other
  cases area <;> first | rfl | exact absurd (by simp) other

theorem onlyChanges_releaseChannel_tank {r : Role} (binder : (s.channel c).binder = .tank t r) :
    onlyChanges [.channels, .spill, .tanks, .store, .notices, .trigger] s (s.releaseChannel c) := by
  have told : onlyChanges [.tanks, .trigger] (s.faultLeft c) (s.blockTold c) := by
    rw [blockTold, binder]
    exact onlyChanges_tellReleased_tank t
  exact onlyChanges_trans (onlyChanges_trans onlyChanges_faultLeft (onlyChanges_mono (by decide) told))
    (onlyChanges_mono (by decide) onlyChanges_unbinding)

theorem onlyChanges_releaseChannel_gauge (binder : (s.channel c).binder = .gauge g) :
    onlyChanges [.channels, .tanks, .rain, .store, .notices, .trigger] s (s.releaseChannel c) := by
  have told : onlyChanges [.rain, .tanks, .store, .notices, .trigger] (s.faultLeft c) (s.blockTold c) := by
    rw [blockTold, binder]
    exact onlyChanges_setAvailability _
  exact onlyChanges_trans
    (onlyChanges_trans (onlyChanges_mono (by decide) (onlyChanges_faultLeft_of_quiet (by simp [binder])))
      (onlyChanges_mono (by decide) told)) (onlyChanges_mono (by decide) onlyChanges_unbinding)

theorem onlyChanges_releaseChannel_legMeter (binder : (s.channel c).binder = .legMeter) :
    onlyChanges [.channels, .leg, .store, .notices] s (s.releaseChannel c) := by
  have told : onlyChanges [.leg] (s.faultLeft c) (s.blockTold c) := by
    rw [blockTold, binder]
    intro area other
    cases area <;> first | rfl | exact absurd (by simp) other
  exact onlyChanges_trans
    (onlyChanges_trans (onlyChanges_mono (by decide) (onlyChanges_faultLeft_of_quiet (by simp [binder])))
      (onlyChanges_mono (by decide) told)) (onlyChanges_mono (by decide) onlyChanges_unbinding)

end State

end Sys2Proof.Machine
end

section
/-! SUPPORT. A channel kept with new parameters, and a channel taken by a binder (R1, R2, R7, R9). -/

namespace Sys2Proof.Machine

/-! ### Parameters (R1, R2) -/

theorem clamp_eq (low high v : Nat) : clamp low high v = max low (min high v) := rfl

theorem taking_eq (k : Channel) (kind : Kind) (p : ChannelParams) :
    k.withParams (takeParams kind (heldParams k) p) = k.taking kind p := by
  have lockout : clamp 0 2000 p.lockout = min 2000 p.lockout := Nat.zero_max _
  simp only [takeParams, lockout]
  rfl

theorem paramsClamped_eq_false_iff (kind : Kind) (p : ChannelParams) : paramsClamped kind p = false ↔ paramsFit kind p := by
  obtain ⟨activeLow, debounce, lockout, gate, tenths⟩ := p
  have inRange (low high v : Nat) (le : low ≤ high) : clamp low high v = v ↔ low ≤ v ∧ v ≤ high := by
    unfold clamp
    omega
  simp only [paramsClamped, decide_eq_false_iff_not, ne_eq, not_not, takeParams, ChannelParams.mk.injEq, true_and, paramsFit]
  rw [inRange 1 50 debounce (by decide)]
  by_cases rain : kind = .rain
  · simp [rain, inRange]
    tauto
  · by_cases flow : kind = .flow
    · simp [flow, inRange]
      tauto
    · simp [rain, flow]

namespace State

variable {s : State} {c d : Fin 16} {t : Fin 8} {g : Fin 4} {b : Binder} {sent : ChannelParams}

/-! ### A channel kept (R9) -/

/-- A channel with its parameters replaced, its polarity minded (R9). -/
def repolarized (s : State) (k : Channel) (p : ChannelParams) : Channel :=
  if k.activeLow = p.activeLow then k.withParams p
  else { k.withParams p with settled := false, since := some s.clock, level := { k.level with period := none } }

theorem changeParams_eq (p : ChannelParams) : s.changeParams c p =
    if (s.channel c).kind = .flow ∧ ((s.channel c).gate ≠ p.gate ∨ (s.channel c).tenths ≠ p.tenths) then
      s.modChannel c (fun k => { s.repolarized k p with flow := { k.flow with pulses := 0, gateStart := s.partTime } })
    else s.modChannel c (fun k => s.repolarized k p) := by
  have polarized : (if (heldParams (s.channel c)).activeLow = p.activeLow then s.modChannel c (fun k => k.withParams p)
      else (s.modChannel c (fun k => k.withParams p)).modChannel c (fun k =>
        { k with settled := false, since := some s.clock, level := { k.level with period := none } })) =
      s.modChannel c (fun k => s.repolarized k p) := by
    by_cases same : (s.channel c).activeLow = p.activeLow
    · refine (if_pos same).trans (modChannel_congr ?_)
      exact (if_pos same).symm
    · refine (if_neg same).trans ?_
      rw [modChannel_modChannel]
      refine modChannel_congr ?_
      exact (if_neg same).symm
  have kind : ((s.modChannel c (fun k => s.repolarized k p)).channel c).kind = (s.channel c).kind := by
    rw [channel_modChannel_self]
    unfold repolarized
    split <;> rfl
  have flow : ∀ k : Channel, (s.repolarized k p).flow = k.flow := by
    intro k
    unfold repolarized
    split <;> rfl
  unfold changeParams
  dsimp only
  have clock : (s.modChannel c (fun k => k.withParams p)).clock = s.clock := rfl
  rw [clock, polarized, kind]
  have held : (heldParams (s.channel c)).gate = (s.channel c).gate ∧ (heldParams (s.channel c)).tenths = (s.channel c).tenths :=
    ⟨rfl, rfl⟩
  rw [held.1, held.2]
  refine if_congr Iff.rfl ?_ rfl
  rw [modChannel_modChannel]
  exact modChannel_congr (by rw [flow]; rfl)

theorem repolarized_taking (k : Channel) : s.repolarized k (takeParams (binderKind b) (heldParams k) sent) =
    { k.taking (binderKind b) sent with
      settled := if k.activeLow = sent.activeLow then k.settled else false
      since := if k.activeLow = sent.activeLow then k.since else some s.clock
      level := if k.activeLow = sent.activeLow then k.level else { k.level with period := none } } := by
  unfold repolarized
  rw [taking_eq]
  by_cases same : k.activeLow = sent.activeLow
  · simp only [if_pos same]
    exact if_pos same
  · simp only [if_neg same]
    exact if_neg same

/-- A channel kept is what the rules say of it. -/
theorem changeParams_taking : s.changeParams c (takeParams (binderKind b) (heldParams (s.channel c)) sent) =
    s.modChannel c (fun k => keptChannel s k b sent) := by
  have gate : (takeParams (binderKind b) (heldParams (s.channel c)) sent).gate = ((s.channel c).taking (binderKind b) sent).gate := by
    rw [← taking_eq]
    rfl
  have tenths : (takeParams (binderKind b) (heldParams (s.channel c)) sent).tenths =
      ((s.channel c).taking (binderKind b) sent).tenths := by
    rw [← taking_eq]
    rfl
  rw [changeParams_eq, gate, tenths]
  by_cases moved : (s.channel c).kind = .flow ∧ ((s.channel c).gate ≠ ((s.channel c).taking (binderKind b) sent).gate
      ∨ (s.channel c).tenths ≠ ((s.channel c).taking (binderKind b) sent).tenths)
  · rw [if_pos moved]
    refine modChannel_congr ?_
    simp only [repolarized_taking, keptChannel, if_pos moved]
  · rw [if_neg moved]
    refine modChannel_congr ?_
    simp only [repolarized_taking, keptChannel, if_neg moved]
    rfl

/-! ### A channel taken (R2, R7) -/

/-- The binder's old channel released, if it holds one. -/
def freed (s : State) (b : Binder) : State := s.releaseBinder b

/-- The channel given to its binder and started. -/
def bound (s : State) (b : Binder) (c : Fin 16) (sent : ChannelParams) : State :=
  ((s.freed b).modChannel c (fun k =>
    ({ k with kind := binderKind b, binder := b } : Channel).withParams (takeParams (binderKind b) (heldParams k) sent))).startChannel c

theorem takeChannel_eq : s.takeChannel b c sent = (s.bound b c sent).tellBound b := rfl

theorem freed_of_none (none_ : ∀ d, (s.channel d).binder ≠ b) : s.freed b = s := by
  unfold freed releaseBinder
  rw [channelOf_eq_none_iff.mpr none_]

theorem freed_of_some (held : s.channelOf b = some d) : s.freed b = s.releaseChannel d := by
  unfold freed releaseBinder
  rw [held]

theorem outer_freed : (s.freed b).outer = s.outer := by
  unfold freed releaseBinder
  split <;> simp

/-- The channels that another binder, or none, holds stand at a release. -/
theorem channel_freed_of_other (other : (s.channel d).binder ≠ b) : (s.freed b).channel d = s.channel d := by
  cases held : s.channelOf b with
  | none => rw [freed_of_none (channelOf_eq_none_iff.mp held)]
  | some e =>
    have ne : d ≠ e := by
      rintro rfl
      exact other (binder_of_channelOf held)
    rw [freed_of_some held, channel_releaseChannel, if_neg ne]

theorem channel_freed_of_held (own : ∀ d e, (s.channel d).binder = b → (s.channel e).binder = b → d = e)
    (held : (s.channel d).binder = b) : (s.freed b).channel d = releasedChannel (s.channel d) := by
  have of : s.channelOf b = some d := channelOf_eq_some held (fun e holds => own e d holds held)
  rw [freed_of_some of, channel_releaseChannel, if_pos rfl]

/-- A channel taken is what the rules say of it. -/
theorem channel_bound (free : (s.channel c).binder ≠ b) : (s.bound b c sent).channel c = startedChannel s (s.channel c) b sent := by
  obtain ⟨-, clock, -⟩ := outer_eq_iff.mp (outer_freed (s := s) (b := b))
  have stands := channel_freed_of_other free
  have now : (s.freed b).partTime = s.partTime := by simp only [partTime, clock]
  unfold bound startChannel
  rw [channel_modChannel_self, channel_modChannel_self, stands]
  have held : heldParams (s.channel c) = heldParams ({ s.channel c with kind := binderKind b, binder := b } : Channel) := rfl
  have clock' (f : Channel → Channel) : ((s.freed b).modChannel c f).clock = s.clock := clock
  have now' (f : Channel → Channel) : ((s.freed b).modChannel c f).partTime = s.partTime := now
  rw [held, taking_eq, clock', now']
  rfl

theorem channel_bound_of_ne (ne : d ≠ c) : (s.bound b c sent).channel d = (s.freed b).channel d := by
  unfold bound startChannel
  rw [channel_modChannel_ne ne, channel_modChannel_ne ne]

theorem channel_takeChannel (d : Fin 16) : (s.takeChannel b c sent).channel d = (s.bound b c sent).channel d :=
  channel_congr (by rw [takeChannel_eq]; simp) d

theorem onlyChanges_bound : onlyChanges [.channels] (s.freed b) (s.bound b c sent) := by
  intro area other
  cases area <;> first | rfl | exact absurd (by simp) other

/-! ### The block hears of its channel (R2, R24, R27) -/

theorem put_get {α : Type} {n : Nat} (v : Vector α n) (i : Fin n) : put v i (v.get i) = v := by
  simp [put, Vector.get_eq_getElem]

theorem modTank_of_same {f : Tank → Tank} (same : f (s.tank t) = s.tank t) : s.modTank t f = s := by
  unfold modTank
  rw [same]
  have back : put s.tanks t (s.tank t) = s.tanks := put_get _ _
  rw [back]

theorem modTank_congr {f h : Tank → Tank} (same : f (s.tank t) = h (s.tank t)) : s.modTank t f = s.modTank t h := by
  simp only [modTank, same]

/-- A tank whose level channel is sound leaves OFFLINE where it is enabled. -/
theorem leaveOffline_of_sound (sound : s.levelSound t = true) : s.leaveOffline t = s.modTank t (fun q =>
    { q with phase := if q.set.enabled = true ∧ q.phase = .offline then .unknown else q.phase }) := by
  rw [leaveOffline_eq]
  by_cases leaves : (s.tank t).set.enabled = true ∧ (s.tank t).phase = .offline
  · obtain ⟨enabled, offline⟩ := leaves
    rw [if_pos ⟨enabled, sound, offline⟩]
    refine modTank_congr ?_
    simp only [enabled, offline, and_self, if_true]
  · rw [if_neg (fun all => leaves ⟨all.1, all.2.2⟩)]
    refine (modTank_of_same ?_).symm
    simp only [if_neg leaves]

/-- A block told of a new binding is what the rules say of it. -/
theorem toldBound_tellBound (sound : ∀ k, b = .tank k .level → s.levelSound k = true) : toldBound s (s.tellBound b) b := by
  cases b with
  | none => rfl
  | legMeter => rfl
  | gauge g =>
    refine ⟨setAvailability_of_same, fun ne => ?_⟩
    exact evaluated_setAvailability ne
  | tank k r =>
    cases r with
    | level => exact leaveOffline_of_sound (sound k rfl)
    | draw => exact resetDrawCheck_eq
    | spill => rfl

theorem onlyChanges_tellBound_tank {r : Role} : onlyChanges [.tanks] s (s.tellBound (.tank t r)) := by
  cases r with
  | level =>
    have left : s.tellBound (.tank t .level) = s.leaveOffline t := rfl
    rw [left, leaveOffline_eq]
    split
    · intro area other
      cases area <;> first | rfl | exact absurd (by simp) other
    · exact onlyChanges_refl _ s
  | draw =>
    intro area other
    cases area <;> first | rfl | exact absurd (by simp) other
  | spill => exact onlyChanges_refl _ s

end State

end Sys2Proof.Machine
end

section
/-! SUPPORT. The binding orders of a site and of the RECORD port (R2, R3, R4, R5). -/

namespace Sys2Proof.Machine

/-- The order's rule, the changed flag aside, marks what it leaves at most as changed (R185). -/
theorem exists_marking {f : State → Answer} {s t : State} {c : Code} (rule : f s = answer t c) :
    ∃ u, marking f s = answer u c ∧ onlyChanges [.save] t u := by
  by_cases same : t.workingSettings = s.workingSettings
  · exact ⟨t, marking_of_same rule same, onlyChanges_refl _ t⟩
  · refine ⟨t.marked, marking_of_changed rule same, ?_⟩
    intro area other
    cases area <;> first | rfl | exact absurd (by simp) other

namespace State

variable {s : State} {c d : Fin 16} {t : Fin 8} {b : Binder} {sent : ChannelParams} {target : Option (Fin 16)}

/-! ### The binder's channels around a binding -/

theorem channelOf_bound (free : (s.channel c).binder ≠ b) (bound_ : b ≠ .none)
    (own : ∀ d e, (s.channel d).binder = b → (s.channel e).binder = b → d = e) : (s.bound b c sent).channelOf b = some c := by
  refine channelOf_eq_some ?_ ?_
  · rw [channel_bound free]
    rfl
  · intro d holds
    by_contra ne
    rw [channel_bound_of_ne ne] at holds
    by_cases held : (s.channel d).binder = b
    · rw [channel_freed_of_held own held] at holds
      exact bound_ holds.symm
    · rw [channel_freed_of_other held] at holds
      exact held holds

theorem levelSound_bound (free : (s.channel c).binder ≠ b)
    (own : ∀ d e, (s.channel d).binder = b → (s.channel e).binder = b → d = e) (k : Fin 8) (level : b = .tank k .level) :
    (s.bound b c sent).levelSound k = true := by
  subst level
  have of := channelOf_bound (sent := sent) free (by simp) own
  rw [levelSound_of_channelOf of, channel_bound free]
  exact show ChannelStatus.ok ≠ .fault by decide

/-- The binder of a tank's role or of a gauge. -/
def ofTankOrGauge : Binder → Prop
  | .tank _ _ => True
  | .gauge _ => True
  | _ => False

theorem onlyChanges_releaseChannel (binder : (s.channel c).binder = b) (owned : ofTankOrGauge b) :
    onlyChanges [.channels, .tanks, .rain, .spill, .store, .notices, .trigger] s (s.releaseChannel c) := by
  cases b with
  | none => exact owned.elim
  | legMeter => exact owned.elim
  | tank k r => exact onlyChanges_mono (by decide) (onlyChanges_releaseChannel_tank binder)
  | gauge g => exact onlyChanges_mono (by decide) (onlyChanges_releaseChannel_gauge binder)

theorem onlyChanges_freed (owned : ofTankOrGauge b) :
    onlyChanges [.channels, .tanks, .rain, .spill, .store, .notices, .trigger] s (s.freed b) := by
  cases held : s.channelOf b with
  | none =>
    rw [freed_of_none (channelOf_eq_none_iff.mp held)]
    exact onlyChanges_refl _ s
  | some d =>
    rw [freed_of_some held]
    exact onlyChanges_releaseChannel (binder_of_channelOf held) owned

theorem onlyChanges_tellBound (owned : ofTankOrGauge b) :
    onlyChanges [.channels, .tanks, .rain, .spill, .store, .notices, .trigger] s (s.tellBound b) := by
  cases b with
  | none => exact owned.elim
  | legMeter => exact owned.elim
  | tank k r => exact onlyChanges_mono (by decide) onlyChanges_tellBound_tank
  | gauge g => exact onlyChanges_mono (by decide) (onlyChanges_setAvailability _)

theorem onlyChanges_takeChannel (owned : ofTankOrGauge b) :
    onlyChanges [.channels, .tanks, .rain, .spill, .store, .notices, .trigger] s (s.takeChannel b c sent) :=
  onlyChanges_trans (onlyChanges_trans (onlyChanges_freed owned) (onlyChanges_mono (by decide) onlyChanges_bound))
    (onlyChanges_tellBound owned)

end State

/-! ### The rule of a binding order (R2) -/

/-- The level role of a listed tank keeps its channel (R3). -/
def heldFast (s : State) (binder : Binder) (target : Option (Fin 16)) : Bool :=
  match binder with
  | .tank t r => levelHeldFast s t r target
  | _ => false

/-- What a binding order answers, its tank, role and gauge aside (R2, R3). -/
def bindingAnswer (binder : Binder) (named : Byte) (params : ChannelParams) (s : State) : Answer :=
  match indexOrFF 16 named with
  | none => answer s .refusedRange
  | some target => if heldFast s binder target then answer s .refusedState else bindAnswer binder target params s

section Rule

variable {s : State} {b : Bundle} {h : Head} {i : Instr} {binder : Binder} {named polarity debounce : Byte} {c : Fin 16}
  {params : ChannelParams}

theorem heldFast_eq_false_of_not_listed (not : ¬ levelListed s binder) (target : Option (Fin 16)) : heldFast s binder target = false := by
  cases binder with
  | tank t r =>
    have free : ¬ (r = .level ∧ t ∈ s.drainList) := by
      rintro ⟨rfl, listed⟩
      exact not ⟨t, rfl, listed⟩
    have apart : (decide (r = .level) && s.listed t) = false := by
      rw [Bool.eq_false_iff, ne_eq, Bool.and_eq_true, decide_eq_true_eq, State.listed_iff]
      exact free
    simp only [heldFast, levelHeldFast, apart, Bool.false_and]
  | _ => rfl

theorem heldFast_of_listed {target : Option (Fin 16)} (listed : levelListed s binder)
    (moves : ∀ c, target = some c → (s.channel c).binder ≠ binder) : heldFast s binder target = true := by
  obtain ⟨t, rfl, mem⟩ := listed
  have apart : (target.isSome && decide (s.channelOf (.tank t .level) = target)) = false := by
    cases target with
    | none => rfl
    | some c =>
      rw [Option.isSome_some, Bool.true_and, decide_eq_false_iff_not]
      exact fun of => moves c rfl (State.binder_of_channelOf of)
  simp [heldFast, levelHeldFast, State.listed_iff.mpr mem, apart]

theorem heldFast_of_held (held : s.channelOf binder = some c) : heldFast s binder (some c) = false := by
  cases binder with
  | tank t r =>
    by_cases level : r = .level
    · subst level
      simp [heldFast, levelHeldFast, held]
    · simp [heldFast, levelHeldFast, level]
  | _ => rfl

theorem bindingAnswer_of_range (out : 16 ≤ named.toNat) (some_ : named ≠ 255#8) :
    bindingAnswer binder named params s = answer s .refusedRange := by
  simp only [bindingAnswer, indexOrFF_of_le out some_]

theorem bindingAnswer_of_named (named_ : c.val = named.toNat) : bindingAnswer binder named params s =
    if heldFast s binder (some c) then answer s .refusedState else bindAnswer binder (some c) params s := by
  simp only [bindingAnswer, indexOrFF_of_val (by decide) named_]

theorem bindingAnswer_of_ff : bindingAnswer binder 255#8 params s =
    if heldFast s binder none then answer s .refusedState else bindAnswer binder none params s := by
  simp only [bindingAnswer, indexOrFF_ff]

theorem bindAnswer_of_claimed (claimed : (s.channel c).binder ≠ .none) (other : (s.channel c).binder ≠ binder) :
    bindAnswer binder (some c) params s = answer s .refusedClaimed := by
  simp [bindAnswer, State.claimedByOther, claimed, other]

/-- The code of a binding: DONE where no parameter was moved. -/
def bindingCode (binder : Binder) (params : ChannelParams) : Code :=
  if paramsClamped (binderKind binder) params then .doneClamped else .done

theorem bindingCode_cases (binder : Binder) (params : ChannelParams) :
    bindingCode binder params = .done ∨ bindingCode binder params = .doneClamped := by
  unfold bindingCode
  split
  · exact .inr rfl
  · exact .inl rfl

theorem bindingCode_eq_done_iff : bindingCode binder params = .done ↔ paramsFit (binderKind binder) params := by
  rw [← paramsClamped_eq_false_iff]
  unfold bindingCode
  cases paramsClamped (binderKind binder) params <;> simp

theorem bindAnswer_of_free (free : (s.channel c).binder = .none) (bound : binder ≠ .none) :
    bindAnswer binder (some c) params s = answer (s.takeChannel binder c params) (bindingCode binder params) := by
  simp [bindAnswer, State.claimedByOther, free, doneOr, State.applyBinding, bound.symm, bindingCode]

theorem bindAnswer_of_held (held : (s.channel c).binder = binder) : bindAnswer binder (some c) params s =
    answer (s.changeParams c (takeParams (binderKind binder) (heldParams (s.channel c)) params)) (bindingCode binder params) := by
  simp [bindAnswer, State.claimedByOther, held, doneOr, State.applyBinding, bindingCode]

theorem bindAnswer_none : bindAnswer binder none params s = answer (s.freed binder) .done := by
  have applied : s.applyBinding binder none params = s.freed binder := by
    unfold State.applyBinding State.freed State.releaseBinder
    cases s.channelOf binder <;> rfl
  simp [bindAnswer, State.claimedByOther, doneOr, applied]

/-- An order that binds has the rule of its binder. -/
theorem exists_bindingRule (admitted : Admitted i h s b) (order : bindingOrder i h s binder named polarity debounce) :
    ∃ rule, exec i s = .next (takeOrder i h (orderForm i) (marking rule) s)
      ∧ rule (s.during b) = bindingAnswer binder named (carriedParams i) (s.during b) ∧ State.ofTankOrGauge binder
      ∧ (carriedParams i).activeLow = decide (polarity.toNat % 2 = 1) ∧ (carriedParams i).debounce = debounce.toNat := by
  rcases order with ⟨x, r, v, t, role, rfl, tank, is, owner, rfl, rfl, rfl, rfl⟩ | ⟨x, v, g, rfl, gauge, rfl, rfl, rfl, rfl⟩
  · refine ⟨channelBindRule h.port x r v, rfl, ?_, trivial, rfl, rfl⟩
    have owned : ((s.during b).tank t).owner = portOwner h.port := owner
    have site : h.port ∈ sitePorts := admitted.role
    have rule : channelBindRule h.port x r v (s.during b) = channelBindAnswer role v t (s.during b) := by
      simp only [channelBindRule, is]
      exact ownTank_of_owner tank site owned
    rw [rule]
    unfold channelBindAnswer bindingAnswer
    cases indexOrFF 16 v.channel <;> rfl
  · refine ⟨gaugeBindAnswer x v, rfl, ?_, trivial, rfl, rfl⟩
    have index := index_of_val (n := 4) gauge
    unfold gaugeBindAnswer bindingAnswer
    rw [index]
    cases indexOrFF 16 v.channel <;> rfl

end Rule

end Sys2Proof.Machine
end

section
/-! SUPPORT. The obligations of the binding orders (R2 to R5, R7, R9). -/

namespace Sys2Proof.Machine

section Orders

variable {s : State} {b : Bundle} {h : Head} {i : Instr} {binder : Binder} {named polarity debounce : Byte} {c : Fin 16}

theorem exec_binding {t : State} {code : Code} (admitted : Admitted i h s b)
    (order : bindingOrder i h s binder named polarity debounce)
    (rule : bindingAnswer binder named (carriedParams i) (s.during b) = answer t code) :
    ∃ u, exec i s = answered u code [] b ∧ onlyChanges [.save] t u := by
  obtain ⟨body, form, eq, -⟩ := exists_bindingRule (b := b) admitted order
  obtain ⟨u, marks, frame⟩ := exists_marking (eq.trans rule)
  exact ⟨u, exec_of_rule form admitted marks, frame⟩

theorem exec_binding_refused {code : Code} (admitted : Admitted i h s b)
    (order : bindingOrder i h s binder named polarity debounce)
    (rule : bindingAnswer binder named (carriedParams i) (s.during b) = answer (s.during b) code) :
    exec i s = answered (s.during b) code [] b := by
  obtain ⟨body, form, eq, -⟩ := exists_bindingRule (b := b) admitted order
  exact exec_of_rule form admitted (marking_of_refused (eq.trans rule))

theorem taking_activeLow (k : Channel) (kind : Kind) (p : ChannelParams) :
    (k.taking kind p).activeLow = p.activeLow ∧ (k.taking kind p).debounce = max 1 (min 50 p.debounce) := ⟨rfl, rfl⟩

/-- The number of a channel is no 0xFF. -/
theorem ne_ff_of_named (is : c.val = named.toNat) : named ≠ 255#8 := by
  rintro rfl
  have lt := c.isLt
  have value : (255#8).toNat = 255 := rfl
  omega

end Orders

open State

/-- Settles O38: the checks in their order, and a free channel taken by its binder. -/
theorem bindingTakesAChannel : Obligations.BindingTakesAChannel := by
  intro h s b i binder named polarity debounce admitted order
  obtain ⟨-, -, -, owned, active, held⟩ := exists_bindingRule (b := b) admitted order
  refine ⟨?_, ?_, ?_⟩
  · intro out some_
    exact exec_binding_refused admitted order (bindingAnswer_of_range out some_)
  · intro listed moves
    refine exec_binding_refused admitted order ?_
    rcases moves with rfl | ⟨c, is, other⟩
    · rw [bindingAnswer_of_ff, if_pos (heldFast_of_listed (s := s.during b) listed (by simp))]
    · refine (bindingAnswer_of_named is).trans (if_pos (heldFast_of_listed (s := s.during b) listed ?_))
      intro d same
      obtain rfl := Option.some.inj same
      exact other
  · intro free c is
    have judged : bindingAnswer binder named (carriedParams i) (s.during b) =
        bindAnswer binder (some c) (carriedParams i) (s.during b) := by
      rw [bindingAnswer_of_named is, heldFast_eq_false_of_not_listed (s := s.during b) free]
      rfl
    refine ⟨?_, ?_⟩
    · intro claimed other
      exact exec_binding_refused admitted order (judged.trans (bindAnswer_of_claimed claimed other))
    · intro unbound own
      have bound : binder ≠ .none := by
        rintro rfl
        exact owned
      have freeHere : ((s.during b).channel c).binder ≠ binder := fun same => bound (same.symm.trans unbound)
      obtain ⟨u, taken, frame⟩ := exec_binding admitted order
        (judged.trans (bindAnswer_of_free (s := s.during b) unbound bound))
      have channel (d : Fin 16) : u.channel d = ((s.during b).bound binder c (carriedParams i)).channel d :=
        (channel_congr (frame .channels (by decide)) d).trans (channel_takeChannel d)
      have here : u.channel c = startedChannel s (s.channel c) binder (carriedParams i) :=
        (channel c).trans (channel_bound (s := s.during b) freeHere)
      refine ⟨u, bindingCode binder (carriedParams i), taken, bindingCode_cases _ _, ?_, ?_, ?_, ?_, ?_, ?_, ?_, ?_, here,
        bindingCode_eq_done_iff, ?_, ?_, ?_, ?_⟩
      · rw [here]; rfl
      · rw [here]; rfl
      · rw [here]; rfl
      · rw [here]; rfl
      · rw [here]; rfl
      · rw [here]; rfl
      · rw [here, ← active]; rfl
      · rw [here, ← held]; rfl
      · intro d holds
        have ne : d ≠ c := by
          rintro rfl
          exact freeHere holds
        have released := channel_freed_of_held (s := s.during b) own holds
        rw [channel, channel_bound_of_ne ne, released]
        exact ⟨rfl, rfl⟩
      · intro d ne other
        rw [channel, channel_bound_of_ne ne]
        exact channel_freed_of_other (s := s.during b) other
      · exact onlyChanges_trans (onlyChanges_mono (by decide) (onlyChanges_takeChannel (s := s.during b) owned))
          (onlyChanges_mono (by decide) frame)
      · refine ⟨(s.during b).freed binder, (s.during b).bound binder c (carriedParams i),
          (s.during b).takeChannel binder c (carriedParams i), fun none_ => freed_of_none (s := s.during b) none_, ?_, onlyChanges_bound, ?_, frame⟩
        · intro d holds
          have of : (s.during b).channelOf binder = some d := channelOf_eq_some holds (fun e also => own e d also holds)
          rw [freed_of_some of]
          refine blockReleased_releaseChannel fun k level listed => free ⟨k, ?_, listed⟩
          exact holds.symm.trans level
        · exact toldBound_tellBound (fun k level => levelSound_bound freeHere own k level)

/-- Settles O39: a channel kept with new parameters, or released; a role and a gauge out of range refused. -/
theorem bindingKeepsOrReleases : Obligations.BindingKeepsOrReleases := by
  intro h s b
  refine ⟨?_, ?_, ?_⟩
  · intro i binder named polarity debounce admitted order
    obtain ⟨-, -, -, owned, active, held⟩ := exists_bindingRule (b := b) admitted order
    have letGo (ff : named = 255#8) (free : ¬ levelListed s binder) :
        bindingAnswer binder named (carriedParams i) (s.during b) = answer ((s.during b).freed binder) .done := by
      rw [ff, bindingAnswer_of_ff, heldFast_eq_false_of_not_listed (s := s.during b) free, ← bindAnswer_none]
      rfl
    refine ⟨?_, ?_⟩
    · intro ff free none_
      refine exec_binding_refused admitted order ((letGo ff free).trans ?_)
      rw [freed_of_none (s := s.during b) none_]
    · intro c only
      have holds : ((s.during b).channel c).binder = binder := (only c).mpr rfl
      have of : (s.during b).channelOf binder = some c := channelOf_eq_some holds (fun d also => (only d).mp also)
      refine ⟨?_, ?_⟩
      · intro ff free
        obtain ⟨u, taken, frame⟩ := exec_binding admitted order (letGo ff free)
        rw [freed_of_some of] at frame
        have channel (d : Fin 16) : u.channel d = ((s.during b).releaseChannel c).channel d :=
          channel_congr (frame .channels (by decide)) d
        refine ⟨u, taken, ?_, ?_, ?_, (s.during b).releaseChannel c, ?_, frame⟩
        · rw [channel, channel_releaseChannel, if_pos rfl]
          rfl
        · intro d ne
          rw [channel, channel_releaseChannel, if_neg ne]
          rfl
        · exact onlyChanges_trans (onlyChanges_mono (by decide) (onlyChanges_releaseChannel holds owned))
            (onlyChanges_mono (by decide) frame)
        · exact blockReleased_releaseChannel fun k level listed => free ⟨k, holds.symm.trans level, listed⟩
      · intro is
        have judged : bindingAnswer binder named (carriedParams i) (s.during b) =
            bindAnswer binder (some c) (carriedParams i) (s.during b) := by
          rw [bindingAnswer_of_named is, heldFast_of_held of]
          rfl
        obtain ⟨u, taken, frame⟩ := exec_binding admitted order (judged.trans (bindAnswer_of_held holds))
        rw [changeParams_taking] at frame
        have channel (d : Fin 16) : u.channel d =
            ((s.during b).modChannel c (fun k => keptChannel (s.during b) k binder (carriedParams i))).channel d :=
          channel_congr (frame .channels (by decide)) d
        have here : u.channel c = keptChannel s (s.channel c) binder (carriedParams i) :=
          (channel c).trans (channel_modChannel_self _)
        refine ⟨u, _, taken, bindingCode_cases _ _, bindingCode_eq_done_iff, here, ?_, ?_, ?_, ?_⟩
        · rw [here, ← active]; rfl
        · rw [here, ← held]; rfl
        · intro d ne
          exact (channel d).trans (channel_modChannel_ne ne _)
        · exact onlyChanges_trans (onlyChanges_mono (by decide) (onlyChanges_modChannel _)) (onlyChanges_mono (by decide) frame)
  · intro x r v admitted out
    have none_ : roleOf r = none := by
      unfold roleOf
      split <;> first | omega | rfl
    refine exec_of_rule rfl admitted (marking_of_refused ?_)
    simp only [channelBindRule, none_]
  · intro x v admitted out
    refine exec_of_rule rfl admitted (marking_of_refused ?_)
    simp only [gaugeBindAnswer, index_of_le out]

end Sys2Proof.Machine
end

section
/-! SUPPORT. The release of a tank's channels and of the tank (R5, R22, R109, R114, R122). -/

namespace Sys2Proof.Machine

/-- A tank but for what the release of its channels writes: phase, spilling field, band, weight and draw check. -/
def Tank.standing (k : Tank) : Tank :=
  { k with phase := .offline, spilling := false, band := 0, weight := 0
           grant := { k.grant with overdraw := false, overCount := 0 } }

/-- A tank that hears that one of its roles holds no channel any more. -/
def Tank.releasing (k : Tank) : Role → Tank
  | .level => { k with phase := .offline }
  | .draw => { k with grant := { k.grant with overdraw := false, overCount := 0 } }
  | .spill => k

namespace State

variable {s : State} {c d : Fin 16} {t x : Fin 8} {r : Role} {b : Binder}

/-! ### Notices stand through a release (R5, R18) -/

theorem noticesGrow_stretchEnded {stretch : Nat} : NoticesGrow s (s.stretchEnded t stretch) := by
  have totals : NoticesGrow s ((s.modOutfall t (s.trailed stretch)).stretchTotals t (s.partTime - stretch)) :=
    (NoticesGrow.of_ports rfl : NoticesGrow s (s.modOutfall t _)).trans (noticesGrow_handOver _ _ _)
  refine totals.trans (NoticesGrow.of_ports ?_)
  unfold stretchEnded reportSpilling
  dsimp only
  split
  · rw [ports_noteTrigger, ports_recomputeWeight]
    rfl
  · rw [ports_recomputeWeight]
    rfl

theorem noticesGrow_becomeQuiet : NoticesGrow s (s.becomeQuiet t) := by
  have quiet : NoticesGrow s (s.modOutfall t (fun w => { w with phase := .quiet })) := NoticesGrow.of_ports rfl
  unfold becomeQuiet announceSpill
  exact quiet.trans ((NoticesGrow.notify _ _ _).trans (NoticesGrow.notifyOwner _ _ _))

theorem noticesGrow_spillEdge_inactive : NoticesGrow s (s.spillEdge t false) := by
  by_cases same : (s.outfall t).switch = false
  · rw [spillEdge, if_pos same]
    exact NoticesGrow.of_ports rfl
  rw [spillEdge_of_ne same]
  cases phase : (s.outfall t).phase with
  | quiet => exact NoticesGrow.of_ports rfl
  | pending start => exact NoticesGrow.of_ports rfl
  | trailing start => exact NoticesGrow.of_ports rfl
  | spilling stretch =>
    have edge : NoticesGrow s ((s.switchedTo t false).stretchEnded t stretch) :=
      (NoticesGrow.of_ports rfl : NoticesGrow s (s.switchedTo t false)).trans noticesGrow_stretchEnded
    show NoticesGrow s ((s.switchedTo t false).endStretch t stretch)
    rw [endStretch_eq]
    split
    · exact edge.trans noticesGrow_becomeQuiet
    · exact edge

theorem noticesGrow_closingEdge : NoticesGrow s (s.closingEdge c) := by
  unfold closingEdge
  split
  · split
    · exact noticesGrow_spillEdge_inactive
    · exact NoticesGrow.of_ports rfl
  · exact NoticesGrow.of_ports rfl

theorem noticesGrow_faultChange {entered : Bool} {cause : FaultCause} : NoticesGrow s (s.faultChange c entered cause) := by
  rw [faultChange_eq]
  have record : NoticesGrow s ((s.faultMarked c entered).channelRecord c entered cause) :=
    (NoticesGrow.of_ports rfl : NoticesGrow s (s.faultMarked c entered)).trans (noticesGrow_writeRecord _ _ _)
  exact record.trans ((NoticesGrow.notifyAll _ _ _).trans (NoticesGrow.notify _ _ _))

theorem noticesGrow_faultLeft : NoticesGrow s (s.faultLeft c) := by
  unfold faultLeft
  split
  · exact noticesGrow_closingEdge.trans noticesGrow_faultChange
  · exact noticesGrow_closingEdge

theorem ports_setPhase {p : Phase} (wet : p ≠ .dry) : (s.setPhase t p).ports = s.ports := by
  rcases setPhase_cases (s := s) (t := t) wet with eq | eq <;> rw [eq] <;> rfl

theorem ports_tellReleased_tank : (s.tellReleased (.tank t r)).ports = s.ports := by
  cases r with
  | level => exact ports_setPhase (by decide)
  | draw => rfl
  | spill => rfl

theorem ports_releaseChannel_tank (binder : (s.channel c).binder = .tank t r) :
    (s.releaseChannel c).ports = (s.faultLeft c).ports := by
  have told : (s.blockTold c).ports = (s.faultLeft c).ports := by
    rw [blockTold, binder]
    exact ports_tellReleased_tank
  exact told

theorem noticesGrow_freed : NoticesGrow s (s.freed (.tank t r)) := by
  cases held : s.channelOf (.tank t r) with
  | none =>
    rw [freed_of_none (channelOf_eq_none_iff.mp held)]
    exact NoticesGrow.of_ports rfl
  | some c =>
    rw [freed_of_some held]
    exact noticesGrow_faultLeft.trans (NoticesGrow.of_ports (ports_releaseChannel_tank (binder_of_channelOf held)))

/-- A channel in FAULT that its tank's release takes is announced on RECORD and on the owner's port (R18). -/
theorem told_freed (held : s.channelOf (.tank t r) = some c) (fault : (s.channel c).status = .fault) :
    ((s.freed (.tank t r)).port .record).notices &&& noticeWord .channel ≠ 0#16
      ∧ ∀ p, portOwner p = ((s.closingEdge c).tank t).owner → portOwner p ≠ .nobody →
        ((s.freed (.tank t r)).port p).notices &&& noticeWord .channel ≠ 0#16 := by
  have binder := binder_of_channelOf held
  obtain ⟨-, left⟩ := faultReleased_faultLeft (s := s) (c := c)
  obtain ⟨-, record, owner, -⟩ := left (by rw [channel_closingEdge, fault])
  rw [freed_of_some held]
  have port (p : Port) := port_congr (ports_releaseChannel_tank binder) p
  refine ⟨?_, fun p is some => ?_⟩
  · rw [port]
    exact record
  · rw [port]
    exact owner t r p (by rw [channel_closingEdge, binder]) is some

/-! ### The tank and its outfall at the release of a channel -/

theorem tank_tellReleased_tank (x : Fin 8) :
    (s.tellReleased (.tank t r)).tank x = if x = t then (s.tank t).releasing r else s.tank x := by
  cases r with
  | level => exact tank_setPhase (by decide) x
  | draw => exact tank_modTank s t x _
  | spill =>
    split
    · rename_i here
      rw [here]
      rfl
    · rfl

theorem tanks_faultLeft : (s.faultLeft c).tanks = (s.closingEdge c).tanks := by
  unfold faultLeft
  split
  · simp
  · rfl

theorem tank_releaseChannel (binder : (s.channel c).binder = .tank t r) (x : Fin 8) : (s.releaseChannel c).tank x =
    if x = t then ((s.closingEdge c).tank t).releasing r else (s.closingEdge c).tank x := by
  have tanks : (s.releaseChannel c).tank x = ((s.faultLeft c).tellReleased (.tank t r)).tank x := by
    rw [← binder]
    rfl
  rw [tanks, tank_tellReleased_tank, tank_congr tanks_faultLeft, tank_congr tanks_faultLeft]

theorem spill_releaseChannel (binder : (s.channel c).binder = .tank t r) : (s.releaseChannel c).spill = (s.closingEdge c).spill := by
  have told : (s.releaseChannel c).spill = ((s.faultLeft c).tellReleased (.tank t r)).spill := by
    rw [← binder]
    rfl
  have left : (s.faultLeft c).spill = (s.closingEdge c).spill := by
    unfold faultLeft
    split
    · simp
    · rfl
  rw [told, ← left]
  simp

/-- An inactive edge leaves the tank, or ends its spilling. -/
theorem tank_spillEdge_inactive : (s.spillEdge t false).tank t = s.tank t
    ∨ (s.spillEdge t false).tank t = weighed s.rain.catchment { s.tank t with spilling := false } := by
  by_cases same : (s.outfall t).switch = false
  · exact .inl (by rw [spillEdge, if_pos same])
  rw [spillEdge_of_ne same]
  cases (s.outfall t).phase with
  | quiet => exact .inl rfl
  | pending start => exact .inl rfl
  | trailing start => exact .inl rfl
  | spilling stretch => exact .inr tank_endStretch

theorem standing_closingEdge (binder : (s.channel c).binder = .tank t r) :
    ((s.closingEdge c).tank t).standing = (s.tank t).standing := by
  by_cases quiet : (∀ k, (s.channel c).binder ≠ .tank k .spill) ∨ (s.channel c).active = false
  · rw [closingEdge_of_quiet quiet]
  · push Not at quiet
    obtain ⟨⟨k, spill⟩, active⟩ := quiet
    obtain ⟨rfl, rfl⟩ : t = k ∧ r = .spill := by simpa using binder.symm.trans spill
    rw [closingEdge_of_active spill (by simpa using active)]
    rcases tank_spillEdge_inactive (s := s) (t := t) with eq | eq
    · rw [eq]
    · rw [eq]
      rfl

/-- What stands of a tank at the release of one of its channels. -/
theorem standing_freed : ((s.freed (.tank t r)).tank t).standing = (s.tank t).standing := by
  cases held : s.channelOf (.tank t r) with
  | none => rw [freed_of_none (channelOf_eq_none_iff.mp held)]
  | some c =>
    have binder := binder_of_channelOf held
    rw [freed_of_some held, tank_releaseChannel binder, if_pos rfl, ← standing_closingEdge binder]
    cases r <;> rfl

theorem sameBut_closingEdge (binder : (s.channel c).binder = .tank t r) : SameBut s (s.closingEdge c) t := by
  by_cases quiet : (∀ k, (s.channel c).binder ≠ .tank k .spill) ∨ (s.channel c).active = false
  · rw [closingEdge_of_quiet quiet]
    exact SameBut.of_same rfl rfl
  · push Not at quiet
    obtain ⟨⟨k, spill⟩, active⟩ := quiet
    obtain ⟨rfl, rfl⟩ : t = k ∧ r = .spill := by simpa using binder.symm.trans spill
    rw [closingEdge_of_active spill (by simpa using active)]
    exact sameBut_spillEdge _ _ _

/-- Other tanks and outfalls stand at the release of a tank's channel. -/
theorem sameBut_freed : SameBut s (s.freed (.tank t r)) t := by
  cases held : s.channelOf (.tank t r) with
  | none =>
    rw [freed_of_none (channelOf_eq_none_iff.mp held)]
    exact SameBut.of_same rfl rfl
  | some c =>
    have binder := binder_of_channelOf held
    rw [freed_of_some held]
    refine (sameBut_closingEdge binder).trans (SameBut.of_tank (spill_releaseChannel binder) fun x ne => ?_)
    rw [tank_releaseChannel binder, if_neg ne]

/-- A level or a draw channel's release leaves the outfall and the spilling field. -/
theorem outfall_freed_of_measuring (measuring : r ≠ .spill) :
    (s.freed (.tank t r)).spill = s.spill ∧ ((s.freed (.tank t r)).tank t).spilling = (s.tank t).spilling := by
  cases held : s.channelOf (.tank t r) with
  | none =>
    rw [freed_of_none (channelOf_eq_none_iff.mp held)]
    exact ⟨rfl, rfl⟩
  | some c =>
    have binder := binder_of_channelOf held
    have quiet : s.closingEdge c = s := closingEdge_of_quiet (.inl fun k => by rw [binder]; simp [measuring])
    rw [freed_of_some held, spill_releaseChannel binder, tank_releaseChannel binder, if_pos rfl, quiet]
    refine ⟨rfl, ?_⟩
    cases r with
    | level => rfl
    | draw => rfl
    | spill => exact absurd rfl measuring

/-- A draw channel's release clears the draw check. -/
theorem check_freed_draw (held : s.channelOf (.tank t .draw) = some c) :
    ((s.freed (.tank t .draw)).tank t).grant.overdraw = false ∧ ((s.freed (.tank t .draw)).tank t).grant.overCount = 0 := by
  rw [freed_of_some held, tank_releaseChannel (binder_of_channelOf held), if_pos rfl]
  exact ⟨rfl, rfl⟩

/-- A spill channel's release leaves the grant. -/
theorem grant_freed_spill : ((s.freed (.tank t .spill)).tank t).grant = (s.tank t).grant := by
  cases held : s.channelOf (.tank t .spill) with
  | none => rw [freed_of_none (channelOf_eq_none_iff.mp held)]
  | some c =>
    have binder := binder_of_channelOf held
    rw [freed_of_some held, tank_releaseChannel binder, if_pos rfl, Tank.releasing]
    by_cases active : (s.channel c).active = true
    · rw [closingEdge_of_active binder active]
      rcases tank_spillEdge_inactive (s := s) (t := t) with eq | eq
      · rw [eq]
      · rw [eq]
        rfl
    · rw [closingEdge_of_quiet (.inr (Bool.eq_false_iff.mpr active))]

theorem freed_spill_of_quiet (quiet : ∀ c, (s.channel c).binder = .tank t .spill → (s.channel c).active = false) :
    (s.freed (.tank t .spill)).outfall t = s.outfall t
      ∧ ((s.freed (.tank t .spill)).tank t).spilling = (s.tank t).spilling := by
  cases held : s.channelOf (.tank t .spill) with
  | none =>
    rw [freed_of_none (channelOf_eq_none_iff.mp held)]
    exact ⟨rfl, rfl⟩
  | some c =>
    have binder := binder_of_channelOf held
    have stands := closingEdge_of_quiet (.inr (quiet c binder))
    rw [freed_of_some held, outfall_congr (spill_releaseChannel binder), tank_releaseChannel binder, if_pos rfl, stands]
    exact ⟨rfl, rfl⟩

theorem freed_spill_of_active (held : s.channelOf (.tank t .spill) = some c) (active : (s.channel c).active = true) :
    (s.freed (.tank t .spill)).outfall t = (s.spillEdge t false).outfall t
      ∧ (s.freed (.tank t .spill)).tank t = (s.spillEdge t false).tank t := by
  have binder := binder_of_channelOf held
  rw [freed_of_some held, outfall_congr (spill_releaseChannel binder), tank_releaseChannel binder, if_pos rfl,
    closingEdge_of_active binder active]
  exact ⟨rfl, rfl⟩

theorem binder_freed (bound : b ≠ .none) {b' : Binder} (holds : ((s.freed b').channel d).binder = b) : (s.channel d).binder = b := by
  by_cases own : (s.channel d).binder = b'
  · cases held : s.channelOf b' with
    | none => exact absurd own (channelOf_eq_none_iff.mp held d)
    | some e =>
      rw [freed_of_some held, channel_releaseChannel] at holds
      split at holds
      · exact absurd holds.symm bound
      · exact holds
  · rwa [channel_freed_of_other own] at holds

end State

end Sys2Proof.Machine
end

section
/-! SUPPORT. The release of a tank (R22). -/

namespace Sys2Proof.Machine

namespace State

variable {s : State} {c d : Fin 16} {t x : Fin 8} {r : Role}

/-! ### The steps of a tank's release (R22) -/

/-- The tank's cycle closed. -/
def cycleClosed (s : State) (t : Fin 8) : State := s.closeCycle t .released

/-- The state in which the channel of a role is released. -/
def beforeRole (s : State) (t : Fin 8) : Role → State
  | .level => s.cycleClosed t
  | .draw => (s.cycleClosed t).freed (.tank t .level)
  | .spill => ((s.cycleClosed t).freed (.tank t .level)).freed (.tank t .draw)

/-- The tank's three channels released. -/
def rolesFreed (s : State) (t : Fin 8) : State := (s.beforeRole t .spill).freed (.tank t .spill)

theorem releaseTank_eq : s.releaseTank t = ((s.rolesFreed t).siteZero t .released).unclaim t := rfl

theorem beforeRole_draw : s.beforeRole t .draw = (s.beforeRole t .level).freed (.tank t .level) := rfl

theorem beforeRole_spill : s.beforeRole t .spill = (s.beforeRole t .draw).freed (.tank t .draw) := rfl

theorem channel_cycleClosed (d : Fin 16) : (s.cycleClosed t).channel d = s.channel d := channel_congr (by simp [cycleClosed]) d

/-- A role's channel stands until its release. -/
theorem channel_beforeRole (stands : ∀ r', r' ≠ r → (s.channel d).binder ≠ .tank t r') :
    (s.beforeRole t r).channel d = s.channel d := by
  have closed := channel_cycleClosed (s := s) (t := t) d
  cases r with
  | level => exact closed
  | draw =>
    have level := stands .level (by decide)
    rw [beforeRole_draw, beforeRole, channel_freed_of_other (by rw [closed]; exact level), closed]
  | spill =>
    have level := stands .level (by decide)
    have draw := stands .draw (by decide)
    have freed : ((s.cycleClosed t).freed (.tank t .level)).channel d = s.channel d := by
      rw [channel_freed_of_other (by rw [closed]; exact level), closed]
    rw [beforeRole, channel_freed_of_other (by rw [freed]; exact draw), freed]

theorem binder_beforeRole (holds : ((s.beforeRole t r).channel d).binder = .tank t r) : (s.channel d).binder = .tank t r := by
  have closed (role : Role) (here : ((s.cycleClosed t).channel d).binder = .tank t role) : (s.channel d).binder = .tank t role := by
    rwa [channel_cycleClosed] at here
  cases r with
  | level => exact closed _ holds
  | draw => exact closed _ (binder_freed (by simp) holds)
  | spill => exact closed _ (binder_freed (by simp) (binder_freed (by simp) holds))

theorem other_role (holds : (s.channel c).binder = .tank t r) (r' : Role) (ne : r' ≠ r) : (s.channel c).binder ≠ .tank t r' := by
  rw [holds]
  simpa using ne.symm

/-- At its release a role holds the channel it held before. -/
theorem channelOf_beforeRole (own : ownChannels s t) (holds : (s.channel c).binder = .tank t r) :
    (s.beforeRole t r).channelOf (.tank t r) = some c := by
  refine channelOf_eq_some ?_ (fun d also => own r d c (binder_beforeRole also) holds)
  rw [channel_beforeRole (other_role holds), holds]

theorem channel_releaseTank (d : Fin 16) : (s.releaseTank t).channel d = (s.rolesFreed t).channel d := by
  rw [releaseTank_eq]
  exact channel_congr (by simp) d

theorem channel_releaseTank_of_other (other : ∀ r, (s.channel d).binder ≠ .tank t r) : (s.releaseTank t).channel d = s.channel d := by
  have before := channel_beforeRole (r := .spill) (fun r' _ => other r')
  rw [channel_releaseTank, rolesFreed, channel_freed_of_other (by rw [before]; exact other _), before]

/-- The channel of each role is released. -/
theorem channel_releaseTank_of_role (own : ownChannels s t) (holds : (s.channel c).binder = .tank t r) :
    (s.releaseTank t).channel c = releasedChannel (s.channel c) := by
  have here : ((s.beforeRole t r).freed (.tank t r)).channel c = releasedChannel (s.channel c) := by
    rw [freed_of_some (channelOf_beforeRole own holds), channel_releaseChannel, if_pos rfl,
      channel_beforeRole (other_role holds)]
  have unbound : (releasedChannel (s.channel c)).binder = .none := rfl
  rw [channel_releaseTank]
  cases r with
  | spill => exact here
  | draw =>
    rw [rolesFreed, beforeRole_spill, channel_freed_of_other (by rw [here, unbound]; simp), here]
  | level =>
    have drawn : (s.beforeRole t .spill).channel c = releasedChannel (s.channel c) := by
      rw [beforeRole_spill, beforeRole_draw, channel_freed_of_other (by rw [here, unbound]; simp), here]
    rw [rolesFreed, channel_freed_of_other (by rw [drawn, unbound]; simp), drawn]

/-! ### Notices of the release (R18) -/

theorem noticesGrow_clearOverdue {cause : OverdueCause} : NoticesGrow s (s.clearOverdue t cause) := by
  unfold clearOverdue
  split
  · exact NoticesGrow.of_ports rfl
  · rename_i since _
    have record : NoticesGrow s ((s.modGrant t (fun g => { g with overdueSince := none })).overdueRecord t cause since) :=
      (NoticesGrow.of_ports rfl : NoticesGrow s (s.modGrant t _)).trans (noticesGrow_writeRecord _ _ _)
    dsimp only
    split
    · exact record.trans (NoticesGrow.of_ports rfl)
    · exact record

theorem noticesGrow_siteZero {cause : OverdueCause} : NoticesGrow s (s.siteZero t cause) := by
  unfold siteZero
  exact ((NoticesGrow.of_ports rfl : NoticesGrow s (s.modGrant t _)).trans noticesGrow_clearOverdue).trans
    (noticesGrow_watchSettled _ _)

theorem ports_unclaim : (s.unclaim t).ports = s.ports := by
  unfold unclaim
  dsimp only
  rw [ports_recomputeWeight]
  exact ports_setPhase (s := s.modTank t (fun k => { k with owner := .nobody, set := defaultTankSettings })) (by decide)

theorem noticesGrow_releaseTank : NoticesGrow ((s.beforeRole t r).freed (.tank t r)) (s.releaseTank t) := by
  have last : NoticesGrow (s.rolesFreed t) (s.releaseTank t) := by
    rw [releaseTank_eq]
    exact noticesGrow_siteZero.trans (NoticesGrow.of_ports ports_unclaim)
  have draw : NoticesGrow (s.beforeRole t .spill) (s.releaseTank t) := noticesGrow_freed.trans last
  cases r with
  | spill => exact last
  | draw => exact draw
  | level => exact (noticesGrow_freed : NoticesGrow (s.beforeRole t .draw) (s.beforeRole t .spill)).trans draw

/-! ### The tank -/

theorem tank_cycleClosed (x : Fin 8) :
    (s.cycleClosed t).tank x = if x = t then (s.tank t).closing .released s.partTime else s.tank x := tank_closeCycle _ x

theorem standing_beforeRole : ((s.beforeRole t r).tank t).standing = ((s.tank t).closing .released s.partTime).standing := by
  have closed : (s.cycleClosed t).tank t = (s.tank t).closing .released s.partTime := by rw [tank_cycleClosed, if_pos rfl]
  cases r with
  | level => rw [beforeRole, closed]
  | draw => rw [beforeRole, standing_freed, closed]
  | spill => rw [beforeRole, standing_freed, standing_freed, closed]

theorem standing_rolesFreed : ((s.rolesFreed t).tank t).standing = ((s.tank t).closing .released s.partTime).standing := by
  rw [rolesFreed, standing_freed, standing_beforeRole]

theorem tank_unclaim (x : Fin 8) : (s.unclaim t).tank x = if x = t then
    weighed s.rain.catchment { s.tank t with
      owner := .nobody, set := defaultTankSettings, phase := .offline, held := none, clamped := false, rawBand := 1 }
    else s.tank x := by
  unfold unclaim
  dsimp only
  have rain : (((s.modTank t (fun k => { k with owner := .nobody, set := defaultTankSettings })).setPhase t .offline).modTank t
      (fun k => { k with held := none, clamped := false, rawBand := 1 })).rain = s.rain := by
    simp
  rw [tank_recomputeWeight, rain, tank_modTank, tank_modTank, tank_setPhase (by decide), tank_setPhase (by decide), tank_modTank,
    tank_modTank]
  by_cases here : x = t
  · rw [if_pos here, if_pos rfl, if_pos here]
    simp only [if_true]
  · simp only [if_neg here]

/-- The tank after the release, from what its channels' release leaves of it. -/
theorem tank_releaseTank (x : Fin 8) : (s.releaseTank t).tank x = if x = t then
    weighed (s.rolesFreed t).rain.catchment { (s.rolesFreed t).tank t with
      owner := .nobody, set := defaultTankSettings, phase := .offline, held := none, clamped := false, rawBand := 1
      grant := { ((s.rolesFreed t).tank t).grant with
        granted := 0, confirmed := 0, unsettled := false, deadline := none, overdueSince := none } }
    else (s.rolesFreed t).tank x := by
  have rain : ((s.rolesFreed t).siteZero t .released).rain = (s.rolesFreed t).rain := by simp
  rw [releaseTank_eq, tank_unclaim, tank_siteZero, tank_siteZero, if_pos rfl, rain]
  by_cases here : x = t
  · rw [if_pos here, if_pos here]
  · rw [if_neg here, if_neg here, if_neg here]

/-! ### What the release touches -/

theorem onlyChanges_freed_tank :
    onlyChanges [.channels, .spill, .tanks, .store, .notices, .trigger] s (s.freed (.tank t r)) := by
  cases held : s.channelOf (.tank t r) with
  | none =>
    rw [freed_of_none (channelOf_eq_none_iff.mp held)]
    exact onlyChanges_refl _ s
  | some c =>
    rw [freed_of_some held]
    exact onlyChanges_releaseChannel_tank (binder_of_channelOf held)

theorem onlyChanges_cycleClosed : onlyChanges [.tanks, .store, .notices] s (s.cycleClosed t) := by
  intro area other
  cases area <;> simp [unchanged, cycleClosed] at other ⊢

theorem onlyChanges_rolesFreed :
    onlyChanges [.channels, .spill, .tanks, .store, .notices, .trigger] s (s.rolesFreed t) :=
  onlyChanges_trans (onlyChanges_trans (onlyChanges_trans (onlyChanges_mono (by decide) onlyChanges_cycleClosed)
    onlyChanges_freed_tank) onlyChanges_freed_tank) onlyChanges_freed_tank

theorem onlyChanges_siteZero {cause : OverdueCause} : onlyChanges [.tanks, .store, .notices, .trigger] s (s.siteZero t cause) := by
  intro area other
  cases area <;> simp [unchanged] at other ⊢

theorem onlyChanges_recomputeWeight : onlyChanges [.tanks, .trigger] s (s.recomputeWeight t) := by
  intro area other
  cases area with
  | notices =>
    have ports : (s.recomputeWeight t).ports = s.ports := ports_recomputeWeight t
    exact congrArg (fun p : Vector PortState 4 => p.map (fun q => q.notices)) ports
  | tanks => exact absurd (by simp) other
  | trigger => exact absurd (by simp) other
  | _ => simp [unchanged]

theorem onlyChanges_modTank (f : Tank → Tank) : onlyChanges [.tanks] s (s.modTank t f) := by
  intro area other
  cases area <;> first | rfl | exact absurd (by simp) other

theorem onlyChanges_unclaim : onlyChanges [.tanks, .trigger] s (s.unclaim t) := by
  unfold unclaim
  exact onlyChanges_trans (onlyChanges_trans (onlyChanges_trans (onlyChanges_mono (by decide) (onlyChanges_modTank _))
    (onlyChanges_setPhase (by decide))) (onlyChanges_mono (by decide) (onlyChanges_modTank _))) onlyChanges_recomputeWeight

theorem onlyChanges_releaseTank :
    onlyChanges [.channels, .spill, .tanks, .store, .notices, .trigger] s (s.releaseTank t) := by
  rw [releaseTank_eq]
  exact onlyChanges_trans (onlyChanges_trans onlyChanges_rolesFreed (onlyChanges_mono (by decide) onlyChanges_siteZero))
    (onlyChanges_mono (by decide) onlyChanges_unclaim)

theorem spill_releaseTank : (s.releaseTank t).spill = (s.rolesFreed t).spill := by
  rw [releaseTank_eq]
  simp

theorem sameBut_releaseTank : SameBut s (s.releaseTank t) t := by
  have closed : SameBut s (s.cycleClosed t) t :=
    SameBut.of_tank (by simp [cycleClosed]) fun x ne => by rw [tank_cycleClosed, if_neg ne]
  have freed : SameBut s (s.rolesFreed t) t := ((closed.trans sameBut_freed).trans sameBut_freed).trans sameBut_freed
  exact freed.trans (SameBut.of_tank spill_releaseTank fun x ne => by rw [tank_releaseTank, if_neg ne])

end State

end Sys2Proof.Machine
end

section
/-! SUPPORT. The obligation of a tank's release (R5, R18, R22, R38, R109, R114, R122). -/

namespace Sys2Proof.Machine

namespace State

variable {s : State} {c : Fin 16} {t : Fin 8} {r : Role}

theorem standing_congr {k k' : Tank} (same : k.standing = k'.standing) :
    k.owner = k'.owner ∧ k.counter = k'.counter ∧ k.openCycle = k'.openCycle ∧ k.lastCycle = k'.lastCycle ∧ k.drain = k'.drain
      ∧ k.grant.serial = k'.grant.serial ∧ k.grant.acked = k'.grant.acked ∧ k.grant.published = k'.grant.published :=
  ⟨(congrArg (fun q => q.owner) same :), (congrArg (fun q => q.counter) same :), (congrArg (fun q => q.openCycle) same :),
    (congrArg (fun q => q.lastCycle) same :), (congrArg (fun q => q.drain) same :), (congrArg (fun q => q.grant.serial) same :),
    (congrArg (fun q => q.grant.acked) same :), (congrArg (fun q => q.grant.published) same :)⟩

/-- A role's channel in FAULT is announced to the owner and on RECORD (R18). -/
theorem told_releaseTank {p : Port} (own : ownChannels s t) (holds : (s.channel c).binder = .tank t r)
    (fault : (s.channel c).status = .fault) (owner : (s.tank t).owner = portOwner p) (site : portOwner p ≠ .nobody) :
    ((s.releaseTank t).port p).notices &&& noticeWord .channel ≠ 0#16
      ∧ ((s.releaseTank t).port .record).notices &&& noticeWord .channel ≠ 0#16 := by
  have held := channelOf_beforeRole own holds
  have stands := channel_beforeRole (other_role holds)
  obtain ⟨record, owners⟩ := told_freed held (by rw [stands, fault])
  have binder : ((s.beforeRole t r).channel c).binder = .tank t r := binder_of_channelOf held
  obtain ⟨edge, -⟩ := standing_congr (standing_closingEdge binder)
  obtain ⟨before, -⟩ := standing_congr (standing_beforeRole (s := s) (t := t) (r := r))
  have same : portOwner p = (((s.beforeRole t r).closingEdge c).tank t).owner := by
    rw [edge, before]
    exact owner.symm
  exact ⟨noticesGrow_releaseTank _ _ (owners p same site), noticesGrow_releaseTank _ _ record⟩

/-- A role's draw channel takes the draw check with it (R114). -/
theorem check_releaseTank (own : ownChannels s t) (draw : ∃ c, (s.channel c).binder = .tank t .draw) :
    ((s.releaseTank t).tank t).grant.overdraw = false ∧ ((s.releaseTank t).tank t).grant.overCount = 0 := by
  obtain ⟨c, holds⟩ := draw
  obtain ⟨overdraw, count⟩ := check_freed_draw (channelOf_beforeRole own holds)
  have grant : ((s.rolesFreed t).tank t).grant = ((s.beforeRole t .spill).tank t).grant := grant_freed_spill
  rw [tank_releaseTank, if_pos rfl]
  simp only [weighed, grant]
  exact ⟨overdraw, count⟩

/-- Until its spill channel's release the outfall and the spilling field stand. -/
theorem outfall_beforeRole_spill : (s.beforeRole t .spill).spill = s.spill
    ∧ ((s.beforeRole t .spill).tank t).spilling = (s.tank t).spilling := by
  obtain ⟨draw, drawn⟩ := outfall_freed_of_measuring (s := s.beforeRole t .draw) (t := t) (r := .draw) (by decide)
  obtain ⟨level, levelled⟩ := outfall_freed_of_measuring (s := s.beforeRole t .level) (t := t) (r := .level) (by decide)
  have closed : (s.beforeRole t .level).spill = s.spill ∧ ((s.beforeRole t .level).tank t).spilling = (s.tank t).spilling := by
    refine ⟨by simp [beforeRole, cycleClosed], ?_⟩
    rw [beforeRole, tank_cycleClosed, if_pos rfl]
    rfl
  rw [beforeRole_spill]
  refine ⟨draw.trans ?_, drawn.trans ?_⟩
  · exact level.trans closed.1
  · exact levelled.trans closed.2

theorem outfall_releaseTank : (s.releaseTank t).outfall t = (s.rolesFreed t).outfall t := outfall_congr spill_releaseTank t

theorem spilling_releaseTank : ((s.releaseTank t).tank t).spilling = ((s.rolesFreed t).tank t).spilling := by
  rw [tank_releaseTank, if_pos rfl]
  rfl

theorem releaseTank_of_quiet
    (quiet : ∀ c, (s.channel c).binder = .tank t .spill → (s.channel c).active = false) :
    (s.releaseTank t).outfall t = s.outfall t ∧ ((s.releaseTank t).tank t).spilling = (s.tank t).spilling := by
  obtain ⟨spill, spilling⟩ := outfall_beforeRole_spill (s := s) (t := t)
  obtain ⟨outfall, still⟩ := freed_spill_of_quiet (s := s.beforeRole t .spill) (t := t) (by
    intro c holds
    have held := binder_beforeRole holds
    rw [channel_beforeRole (other_role held)]
    exact quiet c held)
  rw [outfall_releaseTank, spilling_releaseTank, rolesFreed, outfall, still, spilling]
  exact ⟨outfall_congr spill t, rfl⟩

/-- An ACTIVE spill channel delivers its inactive edge at the release (R5, R122). -/
theorem releaseTank_of_active (own : ownChannels s t)
    (active : ∃ c, (s.channel c).binder = .tank t .spill ∧ (s.channel c).active = true) :
    (s.releaseTank t).outfall t = ((s.beforeRole t .spill).spillEdge t false).outfall t
      ∧ ((s.releaseTank t).tank t).spilling = (((s.beforeRole t .spill).spillEdge t false).tank t).spilling := by
  obtain ⟨c, holds, high⟩ := active
  obtain ⟨outfall, tank⟩ := freed_spill_of_active (channelOf_beforeRole own holds)
    (by rw [channel_beforeRole (other_role holds), high])
  rw [outfall_releaseTank, spilling_releaseTank, rolesFreed, outfall, tank]
  exact ⟨rfl, rfl⟩

theorem partTime_beforeRole : (s.beforeRole t r).partTime = s.partTime := by
  have closed : (s.cycleClosed t).outer = s.outer := by simp [cycleClosed]
  have outer : (s.beforeRole t r).outer = s.outer := by
    cases r with
    | level => exact closed
    | draw => exact outer_freed.trans closed
    | spill => exact outer_freed.trans (outer_freed.trans closed)
  obtain ⟨-, clock, -⟩ := outer_eq_iff.mp outer
  simp only [partTime, clock]

/-- The edge ends the spill stretch as any inactive edge does (R114, R122). -/
theorem releaseTank_of_switched (own : ownChannels s t)
    (active : ∃ c, (s.channel c).binder = .tank t .spill ∧ (s.channel c).active = true) (switch : (s.outfall t).switch = true) :
    ((s.releaseTank t).outfall t).switch = false
      ∧ (∀ start, (s.outfall t).phase = .pending start → ((s.releaseTank t).outfall t).phase = .quiet)
      ∧ ∀ start, (s.outfall t).phase = .spilling start →
        ((s.releaseTank t).outfall t).phase = (if s.spill.set.tOff = 0 then .quiet else .trailing s.partTime)
        ∧ ((s.releaseTank t).outfall t).seconds = min ((s.outfall t).seconds + (s.partTime - start)) 4294967295
        ∧ ((s.releaseTank t).tank t).spilling = false := by
  obtain ⟨edge, still⟩ := releaseTank_of_active own active
  obtain ⟨spill, -⟩ := outfall_beforeRole_spill (s := s) (t := t)
  have before : (s.beforeRole t .spill).outfall t = s.outfall t := outfall_congr spill t
  have moves : ((s.beforeRole t .spill).outfall t).switch ≠ false := by
    rw [before, switch]
    decide
  obtain ⟨-, turned⟩ := switched_spillEdge (s.beforeRole t .spill) t false
  obtain ⟨low, -, -, -, what⟩ := turned moves
  have set_ : (s.beforeRole t .spill).spill.set = s.spill.set := congrArg Spill.set spill
  rw [edge, still]
  refine ⟨low, ?_, ?_⟩
  · intro start pending
    rw [before, pending] at what
    rw [what, outfall_modOutfall, if_pos rfl]
  · intro start spilling
    rw [before, spilling] at what
    obtain ⟨ends, stops⟩ := what
    rw [ends, stops, set_, partTime_beforeRole]
    exact ⟨rfl, rfl, rfl⟩

end State

/-- Two states with the same notice sets have the same notices at each port. -/
theorem State.notices_congr {s u : State} (same : u.noticeSets = s.noticeSets) (p : Port) :
    (u.port p).notices = (s.port p).notices := by
  have set_ := congrArg (fun v : Vector Word 4 => v.get (portIndex p)) same
  simpa [State.noticeSets, State.port, Vector.get_eq_getElem] using set_

open State

/-- Settles O33: the release closes the cycle, frees the three channels, settles the grant and unclaims the tank. -/
theorem tankReleaseRule : Obligations.TankReleaseRule := by
  intro h x s b t admitted named owner
  have site : h.port ∈ sitePorts := admitted.role
  have ruled : ownTank h.port x tankReleaseAnswer (s.during b) = tankReleaseAnswer t (s.during b) :=
    ownTank_of_owner named site owner
  refine ⟨?_, ?_⟩
  · intro listed
    have refused : tankReleaseAnswer t (s.during b) = answer (s.during b) .refusedState := if_pos (State.listed_iff.mpr listed)
    exact exec_of_rule rfl admitted (marking_of_refused (ruled.trans refused))
  · intro free
    have applied : tankReleaseAnswer t (s.during b) = answer ((s.during b).releaseTank t) .done :=
      if_neg (fun listed => free (State.listed_iff.mp listed))
    obtain ⟨u, marks, frame⟩ := exists_marking (ruled.trans applied)
    have tank (k : Fin 8) : u.tank k = ((s.during b).releaseTank t).tank k := tank_congr (frame .tanks (by decide)) k
    have channel (c : Fin 16) : u.channel c = ((s.during b).releaseTank t).channel c :=
      channel_congr (frame .channels (by decide)) c
    have outfall (k : Fin 8) : u.outfall k = ((s.during b).releaseTank t).outfall k :=
      outfall_congr (frame .spill (by decide)) k
    have rain : (s.during b).rain = ((s.during b).rolesFreed t).rain :=
      (onlyChanges_rolesFreed (s := s.during b) (t := t) .rain (by decide) : _ = _).symm
    have freed := tank_releaseTank (s := s.during b) (t := t) t
    rw [if_pos rfl, ← rain] at freed
    have here := (tank t).trans freed
    obtain ⟨-, counter, openCycle, lastCycle, drain, serial, acked, published⟩ :=
      standing_congr (standing_rolesFreed (s := s.during b) (t := t))
    generalize ((s.during b).rolesFreed t).tank t = k at here counter openCycle lastCycle drain serial acked published
    refine ⟨u, exec_of_rule rfl admitted marks, ?_⟩
    refine ⟨?_, ?_, ?_, ?_, ?_, ?_, ?_, ?_, ?_, ?_, ?_, ?_, ?_, ?_, ?_, ?_, ?_, ?_, ?_, ?_, ?_, ?_, ?_⟩
    case refine_20 =>
      intro own
      have ownHere : ownChannels (s.during b) t := own
      refine ⟨?_, ?_, ?_, ?_⟩
      · intro r c holds
        refine ⟨(channel c).trans (channel_releaseTank_of_role ownHere holds), fun fault => ?_⟩
        rw [notices_congr (frame .notices (by decide)), notices_congr (frame .notices (by decide))]
        exact told_releaseTank ownHere holds fault owner (portOwner_ne_nobody site)
      · intro draw
        rw [tank]
        exact check_releaseTank ownHere draw
      · intro quiet
        rw [tank, outfall]
        exact releaseTank_of_quiet quiet
      · intro active switch
        rw [tank, outfall]
        exact releaseTank_of_switched ownHere active switch
    case refine_21 =>
      exact onlyChanges_trans (onlyChanges_mono (by decide) (onlyChanges_releaseTank (s := s.during b) (t := t)))
        (onlyChanges_mono (by decide) frame)
    case refine_22 =>
      intro k ne
      obtain ⟨others, -⟩ := sameBut_releaseTank (s := s.during b) (t := t)
      obtain ⟨same, still⟩ := others k ne
      exact ⟨(tank k).trans still, (outfall k).trans same⟩
    case refine_23 =>
      intro c other
      exact (channel c).trans (channel_releaseTank_of_other (s := s.during b) other)
    all_goals rw [here]
    case refine_7 => exact openCycle
    case refine_13 => exact serial
    case refine_14 => exact counter
    case refine_15 => exact acked
    case refine_16 => exact published
    case refine_17 => exact drain
    case refine_18 => exact lastCycle
    all_goals rfl

end Sys2Proof.Machine
end

section
/-! SUPPORT. The settings of a tank that take effect (R23, R24, R31, R81, R84, R88, R95). -/

namespace Sys2Proof.Machine

/-- An evaluation leaves the settings, the grant and the drain fields. -/
theorem evaluatedTank_set (alert : AlertLevel) (k : Tank) (fill now : Nat) :
    (evaluatedTank alert k fill now).set = k.set ∧ (evaluatedTank alert k fill now).grant = k.grant := by
  unfold evaluatedTank
  dsimp only
  split
  · exact ⟨rfl, rfl⟩
  · split
    · exact ⟨rfl, rfl⟩
    · split <;> exact ⟨rfl, rfl⟩

/-- Band and weight before an evaluation do not tell what it makes. -/
theorem phasedTank_weighed (alert : AlertLevel) (k : Tank) (fill now : Nat) :
    phasedTank (weighed alert k) fill now = { phasedTank k fill now with
      band := (weighed alert k).band, weight := (weighed alert k).weight } := by
  unfold phasedTank
  have same : (weighed alert k).phase = k.phase ∧ (weighed alert k).set = k.set := ⟨rfl, rfl⟩
  dsimp only
  rw [same.1, same.2]
  split
  · rfl
  · split
    · rfl
    · by_cases opens : k.phase = .dry ∨ k.phase = .unknown
      · rw [if_pos opens, if_pos opens]
        split <;> rfl
      · rw [if_neg opens, if_neg opens]
        split <;> rfl

theorem evaluatedTank_weighed {k : Tank} (online : k.phase ≠ .offline) (alert : AlertLevel) (fill now : Nat) :
    evaluatedTank alert (weighed alert k) fill now = evaluatedTank alert k fill now := by
  have online' : (weighed alert k).phase ≠ .offline := online
  rw [evaluatedTank_of_online online, evaluatedTank_of_online online', phasedTank_weighed]
  rfl

/-- A tank with its m brought to its m_limit, and its n to that m (R23). -/
def Tank.lowering (k : Tank) : Tank :=
  { k with drain := { k.drain with request := k.drain.request.map (fun r =>
      if k.set.mLimit < r.m then { r with m := k.set.mLimit, n := min r.n k.set.mLimit } else r) } }

theorem tankSettled_eq (k : Tank) (v : TankSettings) : tankSettled k v = ({ k with set := v } : Tank).lowering := rfl

/-- A state in which a tank's settings take effect: the tank, the drain list and a reason to have noted a trigger. -/
structure Settling (s v : State) (t : Fin 8) (k : Tank) (l : List (Fin 8)) (noted : Prop) : Prop where
  tank : v.tank t = k
  others : ∀ x, x ≠ t → v.tank x = s.tank x
  list : v.drainList = l
  serial : v.globalSerial = s.globalSerial
  noted : noted → v.trigger = true
  rain : v.rain = s.rain
  outer : v.outer = s.outer
  channels : v.channels = s.channels

namespace State

variable {s : State} {t x : Fin 8}

theorem lowerRequest_of_none (none_ : (s.tank t).drain.request = none) : s.lowerRequest t = s := by
  simp [lowerRequest, none_]

theorem lowerRequest_of_some {r : Request} (some_ : (s.tank t).drain.request = some r) : s.lowerRequest t =
    if (s.tank t).set.mLimit < r.m then s.setRequest t (s.tank t).set.mLimit (min r.n (s.tank t).set.mLimit) else s := by
  simp [lowerRequest, some_]

theorem tank_lowerRequest (x : Fin 8) : (s.lowerRequest t).tank x = if x = t then (s.tank t).lowering else s.tank x := by
  cases request : (s.tank t).drain.request with
  | none =>
    have same : (s.tank t).lowering = s.tank t := by
      rw [Tank.lowering, request, Option.map_none, ← request]
    rw [lowerRequest_of_none request, same]
    split
    · rename_i here
      rw [here]
    · rfl
  | some r =>
    rw [lowerRequest_of_some request, Tank.lowering, request, Option.map_some]
    by_cases above : (s.tank t).set.mLimit < r.m
    · rw [if_pos above, if_pos above]
      exact tank_setRequest s request _ _ x
    · rw [if_neg above, if_neg above, ← request]
      split
      · rename_i here
        rw [here]
      · rfl

/-- A lowered request notes a trigger, and none is taken back. -/
theorem trigger_lowerRequest (noted : s.trigger = true ∨ (s.tank t).lowering.drain ≠ (s.tank t).drain) :
    (s.lowerRequest t).trigger = true := by
  cases request : (s.tank t).drain.request with
  | none =>
    have same : (s.tank t).lowering.drain = (s.tank t).drain := by
      simp only [Tank.lowering, request, Option.map_none]
      rw [← request]
    rw [lowerRequest_of_none request]
    exact noted.resolve_right (fun ne => ne same)
  | some r =>
    rw [lowerRequest_of_some request]
    by_cases above : (s.tank t).set.mLimit < r.m
    · have moved : (r.m == (s.tank t).set.mLimit) = false := by
        rw [beq_eq_false_iff_ne]
        exact Nat.ne_of_gt above
      rw [if_pos above, trigger_setRequest s request, moved]
      simp
    · have same : (s.tank t).lowering.drain = (s.tank t).drain := by
        simp only [Tank.lowering, request, Option.map_some, if_neg above]
        rw [← request]
      rw [if_neg above]
      exact noted.resolve_right (fun ne => ne same)

/-! ### Where a change evaluates at once (R31) -/

theorem levelStale_of_none (none_ : s.channelOf (.tank t .level) = none) : s.levelStale t = false := by
  simp [levelStale, none_]

theorem levelStale_of_some {c : Fin 16} (held : s.channelOf (.tank t .level) = some c) :
    s.levelStale t = decide ((s.channel c).status = .stale) := by
  simp [levelStale, held]

theorem measured_iff (p : Phase) : p.measured = true ↔ p = .dry ∨ p = .wet ∨ p = .full := by cases p <;> decide

/-- The model evaluates at once where the rules do. -/
theorem evaluatesNow_iff (own : ownChannels s t) :
    evaluatesNow s t ↔ (s.tank t).phase.measured = true ∧ s.levelStale t = false := by
  rw [evaluatesNow, measured_iff]
  refine and_congr_right fun _ => ?_
  cases held : s.channelOf (.tank t .level) with
  | none =>
    refine iff_of_true (fun c holds => absurd holds (channelOf_eq_none_iff.mp held c)) (levelStale_of_none held)
  | some c =>
    have binder := binder_of_channelOf held
    rw [levelStale_of_some held, decide_eq_false_iff_not]
    exact ⟨fun all => all c binder, fun ne d holds => by rwa [own _ d c holds binder]⟩

theorem reevaluate_of_none (none_ : (s.tank t).held = none) : s.reevaluate t = s := by
  simp [reevaluate, none_]

theorem reevaluate_of_some {h : Held} (some_ : (s.tank t).held = some h) : s.reevaluate t =
    if (s.tank t).phase.measured = true ∧ s.levelStale t = false then s.evaluateFill t h.fill else s := by
  simp [reevaluate, some_]

/-- An evaluation at once is an evaluation from the fill held, or nothing. -/
theorem reevaluate_cases (s : State) (t : Fin 8) : s.reevaluate t = s
    ∨ ∃ h, (s.tank t).held = some h ∧ (s.tank t).phase ≠ .offline ∧ s.reevaluate t = s.evaluateFill t h.fill := by
  cases held : (s.tank t).held with
  | none => exact .inl (reevaluate_of_none held)
  | some h =>
    rw [reevaluate_of_some held]
    split
    · rename_i both
      refine .inr ⟨h, rfl, ?_, rfl⟩
      intro offline
      rw [offline] at both
      exact absurd both.1 (by decide)
    · exact .inl rfl

theorem reevaluate_of_blind (blind : (s.tank t).phase.measured = false) : s.reevaluate t = s := by
  cases held : (s.tank t).held with
  | none => exact reevaluate_of_none held
  | some h => rw [reevaluate_of_some held, if_neg (by simp [blind])]

end State

namespace Settling

variable {s v : State} {t : Fin 8} {k : Tank} {l : List (Fin 8)} {noted more : Prop}

theorem recomputeWeight (m : Settling s v t k l noted) : Settling s (v.recomputeWeight t) t (weighed s.rain.catchment k) l
    (noted ∨ t ∈ l ∧ (weighed s.rain.catchment k).weight ≠ k.weight) := by
  have moved := (Retanked.refl v t).moved.recomputeWeight (fun no => no.elim)
  obtain ⟨tank, list⟩ := moved.stayed (fun no => no)
  rw [m.tank, m.rain] at tank
  exact {
    tank := tank
    others := fun x ne => (moved.others x ne).trans (m.others x ne)
    list := list.trans m.list
    serial := moved.serial.trans m.serial
    noted := fun why => by
      rw [moved.trigger, m.tank, m.rain, m.list]
      rcases why with noted | heavier
      · exact .inl (m.noted noted)
      · exact .inr (.inr ⟨heavier.1, .inr heavier.2⟩)
    rain := moved.rain.trans m.rain
    outer := moved.outer.trans m.outer
    channels := by rw [← m.channels]; simp }

theorem noteTrigger_if (m : Settling s v t k l noted) (cond : Bool) (why : more → cond = true) :
    Settling s (if cond then v.noteTrigger else v) t k l (noted ∨ more) := by
  cases cond with
  | true => exact ⟨m.tank, m.others, m.list, m.serial, fun _ => rfl, m.rain, m.outer, m.channels⟩
  | false =>
    refine ⟨m.tank, m.others, m.list, m.serial, fun reason => ?_, m.rain, m.outer, m.channels⟩
    exact reason.elim m.noted (fun yes => absurd (why yes) Bool.false_ne_true)

theorem lowerRequest (m : Settling s v t k l noted) :
    Settling s (v.lowerRequest t) t k.lowering l (noted ∨ k.lowering.drain ≠ k.drain) := by
  have drains : (v.lowerRequest t).drains = v.drains := by simp
  exact {
    tank := by rw [State.tank_lowerRequest, if_pos rfl, m.tank]
    others := fun x ne => by rw [State.tank_lowerRequest, if_neg ne, m.others x ne]
    list := (State.drainList_congr drains).trans m.list
    serial := (congrArg Prod.snd drains : (v.lowerRequest t).globalSerial = v.globalSerial).trans m.serial
    noted := fun why => State.trigger_lowerRequest (why.imp m.noted (fun ne => by rw [m.tank]; exact ne))
    rain := by rw [← m.rain]; simp
    outer := by rw [← m.outer]; simp
    channels := by rw [← m.channels]; simp }

end Settling

end Sys2Proof.Machine
end

section
/-! SUPPORT. The steps of TANK_SET (R23, R24, R31, R38, R84). -/

namespace Sys2Proof.Machine

/-- A tank disabled: OFFLINE, its cycle closed DISABLED (R24, R38). -/
def Tank.disabling (k : Tank) (now : Nat) : Tank := { k.closing .disabled now with phase := .offline }

namespace State

variable {s : State} {t x : Fin 8} {v : TankSettings}

/-- The tank with its new settings, before they take effect. -/
def withSettings (s : State) (t : Fin 8) (v : TankSettings) : State := s.modTank t (fun k => { k with set := v })

/-- The tank enabled or disabled as its new settings say. -/
def enabledAs (s : State) (t : Fin 8) (v : TankSettings) : State :=
  if (s.tank t).set.enabled = v.enabled then s.withSettings t v
  else if v.enabled then (s.withSettings t v).leaveOffline t else (s.withSettings t v).disableTank t

/-- The trigger noted where the storm exclusion of a listed tank changes. -/
def stormNoted (s : State) (t : Fin 8) (changed : Bool) : State :=
  if changed && s.listed t && s.rain.catchment = .storm && !(s.tank t).spilling then s.noteTrigger else s

/-- The settings taken, but for the evaluation at once. -/
def settingsTaken (s : State) (t : Fin 8) (v : TankSettings) : State :=
  ((((s.enabledAs t v).recomputeWeight t).stormNoted t (decide ((s.tank t).set.stormSuspend ≠ v.stormSuspend)))).lowerRequest t

theorem applyTankSet_eq : s.applyTankSet t v =
    if (s.tank t).set.e ≠ v.e ∨ (s.tank t).set.fFull ≠ v.fFull ∨ (s.tank t).set.h ≠ v.h then (s.settingsTaken t v).reevaluate t
    else s.settingsTaken t v := rfl

/-! ### Enabled or not (R24, R84) -/

theorem retanked_withSettings : Retanked s (s.withSettings t v) t { s.tank t with set := v } :=
  (Retanked.refl s t).modTank _

theorem settling_of_retanked {u : State} {k : Tank} (r : Retanked s u t k) (channels : u.channels = s.channels) :
    Settling s u t k s.drainList False :=
  ⟨r.tank, r.others, r.drainList, r.globalSerial, fun no => no.elim, r.rain, r.outer, channels⟩

theorem settling_enabledAs_same (same : (s.tank t).set.enabled = v.enabled) :
    Settling s (s.enabledAs t v) t { s.tank t with set := v } s.drainList False := by
  rw [enabledAs, if_pos same]
  exact settling_of_retanked retanked_withSettings rfl

/-- A tank enabled by its settings is UNKNOWN where it was OFFLINE and its level channel is sound. -/
theorem settling_enabledAs_on (off : (s.tank t).set.enabled = false) (on : v.enabled = true) :
    Settling s (s.enabledAs t v) t { s.tank t with
      set := v
      phase := if s.levelSound t = true ∧ (s.tank t).phase = .offline then .unknown else (s.tank t).phase }
      s.drainList False := by
  have r := retanked_withSettings (s := s) (t := t) (v := v)
  have enabled : ((s.withSettings t v).tank t).set.enabled = true := by rw [r.tank]; exact on
  have phase : ((s.withSettings t v).tank t).phase = (s.tank t).phase := by rw [r.tank]
  have sound : (s.withSettings t v).levelSound t = s.levelSound t := rfl
  rw [enabledAs, if_neg (by rw [off, on]; decide), if_pos on, leaveOffline_eq, sound, phase]
  by_cases leaves : s.levelSound t = true ∧ (s.tank t).phase = .offline
  · rw [if_pos ⟨enabled, leaves⟩]
    simp only [if_pos leaves]
    exact settling_of_retanked (r.inPhase .unknown) rfl
  · rw [if_neg (fun all => leaves all.2)]
    simp only [if_neg leaves]
    exact settling_of_retanked r rfl

theorem filter_of_not_mem {l : List (Fin 8)} (out : t ∉ l) : l.filter (fun x => x ≠ t) = l := by
  rw [List.filter_eq_self]
  intro x mem
  rw [decide_eq_true_eq]
  rintro rfl
  exact out mem

/-- A listed tank taken out of the list and OFFLINE. -/
theorem settling_leaveList {w : State} {k : Tank} (r : Retanked s w t k) (channels : w.channels = s.channels) :
    Settling s ((w.leaveList t .disabled).setPhase t .offline) t (outOfList { k with phase := .offline } .disabled)
      (s.drainList.filter (fun x => x ≠ t)) True := by
  have drains := drains_leaveList w t .disabled
  have shorter : (w.leaveList t .disabled).drainList = w.drainList.filter (fun x => x ≠ t) := (congrArg Prod.fst drains :)
  have serial : (w.leaveList t .disabled).globalSerial = w.globalSerial := (congrArg Prod.snd drains :)
  have unlisted : t ∉ (w.leaveList t .disabled).drainList := by
    rw [shorter]
    simp
  rw [setPhase_of_unlisted unlisted]
  exact {
    tank := by
      rw [tank_inPhase, if_pos rfl, tank_leaveList, if_pos rfl, r.tank]
      rfl
    others := fun x ne => by
      rw [tank_inPhase, if_neg ne, tank_leaveList, if_neg ne]
      exact r.others x ne
    list := shorter.trans (by rw [r.drainList])
    serial := serial.trans r.globalSerial
    noted := fun _ => rfl
    rain := r.rain
    outer := r.outer
    channels := channels }

/-- A tank disabled by its settings leaves the drain list where it is on it. -/
theorem settling_enabledAs_off (on : (s.tank t).set.enabled = true) (off : v.enabled = false) :
    Settling s (s.enabledAs t v) t
      (if t ∈ s.drainList then outOfList (({ s.tank t with set := v } : Tank).disabling s.partTime) .disabled
        else ({ s.tank t with set := v } : Tank).disabling s.partTime)
      (s.drainList.filter (fun x => x ≠ t)) (t ∈ s.drainList) := by
  have r := (retanked_withSettings (s := s) (t := t) (v := v)).closeCycle .disabled
  have channels : ((s.withSettings t v).closeCycle t .disabled).channels = s.channels := by simp [withSettings]
  have disables : s.enabledAs t v = (s.withSettings t v).disableTank t := by
    rw [enabledAs, if_neg (by rw [off, on]; decide), if_neg (by rw [off]; decide)]
  rw [disables, disableTank]
  dsimp only
  by_cases listed : t ∈ s.drainList
  · rw [if_pos (r.listed_iff.mpr listed), if_pos listed]
    have q := settling_leaveList r channels
    exact { q with noted := fun _ => q.noted trivial }
  · rw [if_neg (fun yes => listed (r.listed_iff.mp yes)), if_neg listed, setPhase_of_unlisted (by rw [r.drainList]; exact listed),
      filter_of_not_mem listed]
    have q := settling_of_retanked (r.inPhase .offline) channels
    exact { q with noted := fun yes => absurd yes listed }

/-- Whichever way, the tank keeps its weight and its spilling field, and a listed one is on the list still or has noted a
trigger. -/
theorem exists_settling_enabledAs (s : State) (t : Fin 8) (v : TankSettings) : ∃ k l noted,
    Settling s (s.enabledAs t v) t k l noted ∧ k.set = v ∧ k.owner = (s.tank t).owner ∧ k.weight = (s.tank t).weight
      ∧ (t ∈ s.drainList → noted ∨ t ∈ l ∧ k.drain = (s.tank t).drain) := by
  by_cases same : (s.tank t).set.enabled = v.enabled
  · exact ⟨_, _, _, settling_enabledAs_same same, rfl, rfl, rfl, fun listed => .inr ⟨listed, rfl⟩⟩
  cases on : (s.tank t).set.enabled with
  | false =>
    have now : v.enabled = true := by
      by_contra off
      exact same (on.trans (Bool.eq_false_iff.mpr off).symm)
    exact ⟨_, _, _, settling_enabledAs_on on now, rfl, rfl, rfl, fun listed => .inr ⟨listed, rfl⟩⟩
  | true =>
    have now : v.enabled = false := by
      by_contra still
      exact same (on.trans (Bool.not_eq_false _ ▸ still).symm)
    refine ⟨_, _, _, settling_enabledAs_off on now, ?_, ?_, ?_, fun listed => .inl listed⟩
    all_goals split <;> rfl

/-! ### The settings taken (R23, R34, R81, R88, R95) -/

theorem settling_settingsTaken {k : Tank} {l : List (Fin 8)} {noted : Prop} (m : Settling s (s.enabledAs t v) t k l noted) :
    Settling s (s.settingsTaken t v) t (weighed s.rain.catchment k).lowering l
      (((noted ∨ t ∈ l ∧ (weighed s.rain.catchment k).weight ≠ k.weight)
        ∨ ((s.tank t).set.stormSuspend ≠ v.stormSuspend ∧ t ∈ l ∧ s.rain.catchment = .storm ∧ k.spilling = false))
        ∨ (weighed s.rain.catchment k).lowering.drain ≠ (weighed s.rain.catchment k).drain) := by
  have heavy := m.recomputeWeight
  refine (heavy.noteTrigger_if _ ?_).lowerRequest
  rintro ⟨storm, listed, raining, dry⟩
  have inList : ((s.enabledAs t v).recomputeWeight t).listed t = true := State.listed_iff.mpr (by rw [heavy.list]; exact listed)
  have still : (((s.enabledAs t v).recomputeWeight t).tank t).spilling = false := by rw [heavy.tank]; exact dry
  have weather : ((s.enabledAs t v).recomputeWeight t).rain.catchment = .storm := by rw [heavy.rain]; exact raining
  rw [weather, inList, still, decide_eq_true storm]
  rfl

theorem onlyChanges_applyTankSet :
    onlyChanges [.tanks, .drains, .store, .notices, .trigger] s (s.applyTankSet t v) := by
  intro area other
  cases area <;> simp [unchanged] at other ⊢

theorem onlyChanges_applyShape {ps : List Point} :
    onlyChanges [.tanks, .drains, .store, .notices, .trigger] s (s.applyShape t ps) := by
  intro area other
  cases area <;> simp [unchanged] at other ⊢

end State

end Sys2Proof.Machine
end

section
/-! SUPPORT. What TANK_SET and SHAPE_SET make of a tank (R23 to R26, R31, R34, R83, R84, R88, R95). -/

namespace Sys2Proof.Machine

/-- The thresholds of two settings differ. -/
def thresholdsMove (old new : TankSettings) : Prop := old.e ≠ new.e ∨ old.fFull ≠ new.fFull ∨ old.h ≠ new.h

theorem lowering_weighed (alert : AlertLevel) (k : Tank) : (weighed alert k).lowering = weighed alert k.lowering := rfl

namespace State

variable {s : State} {t : Fin 8} {v : TankSettings} {k : Tank} {l : List (Fin 8)} {noted : Prop} {h : Held}

theorem applyTankSet_of_moves (moves : thresholdsMove (s.tank t).set v) :
    s.applyTankSet t v = (s.settingsTaken t v).reevaluate t := (applyTankSet_eq).trans (if_pos moves)

theorem applyTankSet_of_stands (stands : ¬ thresholdsMove (s.tank t).set v) : s.applyTankSet t v = s.settingsTaken t v :=
  (applyTankSet_eq).trans (if_neg stands)

/-- The evaluation at once of a tank whose settings are taken. -/
theorem tankMoved_evaluateFill {w : State} (m : Settling s w t k l noted) (held : k.held = some h) :
    TankMoved w (w.evaluateFill t h.fill) t
      (t ∈ l ∧ driedOut k (evaluatedTank s.rain.catchment k h.fill s.partTime))
      (evaluatedTank s.rain.catchment k h.fill s.partTime)
      (k.phase = .unknown ∨ (evaluatedTank s.rain.catchment k h.fill s.partTime).weight ≠ k.weight) := by
  have moved := (Retanked.refl w t).evaluateFill (fill := h.fill) (by rw [m.tank, held]; rfl)
  obtain ⟨-, clock, -⟩ := outer_eq_iff.mp m.outer
  have now : w.partTime = s.partTime := by simp only [partTime, clock]
  rw [m.tank, m.rain, m.list, now] at moved
  exact moved

theorem applyTankSet_cases (m : Settling s (s.settingsTaken t v) t k l noted) : s.applyTankSet t v = s.settingsTaken t v
    ∨ ∃ h, k.held = some h ∧ k.phase ≠ .offline
      ∧ TankMoved (s.settingsTaken t v) (s.applyTankSet t v) t
        (t ∈ l ∧ driedOut k (evaluatedTank s.rain.catchment k h.fill s.partTime))
        (evaluatedTank s.rain.catchment k h.fill s.partTime)
        (k.phase = .unknown ∨ (evaluatedTank s.rain.catchment k h.fill s.partTime).weight ≠ k.weight) := by
  by_cases moves : thresholdsMove (s.tank t).set v
  · rw [applyTankSet_of_moves moves]
    rcases reevaluate_cases (s.settingsTaken t v) t with same | ⟨h, held, online, filled⟩
    · exact .inl same
    · rw [m.tank] at held online
      rw [filled]
      exact .inr ⟨h, held, online, tankMoved_evaluateFill m held⟩
  · exact .inl (applyTankSet_of_stands moves)

theorem tank_of_moved {u w : State} {leaves triggers : Prop} {after : Tank} (moved : TankMoved w u t leaves after triggers) :
    (u.tank t).set = after.set ∧ (u.tank t).owner = after.owner ∧ (u.tank t).weight = after.weight := by
  by_cases yes : leaves
  · rw [(moved.left yes).1]
    exact ⟨rfl, rfl, rfl⟩
  · rw [(moved.stayed yes).1]
    exact ⟨rfl, rfl, rfl⟩

/-- Whatever it evaluates, TANK_SET gives its settings to the tank alone. -/
theorem applyTankSet_keeps (s : State) (t : Fin 8) (v : TankSettings) : ((s.applyTankSet t v).tank t).set = v
    ∧ ((s.applyTankSet t v).tank t).owner = (s.tank t).owner ∧ (∀ x, x ≠ t → (s.applyTankSet t v).tank x = s.tank x)
    ∧ (s.applyTankSet t v).globalSerial = s.globalSerial := by
  obtain ⟨k, l, noted, m, set_, owner, -⟩ := exists_settling_enabledAs s t v
  have w := settling_settingsTaken m
  rcases applyTankSet_cases w with same | ⟨h, -, -, moved⟩
  · rw [same, w.tank]
    exact ⟨set_, owner, w.others, w.serial⟩
  · obtain ⟨setAfter, ownerAfter, -⟩ := tank_of_moved moved
    obtain ⟨keepsSet, -⟩ := evaluatedTank_set s.rain.catchment (weighed s.rain.catchment k).lowering h.fill s.partTime
    obtain ⟨-, -, keepsOwner⟩ := evaluatedTank_keeps s.rain.catchment (weighed s.rain.catchment k).lowering h.fill s.partTime
    exact ⟨setAfter.trans (keepsSet.trans set_), ownerAfter.trans (keepsOwner.trans owner),
      fun x ne => (moved.others x ne).trans (w.others x ne), moved.serial.trans w.serial⟩

/-! ### The tank disabled, enabled, or neither (R24, R31, R84) -/

/-- A tank that tells no measured water is not evaluated at once. -/
theorem applyTankSet_of_blind (m : Settling s (s.settingsTaken t v) t k l noted) (blind : k.phase.measured = false) :
    s.applyTankSet t v = s.settingsTaken t v := by
  by_cases moves : thresholdsMove (s.tank t).set v
  · rw [applyTankSet_of_moves moves, reevaluate_of_blind (by rw [m.tank]; exact blind)]
  · exact applyTankSet_of_stands moves

theorem applyTankSet_disabled (on : (s.tank t).set.enabled = true) (off : v.enabled = false) :
    (s.applyTankSet t v).tank t = weighed s.rain.catchment
      (if t ∈ s.drainList then
        outOfList { tankSettled (s.tank t) v with
          phase := .offline, openCycle := none, lastCycle := lastClosed (s.tank t) .disabled s.partTime } .disabled
      else { tankSettled (s.tank t) v with
          phase := .offline, openCycle := none, lastCycle := lastClosed (s.tank t) .disabled s.partTime })
    ∧ (s.applyTankSet t v).drainList = s.drainList.filter (fun x => x ≠ t)
    ∧ (t ∈ s.drainList → (s.applyTankSet t v).trigger = true) := by
  have m := settling_settingsTaken (settling_enabledAs_off on off)
  have blind : (weighed s.rain.catchment (if t ∈ s.drainList then
      outOfList (({ s.tank t with set := v } : Tank).disabling s.partTime) .disabled
      else ({ s.tank t with set := v } : Tank).disabling s.partTime)).lowering.phase.measured = false := by
    split <;> rfl
  rw [applyTankSet_of_blind m blind, m.tank]
  refine ⟨?_, m.list, fun listed => m.noted (.inl (.inl (.inl listed)))⟩
  split <;> rfl

theorem applyTankSet_enabled (off : (s.tank t).set.enabled = false) (on : v.enabled = true) (offline : (s.tank t).phase = .offline)
    (own : ownChannels s t) : (s.applyTankSet t v).tank t = weighed s.rain.catchment { tankSettled (s.tank t) v with
        phase := if ∃ c, (s.channel c).binder = .tank t .level ∧ (s.channel c).status ≠ .fault then .unknown else .offline }
      ∧ (s.applyTankSet t v).drainList = s.drainList := by
  have m := settling_settingsTaken (settling_enabledAs_on off on)
  have sound : s.levelSound t = true ↔ ∃ c, (s.channel c).binder = .tank t .level ∧ (s.channel c).status ≠ .fault := by
    cases held : s.channelOf (.tank t .level) with
    | none =>
      refine iff_of_false (by simp [levelSound, held]) ?_
      rintro ⟨c, holds, -⟩
      exact channelOf_eq_none_iff.mp held c holds
    | some c =>
      rw [levelSound_of_channelOf held]
      have binder := binder_of_channelOf held
      exact ⟨fun ne => ⟨c, binder, ne⟩, fun ⟨d, holds, ne⟩ => by rwa [own _ d c holds binder] at ne⟩
  have phase : (if s.levelSound t = true ∧ (s.tank t).phase = .offline then Phase.unknown else (s.tank t).phase) =
      if ∃ c, (s.channel c).binder = .tank t .level ∧ (s.channel c).status ≠ .fault then .unknown else .offline := by
    rw [offline]
    exact if_congr ((and_iff_left rfl).trans sound) rfl rfl
  have blind : (if s.levelSound t = true ∧ (s.tank t).phase = .offline then Phase.unknown else (s.tank t).phase).measured = false := by
    rw [phase]
    split <;> rfl
  rw [applyTankSet_of_blind m blind, m.tank, phase]
  exact ⟨rfl, m.list⟩

/-- The settings taken of a tank that is neither enabled nor disabled. -/
theorem settling_settingsTaken_same (same : (s.tank t).set.enabled = v.enabled) :
    ∃ noted, Settling s (s.settingsTaken t v) t (weighed s.rain.catchment (tankSettled (s.tank t) v)) s.drainList noted :=
  ⟨_, settling_settingsTaken (settling_enabledAs_same same)⟩

/-- A tank that only takes its settings is evaluated at once exactly where the rules say. -/
theorem evaluatesNow_settingsTaken (m : Settling s (s.settingsTaken t v) t k l noted) (phase : k.phase = (s.tank t).phase)
    (own : ownChannels s t) : evaluatesNow s t ↔
      ((s.settingsTaken t v).tank t).phase.measured = true ∧ (s.settingsTaken t v).levelStale t = false := by
  have stale : (s.settingsTaken t v).levelStale t = s.levelStale t := by
    have kept := channelOf_congr m.channels (.tank t .level)
    cases held : s.channelOf (.tank t .level) with
    | none => rw [levelStale_of_none held, levelStale_of_none (kept.trans held)]
    | some c => rw [levelStale_of_some held, levelStale_of_some (kept.trans held), channel_congr m.channels]
  rw [m.tank, phase, stale]
  exact evaluatesNow_iff own

theorem applyTankSet_same (same : (s.tank t).set.enabled = v.enabled) (own : ownChannels s t)
    (quiet : ¬ thresholdsMove (s.tank t).set v ∨ ¬ evaluatesNow s t ∨ (s.tank t).held = none) :
    (s.applyTankSet t v).tank t = weighed s.rain.catchment (tankSettled (s.tank t) v)
      ∧ (s.applyTankSet t v).drainList = s.drainList := by
  obtain ⟨noted, m⟩ := settling_settingsTaken_same same
  have stands : s.applyTankSet t v = s.settingsTaken t v := by
    by_cases moves : thresholdsMove (s.tank t).set v
    · rw [applyTankSet_of_moves moves]
      rcases quiet.resolve_left (fun no => no moves) with not | none_
      · cases held : ((s.settingsTaken t v).tank t).held with
        | none => exact reevaluate_of_none held
        | some h =>
          rw [reevaluate_of_some held, if_neg (fun now => not ((evaluatesNow_settingsTaken m rfl own).mpr now))]
      · refine reevaluate_of_none ?_
        rw [m.tank]
        exact none_
    · exact applyTankSet_of_stands moves
  rw [stands]
  exact ⟨m.tank, m.list⟩

theorem applyTankSet_evaluated (same : (s.tank t).set.enabled = v.enabled) (own : ownChannels s t)
    (moves : thresholdsMove (s.tank t).set v) (now : evaluatesNow s t) (held : (s.tank t).held = some h) :
    TankMoved (s.settingsTaken t v) (s.applyTankSet t v) t
      (t ∈ s.drainList ∧ (evaluatedTank s.rain.catchment (tankSettled (s.tank t) v) h.fill s.partTime).phase = .dry
        ∧ (s.tank t).phase ≠ .dry)
      (evaluatedTank s.rain.catchment (tankSettled (s.tank t) v) h.fill s.partTime)
      ((s.tank t).phase = .unknown
        ∨ (evaluatedTank s.rain.catchment (tankSettled (s.tank t) v) h.fill s.partTime).weight ≠
          (weighed s.rain.catchment (tankSettled (s.tank t) v)).weight)
    ∧ (s.settingsTaken t v).drainList = s.drainList := by
  obtain ⟨noted, m⟩ := settling_settingsTaken_same same
  have heldHere : ((s.settingsTaken t v).tank t).held = some h := by
    rw [m.tank]
    exact held
  have online : (tankSettled (s.tank t) v).phase ≠ .offline := by
    obtain ⟨phase, -⟩ := now
    intro offline
    have off : (s.tank t).phase = .offline := offline
    rw [off] at phase
    simp at phase
  have moved := tankMoved_evaluateFill m held
  rw [evaluatedTank_weighed online] at moved
  rw [applyTankSet_of_moves moves, reevaluate_of_some heldHere, if_pos ((evaluatesNow_settingsTaken m rfl own).mp now)]
  exact ⟨moved, m.list⟩

/-! ### The trigger (R88, R95) -/

theorem trigger_applyTankSet (listed : t ∈ s.drainList)
    (why : (tankSettled (s.tank t) v).drain ≠ (s.tank t).drain ∨ ((s.applyTankSet t v).tank t).weight ≠ (s.tank t).weight
      ∨ ((s.tank t).set.stormSuspend ≠ v.stormSuspend ∧ s.rain.catchment = .storm ∧ (s.tank t).spilling = false
        ∧ (s.tank t).set.enabled = v.enabled)) : (s.applyTankSet t v).trigger = true := by
  obtain ⟨k, l, noted, m, set_, -, weight, place⟩ := exists_settling_enabledAs s t v
  have w := settling_settingsTaken m
  rcases place listed with left | ⟨stays, drain⟩
  · have noted_ := w.noted (.inl (.inl (.inl left)))
    rcases applyTankSet_cases w with same | ⟨h, -, -, moved⟩
    · rw [same]
      exact noted_
    · exact moved.trigger.mpr (.inl noted_)
  have storm : (s.tank t).set.stormSuspend ≠ v.stormSuspend ∧ s.rain.catchment = .storm ∧ (s.tank t).spilling = false
      ∧ (s.tank t).set.enabled = v.enabled → (s.settingsTaken t v).trigger = true := by
    rintro ⟨changes, storm, dry, same⟩
    exact (settling_settingsTaken (settling_enabledAs_same same)).noted (.inl (.inr ⟨changes, listed, storm, dry⟩))
  have lowered : (tankSettled (s.tank t) v).drain ≠ (s.tank t).drain → (s.settingsTaken t v).trigger = true := by
    intro moves
    refine w.noted (.inr ?_)
    have same : (weighed s.rain.catchment k).lowering.drain = (tankSettled (s.tank t) v).drain := by
      rw [tankSettled_eq]
      simp only [Tank.lowering, weighed, drain, set_]
    rw [same]
    exact fun eq => moves (eq.trans drain)
  rcases applyTankSet_cases w with same | ⟨h, -, -, moved⟩
  · rw [same] at why ⊢
    rcases why with drains | heavier | stormy
    · exact lowered drains
    · rw [w.tank, ← weight] at heavier
      exact w.noted (.inl (.inl (.inr ⟨stays, heavier⟩)))
    · exact storm stormy
  · refine moved.trigger.mpr ?_
    rcases why with drains | heavier | stormy
    · exact .inl (lowered drains)
    · obtain ⟨-, -, weightAfter⟩ := tank_of_moved moved
      by_cases first : (weighed s.rain.catchment k).weight = k.weight
      · refine .inr (.inr ⟨by rw [w.list]; exact stays, .inr ?_⟩)
        rw [weightAfter, ← weight, ← first] at heavier
        exact heavier
      · exact .inl (w.noted (.inl (.inl (.inr ⟨stays, first⟩))))
    · exact .inl (storm stormy)

end State

end Sys2Proof.Machine
end

section
/-! SUPPORT. The obligation of TANK_SET and SHAPE_SET (R23 to R26, R31, R34, R38, R81, R83, R84, R88, R95). -/

namespace Sys2Proof.Machine

/-- The values a TANK_SET gives a tank. -/
theorem clampTank_tankSent (v : TankOperands) (shape : List Point) : clampTank (tankSent v shape) =
    { enabled := v.flags.toNat % 2 = 1, preEmpt := v.flags.toNat / 2 % 2 = 1, stormSuspend := v.flags.toNat / 4 % 2 = 1,
      cls := max 1 (min 4 v.cls.toNat), mLimit := min 1000 v.mLimit.toNat, e := min 200 v.e.toNat,
      fFull := max 700 (min 1000 v.fFull.toNat), h := max 5 (min 100 v.h.toNat), tol := min 200 v.tol.toNat,
      dLo := max 50 (min 450 v.dLo.toNat), dHi := max 550 (min 950 v.dHi.toNat), span := max 500 (min 20000 v.span.toNat),
      shape := shape } := by
  simp [clampTank, tankSent, clamp]

/-- A TANK_SET carries every value within its range. -/
def tankSetFits (v : TankOperands) : Prop :=
  1 ≤ v.cls.toNat ∧ v.cls.toNat ≤ 4 ∧ v.mLimit.toNat ≤ 1000 ∧ v.e.toNat ≤ 200 ∧ 700 ≤ v.fFull.toNat
    ∧ v.fFull.toNat ≤ 1000 ∧ 5 ≤ v.h.toNat ∧ v.h.toNat ≤ 100 ∧ v.tol.toNat ≤ 200 ∧ 50 ≤ v.dLo.toNat
    ∧ v.dLo.toNat ≤ 450 ∧ 550 ≤ v.dHi.toNat ∧ v.dHi.toNat ≤ 950 ∧ 500 ≤ v.span.toNat ∧ v.span.toNat ≤ 20000

/-- A value is at its nearest bound already exactly where it is within the bounds. -/
theorem clamp_eq_self_iff {low high v : Nat} (le : low ≤ high) : clamp low high v = v ↔ low ≤ v ∧ v ≤ high := by
  unfold clamp
  omega

theorem clampTank_eq_self_iff (v : TankOperands) (shape : List Point) :
    clampTank (tankSent v shape) = tankSent v shape ↔ tankSetFits v := by
  simp only [clampTank, tankSent, TankSettings.mk.injEq, true_and, and_true, tankSetFits]
  rw [clamp_eq_self_iff (by decide), clamp_eq_self_iff (by decide), clamp_eq_self_iff (by decide), clamp_eq_self_iff (by decide),
    clamp_eq_self_iff (by decide), clamp_eq_self_iff (by decide), clamp_eq_self_iff (by decide), clamp_eq_self_iff (by decide),
    clamp_eq_self_iff (by decide)]
  simp only [Nat.zero_le, true_and, and_assoc]

theorem doneOr_cases (s : State) (clamped : Bool) : ∃ code, doneOr s clamped = answer s code
    ∧ (code = .done ∨ code = .doneClamped) ∧ (code = .done ↔ clamped = false) := by
  cases clamped
  · exact ⟨.done, rfl, .inl rfl, iff_of_true rfl rfl⟩
  · exact ⟨.doneClamped, rfl, .inr rfl, iff_of_false (by decide) (by decide)⟩

theorem exists_tankSetAnswer (v : TankOperands) (t : Fin 8) (s : State) : ∃ code,
    tankSetAnswer v t s = answer (s.applyTankSet t (clampTank (tankSent v (s.tank t).set.shape))) code
      ∧ (code = .done ∨ code = .doneClamped) ∧ (code = .done ↔ tankSetFits v) := by
  obtain ⟨code, eq, cases_, done⟩ := doneOr_cases (s.applyTankSet t (clampTank (tankSent v (s.tank t).set.shape)))
    (decide (clampTank (tankSent v (s.tank t).set.shape) ≠ tankSent v (s.tank t).set.shape))
  refine ⟨code, eq, cases_, done.trans ?_⟩
  rw [decide_eq_false_iff_not, not_not]
  exact clampTank_eq_self_iff v _

/-! ### The shape table replaced (R25, R26) -/

/-- A tank with another shape table, volume and fill computed from the level held. -/
def Tank.reshaped (k : Tank) (ps : List Point) : Tank :=
  { k with set := { k.set with shape := ps }, held := k.held.map (fun x => heldOf ps x.level) }

namespace State

variable {s w : State} {t : Fin 8} {ps : List Point} {x : Held}

theorem applyShape_of_same (same : (s.tank t).set.shape = ps) : s.applyShape t ps = s := if_pos same

/-- The tank with another table, volume and fill as they stand. -/
def withShape (s : State) (t : Fin 8) (ps : List Point) : State :=
  s.modTank t (fun k => { k with set := { k.set with shape := ps } })

theorem retanked_withShape : Retanked s (s.withShape t ps) t { s.tank t with set := { (s.tank t).set with shape := ps } } :=
  (Retanked.refl s t).modTank _

theorem applyShape_of_none (other : (s.tank t).set.shape ≠ ps) (none_ : (s.tank t).held = none) :
    s.applyShape t ps = s.withShape t ps := by
  simp [applyShape, other, none_, withShape]

theorem applyShape_of_some (other : (s.tank t).set.shape ≠ ps) (some_ : (s.tank t).held = some x) :
    s.applyShape t ps = ((s.withShape t ps).modTank t (fun k => { k with held := some (heldOf ps x.level) })).reevaluate t := by
  simp [applyShape, other, some_, withShape]

/-- Another table is an evaluation at once of the tank with that table. -/
theorem applyShape_of_ne (other : (s.tank t).set.shape ≠ ps) : ∃ w, Retanked s w t ((s.tank t).reshaped ps)
    ∧ w.channels = s.channels ∧ s.applyShape t ps = w.reevaluate t := by
  have first := retanked_withShape (s := s) (t := t) (ps := ps)
  have held : ((s.withShape t ps).tank t).held = (s.tank t).held := by rw [first.tank]
  cases have_ : (s.tank t).held with
  | none =>
    refine ⟨s.withShape t ps, ?_, rfl,
      (applyShape_of_none other have_).trans (reevaluate_of_none (held.trans have_)).symm⟩
    rw [Tank.reshaped, have_, Option.map_none, ← have_]
    exact first
  | some x =>
    refine ⟨(s.withShape t ps).modTank t (fun k => { k with held := some (heldOf ps x.level) }), ?_, rfl,
      applyShape_of_some other have_⟩
    rw [Tank.reshaped, have_, Option.map_some]
    exact first.modTank _

theorem tank_evaluateFill_of_unlisted {k : Tank} (r : Retanked s w t k) (free : t ∉ s.drainList) (held : k.held = some x) :
    (w.evaluateFill t x.fill).tank t = evaluatedTank s.rain.catchment k x.fill s.partTime
      ∧ (∀ y, y ≠ t → (w.evaluateFill t x.fill).tank y = s.tank y) ∧ (w.evaluateFill t x.fill).drains = s.drains := by
  have moved := r.evaluateFill (fill := x.fill) (by rw [held]; rfl)
  obtain ⟨here, list⟩ := moved.stayed (fun leaves => free leaves.1)
  exact ⟨here, moved.others, Prod.ext list moved.serial⟩

/-- The tank of another table, evaluated or not. -/
theorem applyShape_keeps (free : t ∉ s.drainList) (other : (s.tank t).set.shape ≠ ps) :
    ((s.applyShape t ps).tank t).set = { (s.tank t).set with shape := ps }
      ∧ ((s.applyShape t ps).tank t).owner = (s.tank t).owner ∧ ((s.applyShape t ps).tank t).grant = (s.tank t).grant
      ∧ (∀ y, y ≠ t → (s.applyShape t ps).tank y = s.tank y) ∧ (s.applyShape t ps).drains = s.drains := by
  obtain ⟨w, r, -, eq⟩ := applyShape_of_ne other
  rw [eq]
  rcases reevaluate_cases w t with same | ⟨x, held, -, filled⟩
  · rw [same, r.tank]
    exact ⟨rfl, rfl, rfl, r.others, Prod.ext r.drainList r.globalSerial⟩
  · rw [r.tank] at held
    obtain ⟨here, others, drains⟩ := tank_evaluateFill_of_unlisted r free held
    obtain ⟨set_, grant⟩ := evaluatedTank_set s.rain.catchment ((s.tank t).reshaped ps) x.fill s.partTime
    obtain ⟨-, -, owner⟩ := evaluatedTank_keeps s.rain.catchment ((s.tank t).reshaped ps) x.fill s.partTime
    rw [filled, here]
    exact ⟨set_, owner, grant, others, drains⟩

theorem evaluatesNow_of_retanked {k : Tank} (r : Retanked s w t k) (phase : k.phase = (s.tank t).phase)
    (channels : w.channels = s.channels) : evaluatesNow w t ↔ evaluatesNow s t := by
  unfold evaluatesNow
  rw [r.tank, phase]
  simp only [channel_congr channels]

theorem ownChannels_congr (channels : w.channels = s.channels) (own : ownChannels s t) : ownChannels w t := by
  intro r c d first second
  rw [channel_congr channels] at first second
  exact own r c d first second

/-- Another table with nothing held, unmeasured, or evaluated. -/
theorem tank_applyShape (free : t ∉ s.drainList) (other : (s.tank t).set.shape ≠ ps) :
    ((s.tank t).held = none → (s.applyShape t ps).tank t = (s.tank t).reshaped ps)
      ∧ ∀ x, ((s.tank t).reshaped ps).held = some x → ownChannels s t →
        (¬ evaluatesNow s t → (s.applyShape t ps).tank t = (s.tank t).reshaped ps)
        ∧ (evaluatesNow s t → (s.applyShape t ps).tank t =
            evaluatedTank s.rain.catchment ((s.tank t).reshaped ps) x.fill s.partTime) := by
  obtain ⟨w, r, channels, eq⟩ := applyShape_of_ne other
  rw [eq]
  refine ⟨fun none_ => ?_, fun x held own => ?_⟩
  · have nothing : (w.tank t).held = none := by
      rw [r.tank, Tank.reshaped, none_]
      rfl
    rw [reevaluate_of_none nothing, r.tank]
  · have heldHere : (w.tank t).held = some x := by rw [r.tank, held]
    have now := (evaluatesNow_iff (ownChannels_congr channels own)).symm.trans (evaluatesNow_of_retanked r rfl channels)
    rw [reevaluate_of_some heldHere]
    refine ⟨fun not => ?_, fun yes => ?_⟩
    · rw [if_neg (fun both => not (now.mp both)), r.tank]
    · rw [if_pos (now.mpr yes)]
      obtain ⟨here, -⟩ := tank_evaluateFill_of_unlisted r free held
      exact here

end State

open State


/-- A listed tank is evaluated and leaves the list: the owner's port hears DRAIN_ENDED. -/
theorem told_applyTankSet {s : State} {t : Fin 8} {v : TankSettings} {x : Held} {p : Port}
    (same : (s.tank t).set.enabled = v.enabled) (own : ownChannels s t)
    (moves : thresholdsMove (s.tank t).set v) (now : evaluatesNow s t) (held : (s.tank t).held = some x)
    (site : portOwner p ≠ .nobody) (owner : (s.tank t).owner = portOwner p)
    (leaves : t ∈ s.drainList ∧ (evaluatedTank s.rain.catchment (tankSettled (s.tank t) v) x.fill s.partTime).phase = .dry
      ∧ (s.tank t).phase ≠ .dry) :
    (s.applyTankSet t v).trigger = true ∧ ((s.applyTankSet t v).port p).notices &&& noticeWord .drainEnded ≠ 0#16 := by
  obtain ⟨moved, -⟩ := applyTankSet_evaluated same own moves now held
  obtain ⟨-, -, kept⟩ := evaluatedTank_keeps s.rain.catchment (tankSettled (s.tank t) v) x.fill s.partTime
  have owned := kept.trans owner
  exact ⟨moved.trigger.mpr (.inr (.inl leaves)), moved.told leaves p (by rw [owned]; exact site) owned⟩

/-- Settles O34: TANK_SET by the settings it takes and the evaluation at once, SHAPE_SET by the table it replaces. -/
theorem tankSetAndShapeSet : Obligations.TankSetAndShapeSet := by
  intro h x s b t named owner
  refine ⟨fun v admitted => ?_, fun v admitted => ?_⟩
  · have site : h.port ∈ sitePorts := admitted.role
    have ruled : ownTank h.port x (tankSetAnswer v) (s.during b) = tankSetAnswer v t (s.during b) :=
      ownTank_of_owner named site owner
    obtain ⟨code, applied, codes, done⟩ := exists_tankSetAnswer v t (s.during b)
    obtain ⟨u, marks, frame⟩ := exists_marking (ruled.trans applied)
    generalize settings : clampTank (tankSent v ((s.during b).tank t).set.shape) = new at applied marks frame
    have tank (k : Fin 8) : u.tank k = ((s.during b).applyTankSet t new).tank k := tank_congr (frame .tanks (by decide)) k
    have drains : u.drains = ((s.during b).applyTankSet t new).drains := frame .drains (by decide)
    have list := drainList_congr drains
    have trigger : u.trigger = ((s.during b).applyTankSet t new).trigger := frame .trigger (by decide)
    obtain ⟨set_, owned, others, serial⟩ := applyTankSet_keeps (s.during b) t new
    have taken : (u.tank t).set = new := (congrArg Tank.set (tank t)).trans set_
    refine ⟨u, code, exec_of_rule rfl admitted marks, ?_, codes, done, ?_, ?_, ?_, ?_, ?_⟩
    · exact taken.trans (settings.symm.trans (clampTank_tankSent v _))
    · exact (congrArg Tank.owner (tank t)).trans owned
    · exact onlyChanges_trans (onlyChanges_mono (by decide) onlyChanges_applyTankSet) (onlyChanges_mono (by decide) frame)
    · exact fun k ne => (tank k).trans (others k ne)
    · exact (congrArg Prod.snd drains :).trans serial
    · dsimp only
      rw [taken, tank t, list, trigger]
      refine ⟨?_, ?_, ?_, ?_⟩
      · exact fun on off => applyTankSet_disabled (s := s.during b) on off
      · exact fun off on offline own => applyTankSet_enabled (s := s.during b) off on offline own
      · intro same own
        refine ⟨fun quiet => applyTankSet_same (s := s.during b) same own quiet, fun held moves now some_ => ?_⟩
        obtain ⟨moved, before⟩ := applyTankSet_evaluated (s := s.during b) same own moves now some_
        refine ⟨moved.tank_eq, ?_, fun leaves => ?_⟩
        · rw [moved.drainList_eq, before]
          rfl
        · rw [notices_congr (frame .notices (by decide))]
          exact told_applyTankSet (s := s.during b) same own moves now some_ (portOwner_ne_nobody site) owner leaves
      · exact fun listed why => trigger_applyTankSet (s := s.during b) listed why
  · have site : h.port ∈ sitePorts := admitted.role
    have ruled : ownTank h.port x (shapeSetAnswer v) (s.during b) = shapeSetAnswer v t (s.during b) :=
      ownTank_of_owner named site owner
    refine ⟨fun listed => ?_, fun free bad => ?_, fun free ok => ?_⟩
    · have refused : shapeSetAnswer v t (s.during b) = answer (s.during b) .refusedState := if_pos (State.listed_iff.mpr listed)
      exact exec_of_rule rfl admitted (marking_of_refused (ruled.trans refused))
    · have refused : shapeSetAnswer v t (s.during b) = answer (s.during b) .refusedRange :=
        (if_neg (fun listed => free (State.listed_iff.mp listed))).trans (if_neg (by rw [bad]; decide))
      exact exec_of_rule rfl admitted (marking_of_refused (ruled.trans refused))
    · have applied : shapeSetAnswer v t (s.during b) = answer ((s.during b).applyShape t (shapeSent v)) .done :=
        (if_neg (fun listed => free (State.listed_iff.mp listed))).trans (if_pos ok)
      by_cases same : ((s.during b).tank t).set.shape = shapeSent v
      · rw [applyShape_of_same same] at applied
        have eq : { (s.tank t).set with shape := shapeSent v } = (s.tank t).set := by
          rw [← same]
          rfl
        have stands := exec_of_rule rfl admitted (marking_of_same (ruled.trans applied) rfl)
        refine ⟨s.during b, stands, eq.symm, rfl, rfl, onlyChanges_refl _ _, fun _ _ => rfl, rfl, fun _ => rfl, ?_⟩
        exact fun moves => absurd rfl moves
      · obtain ⟨u, marks, frame⟩ := exists_marking (ruled.trans applied)
        have tank (k : Fin 8) : u.tank k = ((s.during b).applyShape t (shapeSent v)).tank k :=
          tank_congr (frame .tanks (by decide)) k
        obtain ⟨set_, owned, grant, others, drains⟩ := applyShape_keeps (s := s.during b) free same
        obtain ⟨nothing, evaluated⟩ := tank_applyShape (s := s.during b) free same
        have taken : (u.tank t).set = { (s.tank t).set with shape := shapeSent v } := (congrArg Tank.set (tank t)).trans set_
        refine ⟨u, exec_of_rule rfl admitted marks, taken, ?_, ?_, ?_, ?_, ?_, ?_, ?_⟩
        · exact (congrArg Tank.owner (tank t)).trans owned
        · exact (congrArg Tank.grant (tank t)).trans grant
        · exact onlyChanges_trans (onlyChanges_mono (by decide) onlyChanges_applyShape) (onlyChanges_mono (by decide) frame)
        · exact fun k ne => (tank k).trans (others k ne)
        · exact (frame .drains (by decide) : u.drains = _).trans drains
        · intro stands
          rw [taken] at stands
          exact absurd (congrArg TankSettings.shape stands).symm same
        · intro _
          dsimp only
          rw [taken, tank t]
          exact ⟨nothing, evaluated⟩

end Sys2Proof.Machine
end

section
/-! SUPPORT. What WORKS_SET makes of the allowance unit (R71, R75, R76). -/

namespace Sys2Proof.Machine

/-- The values a WORKS_SET gives. -/
theorem clampWorks_worksSent (v : WorksOperands) : clampWorks (worksSent v) =
    { cLeg := min 4000 v.cLeg.toNat, fallback := min (min 4000 v.cLeg.toNat) v.fallback.toNat,
      tLease := max 1 (min 60 v.tLease.toNat), tConfirm := max 10 (min 600 v.tConfirm.toNat), legTol := min 500 v.legTol.toNat } := by
  simp [clampWorks, worksSent, clamp]

/-- A WORKS_SET carries every number of its own within its range. -/
def worksSetFits (v : WorksOperands) : Prop :=
  v.cLeg.toNat ≤ 4000 ∧ v.fallback.toNat ≤ v.cLeg.toNat ∧ 1 ≤ v.tLease.toNat ∧ v.tLease.toNat ≤ 60
    ∧ 10 ≤ v.tConfirm.toNat ∧ v.tConfirm.toNat ≤ 600 ∧ v.legTol.toNat ≤ 500

theorem clampWorks_eq_self_iff (v : WorksOperands) : clampWorks (worksSent v) = worksSent v ↔ worksSetFits v := by
  simp only [clampWorks, worksSent, WorksSettings.mk.injEq, worksSetFits]
  rw [clamp_eq_self_iff (by decide), clamp_eq_self_iff (low := 1) (by decide), clamp_eq_self_iff (low := 10) (by decide),
    clamp_eq_self_iff (high := 500) (by decide)]
  simp only [Nat.zero_le, true_and, and_assoc]
  refine and_congr_right fun within => ?_
  have leg : clamp 0 4000 v.cLeg.toNat = v.cLeg.toNat := (clamp_eq_self_iff (by decide)).mpr ⟨Nat.zero_le _, within⟩
  rw [leg, clamp_eq_self_iff (Nat.zero_le _)]
  simp only [Nat.zero_le, true_and]

namespace State

variable {s : State} {v : WorksSettings}

/-- The WORKS settings replaced, before they take effect. -/
def withWorks (s : State) (v : WorksSettings) : State := { s with works := v }

/-- A_eff formed anew, recorded where it moves. -/
def limited (s : State) (v : WorksSettings) : State :=
  if (s.withWorks v).formedAllowance = (s.withWorks v).allow.aEff then s.withWorks v else (s.withWorks v).allowanceEvent .limit none

theorem applyWorksSet_eq : s.applyWorksSet v =
    if s.works.tLease ≠ v.tLease && (s.limited v).lapseDue then (s.limited v).lapseLease else s.limited v := rfl

theorem allow_limited : (s.limited v).allow = { s.allow with aEff := (s.withWorks v).formedAllowance } := by
  unfold limited
  split
  · rename_i same
    rw [same]
    rfl
  · exact allowanceEvent_allow _ _ _

theorem works_limited : (s.limited v).works = v := by
  unfold limited
  split
  · rfl
  · simp [withWorks]

theorem onlyChanges_limited : onlyChanges [.works, .allow, .store, .notices, .trigger] s (s.limited v) := by
  have set_ : onlyChanges [.works] s (s.withWorks v) := by
    intro area other
    cases area <;> first | rfl | exact absurd (by simp) other
  unfold limited
  split
  · exact onlyChanges_mono (by decide) set_
  · exact onlyChanges_trans (onlyChanges_mono (by decide) set_) (onlyChanges_mono (by decide) (onlyChanges_allowanceEvent _ _))

/-- The lease has run out by its new length in RUNNING or STALLED (R71). -/
def leaseEnds (s : State) (tLease : Nat) : Prop :=
  (s.allow.sched = .running ∨ s.allow.sched = .stalled) ∧ s.works.tLease ≠ tLease
    ∧ ∃ start, s.allow.lease = some start ∧ start + 60 * tLease ≤ s.partTime

theorem lapses_iff : (s.works.tLease ≠ v.tLease && (s.limited v).lapseDue) = true ↔ s.leaseEnds v.tLease := by
  have clock : (s.limited v).partTime = s.partTime := by
    have outer : (s.limited v).outer = s.outer := onlyChanges_limited .outer (by decide)
    obtain ⟨-, clock, -⟩ := outer_eq_iff.mp outer
    simp only [partTime, clock]
  rw [lapseDue, leaseDue, allow_limited, works_limited, clock, leaseEnds]
  simp only [ne_eq, Bool.and_eq_true, Bool.not_eq_true', decide_eq_false_iff_not, Bool.or_eq_true, decide_eq_true_eq,
    decide_not]
  cases s.allow.lease with
  | none => simp
  | some start =>
    simp only [decide_eq_true_eq, Option.some.injEq]
    constructor
    · rintro ⟨ne, busy, out⟩
      exact ⟨busy, ne, start, rfl, out⟩
    · rintro ⟨busy, ne, _, rfl, out⟩
      exact ⟨ne, busy, out⟩

theorem applyWorksSet_of_lapse (ends : s.leaseEnds v.tLease) : s.applyWorksSet v = (s.limited v).lapseLease :=
  applyWorksSet_eq.trans (if_pos (lapses_iff.mpr ends))

theorem applyWorksSet_of_not_lapse (stands : ¬ s.leaseEnds v.tLease) : s.applyWorksSet v = s.limited v :=
  applyWorksSet_eq.trans (if_neg (fun yes => stands (lapses_iff.mp yes)))

theorem works_applyWorksSet : (s.applyWorksSet v).works = v := by
  by_cases ends : s.leaseEnds v.tLease
  · rw [applyWorksSet_of_lapse ends]
    exact (onlyChanges_lapseLease (s := s.limited v) .works (by decide) : _ = _).trans works_limited
  · rw [applyWorksSet_of_not_lapse ends, works_limited]

theorem onlyChanges_applyWorksSet : onlyChanges [.works, .allow, .store, .notices, .trigger] s (s.applyWorksSet v) := by
  by_cases ends : s.leaseEnds v.tLease
  · rw [applyWorksSet_of_lapse ends]
    exact onlyChanges_trans onlyChanges_limited (onlyChanges_mono (by decide) onlyChanges_lapseLease)
  · rw [applyWorksSet_of_not_lapse ends]
    exact onlyChanges_limited

/-- Nothing of the allowance unit but A_eff moves where no lease ends. -/
theorem allow_applyWorksSet (stands : ¬ s.leaseEnds v.tLease) :
    (s.applyWorksSet v).allow = { s.allow with aEff := (s.applyWorksSet v).allow.aEff } := by
  rw [applyWorksSet_of_not_lapse stands, allow_limited]

/-- A lease that ends lapses, which the three ports hear. -/
theorem applyWorksSet_lapsed (ends : s.leaseEnds v.tLease) : (s.applyWorksSet v).allow.sched = .lapsed
    ∧ (s.applyWorksSet v).allow.lease = none ∧ (s.applyWorksSet v).allow.active = s.allow.active
    ∧ (s.applyWorksSet v).allow.hold = s.allow.hold
    ∧ ∀ p, p = .works ∨ p = .siteA ∨ p = .siteB → ((s.applyWorksSet v).port p).notices &&& noticeWord .lease ≠ 0#16 := by
  obtain ⟨-, active, hold, -⟩ := freezeActive_schedule (s.limited v)
  rw [applyWorksSet_of_lapse ends, allow_lapseLease]
  refine ⟨rfl, rfl, ?_, ?_, ?_⟩
  · refine active.trans ?_
    rw [allow_limited]
  · refine hold.trans ?_
    rw [allow_limited]
  · intro p three
    rw [lapseLease_eq]
    exact told_notifyAll _ (mem_leasePorts three)

end State

end Sys2Proof.Machine
end

section
/-! SUPPORT. The binding of the leg meter (R4, R116). -/

namespace Sys2Proof.Machine

/-- The leg check as it begins. -/
def freshLegCheck : Leg := { excess := false, count := 0 }

namespace State

variable {s : State} {c d : Fin 16} {sent : ChannelParams} {target : Option (Fin 16)} {b : Binder}

/-- What a binding of the leg meter may change. -/
def legAreas : List Area := [.channels, .leg, .store, .notices]

theorem applyBinding_none : s.applyBinding b none sent = s.freed b := by
  unfold applyBinding freed releaseBinder
  cases s.channelOf b <;> rfl

theorem applyBinding_of_free (free : (s.channel c).binder ≠ b) : s.applyBinding b (some c) sent = s.takeChannel b c sent :=
  if_neg free

theorem applyBinding_of_held (held : (s.channel c).binder = b) : s.applyBinding b (some c) sent =
    s.modChannel c (fun k => keptChannel s k b sent) := by
  rw [← changeParams_taking]
  exact if_pos held

theorem leg_releaseChannel (binder : (s.channel c).binder = .legMeter) : (s.releaseChannel c).leg = freshLegCheck := by
  have told : (s.blockTold c).leg = freshLegCheck := by
    rw [blockTold, binder]
    rfl
  exact told

theorem leg_takeChannel : (s.takeChannel .legMeter c sent).leg = freshLegCheck := rfl

theorem onlyChanges_freed_legMeter : onlyChanges legAreas s (s.freed .legMeter) := by
  cases held : s.channelOf .legMeter with
  | none =>
    rw [freed_of_none (channelOf_eq_none_iff.mp held)]
    exact onlyChanges_refl _ s
  | some d =>
    rw [freed_of_some held]
    exact onlyChanges_releaseChannel_legMeter (binder_of_channelOf held)

theorem onlyChanges_bindLegMeter : onlyChanges legAreas s (s.applyBinding .legMeter target sent) := by
  cases target with
  | none =>
    rw [applyBinding_none]
    exact onlyChanges_freed_legMeter
  | some c =>
    by_cases held : (s.channel c).binder = .legMeter
    · rw [applyBinding_of_held held]
      exact onlyChanges_mono (by decide) (onlyChanges_modChannel _)
    · have told : onlyChanges [.leg] (s.bound .legMeter c sent) (s.takeChannel .legMeter c sent) := by
        intro area other
        cases area <;> first | rfl | exact absurd (by simp) other
      rw [applyBinding_of_free held]
      exact onlyChanges_trans
        (onlyChanges_trans onlyChanges_freed_legMeter (onlyChanges_mono (by decide) onlyChanges_bound))
        (onlyChanges_mono (by decide) told)

theorem noticesGrow_freed_legMeter : NoticesGrow s (s.freed .legMeter) := by
  cases held : s.channelOf .legMeter with
  | none =>
    rw [freed_of_none (channelOf_eq_none_iff.mp held)]
    exact NoticesGrow.of_ports rfl
  | some d =>
    have told : (s.blockTold d).ports = (s.faultLeft d).ports := by
      rw [blockTold, binder_of_channelOf held]
      rfl
    have ports : (s.releaseChannel d).ports = (s.faultLeft d).ports := told
    rw [freed_of_some held]
    exact noticesGrow_faultLeft.trans (NoticesGrow.of_ports ports)

theorem noticesGrow_bindLegMeter : NoticesGrow s (s.applyBinding .legMeter target sent) := by
  cases target with
  | none =>
    rw [applyBinding_none]
    exact noticesGrow_freed_legMeter
  | some c =>
    by_cases held : (s.channel c).binder = .legMeter
    · rw [applyBinding_of_held held]
      exact NoticesGrow.of_ports rfl
    · rw [applyBinding_of_free held]
      exact noticesGrow_freed_legMeter.trans (NoticesGrow.of_ports rfl)

/-! ### The channels after the binding (R2, R4, R5, R9) -/

/-- A channel that is not named and not the leg meter's stands. -/
theorem channel_bindLegMeter_of_other (ne : ∀ c, target = some c → d ≠ c) (other : (s.channel d).binder ≠ .legMeter) :
    (s.applyBinding .legMeter target sent).channel d = s.channel d := by
  cases target with
  | none =>
    rw [applyBinding_none]
    exact channel_freed_of_other other
  | some c =>
    by_cases held : (s.channel c).binder = .legMeter
    · rw [applyBinding_of_held held]
      exact channel_modChannel_ne (ne c rfl) _
    · rw [applyBinding_of_free held, channel_takeChannel, channel_bound_of_ne (ne c rfl)]
      exact channel_freed_of_other other

/-- The leg meter's channel, where it is not the one named, is released, and the check begins afresh. -/
theorem bindLegMeter_of_released (own : ∀ d e, (s.channel d).binder = .legMeter → (s.channel e).binder = .legMeter → d = e)
    (ne : ∀ c, target = some c → d ≠ c) (held : (s.channel d).binder = .legMeter) :
    (s.applyBinding .legMeter target sent).channel d = releasedChannel (s.channel d)
      ∧ (s.applyBinding .legMeter target sent).leg = freshLegCheck := by
  cases target with
  | none =>
    have of : s.channelOf .legMeter = some d := channelOf_eq_some held (fun e also => own e d also held)
    rw [applyBinding_none]
    refine ⟨channel_freed_of_held own held, ?_⟩
    rw [freed_of_some of]
    exact leg_releaseChannel held
  | some c =>
    have free : (s.channel c).binder ≠ .legMeter := fun also => ne c rfl (own d c held also)
    rw [applyBinding_of_free free, channel_takeChannel, channel_bound_of_ne (ne c rfl)]
    exact ⟨channel_freed_of_held own held, leg_takeChannel⟩

theorem bindLegMeter_of_free (free : (s.channel c).binder ≠ .legMeter) :
    (s.applyBinding .legMeter (some c) sent).channel c = startedChannel s (s.channel c) .legMeter sent
      ∧ (s.applyBinding .legMeter (some c) sent).leg = freshLegCheck := by
  rw [applyBinding_of_free free, channel_takeChannel]
  exact ⟨channel_bound free, leg_takeChannel⟩

theorem bindLegMeter_of_held (held : (s.channel c).binder = .legMeter) :
    (s.applyBinding .legMeter (some c) sent).channel c = keptChannel s (s.channel c) .legMeter sent
      ∧ (s.applyBinding .legMeter (some c) sent).leg = s.leg := by
  rw [applyBinding_of_held held]
  exact ⟨channel_modChannel_self _, rfl⟩

end State

end Sys2Proof.Machine
end

section
/-! SUPPORT. The obligation of WORKS_SET (R2, R4, R9, R71, R75, R76, R116). -/

namespace Sys2Proof.Machine

section Rule

variable {s u : State} {v : WorksOperands} {c : Fin 16} {target : Option (Fin 16)}

theorem keptChannel_congr (outer : u.outer = s.outer) (k : Channel) (b : Binder) (p : ChannelParams) :
    keptChannel u k b p = keptChannel s k b p := by
  obtain ⟨-, clock, -⟩ := State.outer_eq_iff.mp outer
  simp only [keptChannel, State.partTime, clock]

theorem startedChannel_congr (outer : u.outer = s.outer) (k : Channel) (b : Binder) (p : ChannelParams) :
    startedChannel u k b p = startedChannel s k b p := by
  obtain ⟨-, clock, -⟩ := State.outer_eq_iff.mp outer
  simp only [startedChannel, State.partTime, clock]

/-- The channel byte of a WORKS_SET names a channel, or none (R4). -/
def namesTarget (named : Byte) : Option (Fin 16) → Prop
  | none => named = 255#8
  | some c => c.val = named.toNat

theorem indexOrFF_of_namesTarget {named : Byte} (names : namesTarget named target) : indexOrFF 16 named = some target := by
  cases target with
  | none =>
    rw [show named = 255#8 from names]
    exact indexOrFF_ff 16
  | some c => exact indexOrFF_of_val (by decide) names

theorem isSome_iff_of_namesTarget {named : Byte} (names : namesTarget named target) : target.isSome = true ↔ named ≠ 255#8 := by
  cases target with
  | none => exact iff_of_false (by decide) (fun ne => ne names)
  | some c => exact iff_of_true rfl (ne_ff_of_named names)

/-- No other binder holds the channel named. -/
def openToLegMeter (s : State) (target : Option (Fin 16)) : Prop :=
  ∀ c, target = some c → (s.channel c).binder = .none ∨ (s.channel c).binder = .legMeter

theorem claimedByOther_of_open (free : openToLegMeter s target) : s.claimedByOther .legMeter target = false := by
  cases target with
  | none => rfl
  | some c => rcases free c rfl with binder | binder <;> simp [State.claimedByOther, binder]

/-- A WORKS_SET taken answers DONE where no number and no parameter was moved. -/
theorem exists_worksSetAnswer (names : namesTarget v.channel target) (free : openToLegMeter s target) : ∃ code,
    worksSetAnswer v s = answer ((s.applyWorksSet (clampWorks (worksSent v))).applyBinding .legMeter target (worksParams v)) code
      ∧ (code = .done ∨ code = .doneClamped)
      ∧ (code = .done ↔ worksSetFits v ∧ (v.channel ≠ 255#8 → paramsFit .flow (worksParams v))) := by
  obtain ⟨code, eq, codes, done⟩ := doneOr_cases
    ((s.applyWorksSet (clampWorks (worksSent v))).applyBinding .legMeter target (worksParams v))
    (decide (clampWorks (worksSent v) ≠ worksSent v) || (target.isSome && paramsClamped .flow (worksParams v)))
  refine ⟨code, ?_, codes, done.trans ?_⟩
  · simp only [worksSetAnswer, indexOrFF_of_namesTarget names, claimedByOther_of_open free]
    exact eq
  · rw [Bool.or_eq_false_iff, decide_eq_false_iff_not, not_not, clampWorks_eq_self_iff, Bool.and_eq_false_imp,
      isSome_iff_of_namesTarget names, paramsClamped_eq_false_iff]

/-- The notices and areas that a WORKS_SET touches. -/
theorem onlyChanges_worksSet {w : WorksSettings} : onlyChanges [.works, .allow, .channels, .leg, .store, .notices, .trigger] s
    ((s.applyWorksSet w).applyBinding .legMeter target (worksParams v)) :=
  onlyChanges_trans (onlyChanges_mono (by decide) State.onlyChanges_applyWorksSet)
    (onlyChanges_mono (by decide) State.onlyChanges_bindLegMeter)

end Rule

open State

/-- Settles O31: the checks, the settings taken, and the leg meter bound. -/
theorem worksSetRule : Obligations.WorksSetRule := by
  intro h v s b admitted
  refine ⟨?_, ?_, ?_⟩
  · intro out some_
    refine exec_of_rule rfl admitted (marking_of_refused ?_)
    simp only [worksSetAnswer, indexOrFF_of_le out some_]
  · intro c named claimed other
    refine exec_of_rule rfl admitted (marking_of_refused ?_)
    have taken : (s.during b).claimedByOther .legMeter (some c) = true := by
      simp [claimedByOther, claimed, other]
    simp only [worksSetAnswer, indexOrFF_of_val (by decide) named, taken, if_true]
  · intro named
    dsimp only
    obtain ⟨target, names, free⟩ : ∃ target, namesTarget v.channel target ∧ openToLegMeter (s.during b) target := by
      rcases named with ff | ⟨c, is, free⟩
      · exact ⟨none, ff, fun c no => nomatch no⟩
      · refine ⟨some c, is, fun d same => ?_⟩
        obtain rfl := Option.some.inj same
        exact free
    obtain ⟨code, applied, codes, done⟩ := exists_worksSetAnswer names free
    obtain ⟨u, marks, frame⟩ := exists_marking applied
    have lengths : (clampWorks (worksSent v)).tLease = max 1 (min 60 v.tLease.toNat) := by rw [clampWorks_worksSent]
    generalize settings : clampWorks (worksSent v) = w at applied marks frame lengths
    have rest := onlyChanges_applyWorksSet (s := s.during b) (v := w)
    have bound := onlyChanges_bindLegMeter (s := (s.during b).applyWorksSet w) (target := target) (sent := worksParams v)
    have channels : ((s.during b).applyWorksSet w).channels = s.channels := rest .channels (by decide)
    have outer : ((s.during b).applyWorksSet w).outer = (s.during b).outer := rest .outer (by decide)
    have allow : u.allow = ((s.during b).applyWorksSet w).allow :=
      (frame .allow (by decide) : _ = _).trans (bound .allow (by decide))
    have works : u.works = w :=
      ((frame .works (by decide) : _ = _).trans (bound .works (by decide))).trans works_applyWorksSet
    have leg : u.leg = (((s.during b).applyWorksSet w).applyBinding .legMeter target (worksParams v)).leg := frame .leg (by decide)
    have channel (d : Fin 16) : u.channel d =
        (((s.during b).applyWorksSet w).applyBinding .legMeter target (worksParams v)).channel d :=
      channel_congr (frame .channels (by decide)) d
    have before (d : Fin 16) : ((s.during b).applyWorksSet w).channel d = s.channel d := channel_congr channels d
    have apart (d : Fin 16) (ne : d.val ≠ v.channel.toNat) : ∀ c, target = some c → d ≠ c := by
      rintro c rfl rfl
      exact ne names
    refine ⟨u, code, exec_of_rule rfl admitted marks, codes, ?_, ?_, ?_, ?_, ?_, ?_, ?_, ?_⟩
    · rw [done, worksSetFits]
      simp only [and_assoc]
      rfl
    · rw [works, ← settings, clampWorks_worksSent]
    · intro formed
      have sound := (allowanceFormed_iff s).mp formed admitted.running
      have here : AllowanceSound (s.during b) := sound.congr rfl rfl
      have after : AllowanceSound u := (AllowanceSound.applyWorksSet here.toScheduleSound w).congr allow
        (works.trans works_applyWorksSet.symm)
      exact after.formed.trans (formedAllowance_eq after.toScheduleSound)
    · intro stands
      rw [← lengths] at stands
      rw [allow]
      exact allow_applyWorksSet (s := s.during b) stands
    · intro lapses
      rw [← lengths] at lapses
      obtain ⟨sched, lease, active, hold, told⟩ := applyWorksSet_lapsed (s := s.during b) (v := w) lapses
      rw [allow]
      refine ⟨sched, lease, active, hold, fun p three => ?_⟩
      rw [notices_congr (frame .notices (by decide))]
      exact noticesGrow_bindLegMeter _ _ (told p three)
    · exact onlyChanges_trans (onlyChanges_mono (by decide) onlyChanges_worksSet) (onlyChanges_mono (by decide) frame)
    · intro d ne other
      rw [channel, channel_bindLegMeter_of_other (apart d ne) (by rw [before]; exact other), before]
    · intro unique
      have own : ∀ d e, (((s.during b).applyWorksSet w).channel d).binder = .legMeter →
          (((s.during b).applyWorksSet w).channel e).binder = .legMeter → d = e := by
        intro d e
        rw [before, before]
        exact unique d e
      refine ⟨?_, ?_⟩
      · intro d ne held
        obtain ⟨released, fresh⟩ := bindLegMeter_of_released (sent := worksParams v) own (apart d ne) (by rw [before]; exact held)
        rw [channel, leg, released, before]
        exact ⟨rfl, fresh⟩
      · intro c is
        have same : target = some c := Option.some.inj ((indexOrFF_of_namesTarget names).symm.trans (indexOrFF_of_val (by decide) is))
        subst same
        refine ⟨fun unbound => ?_, fun held => ?_⟩
        · obtain ⟨started, fresh⟩ := bindLegMeter_of_free (s := (s.during b).applyWorksSet w) (c := c) (sent := worksParams v)
            (by rw [before, unbound]; decide)
          rw [channel, leg, started, before, startedChannel_congr outer]
          exact ⟨rfl, fresh⟩
        · obtain ⟨kept, stands⟩ := bindLegMeter_of_held (s := (s.during b).applyWorksSet w) (c := c) (sent := worksParams v)
            (by rw [before, held])
          rw [channel, leg, kept, before, keptChannel_congr outer]
          exact ⟨rfl, stands.trans (rest .leg (by decide))⟩

end Sys2Proof.Machine
end

section
/-! SUPPORT. The spill settings that take effect on each outfall (R121, R123, R137). -/

namespace Sys2Proof.Machine

namespace State

variable {s u : State} {o k : Fin 8} {start : Nat} {v : SpillSettings}

/-! ### An entry to SPILLING takes no notice back -/

theorem noticesGrow_openEvent : NoticesGrow s (s.openEvent o start) := by
  have record (kind subject : Nat) (body : Nat → List Byte) (f : Outfall → Outfall) :
      NoticesGrow s ((((s.countPeriod o).handOver kind subject body).2.modOutfall o f).notify .event .record) :=
    ((NoticesGrow.of_ports rfl : NoticesGrow s (s.countPeriod o)).trans (noticesGrow_handOver kind subject body)).trans
      ((NoticesGrow.of_ports rfl : NoticesGrow _ (modOutfall _ o f)).trans (NoticesGrow.notify _ _ _))
  unfold openEvent
  dsimp only
  split
  · exact (record _ _ _ _).trans ((NoticesGrow.notify _ _ _).trans (NoticesGrow.notifyOwner _ _ _))
  · exact record _ _ _ _

theorem noticesGrow_countInterval {atStart : Bool} : NoticesGrow s (s.countInterval o atStart) := by
  unfold countInterval
  dsimp only
  split
  · exact NoticesGrow.of_ports rfl
  · exact ((NoticesGrow.of_ports rfl : NoticesGrow s ((s.countPeriod o).modEvent o _)).trans (noticesGrow_handOver _ _ _)).trans
      (NoticesGrow.notify _ _ _)

theorem noticesGrow_eventTaken : NoticesGrow s (s.eventTaken o start) := by
  unfold eventTaken
  split
  · exact noticesGrow_openEvent
  · split
    · exact NoticesGrow.of_ports rfl
    · exact noticesGrow_countInterval

theorem noticesGrow_reportSpilling {yes : Bool} : NoticesGrow s (s.reportSpilling o yes) := by
  refine NoticesGrow.of_ports ?_
  unfold reportSpilling
  dsimp only
  split
  · rw [ports_noteTrigger, ports_recomputeWeight]
    rfl
  · rw [ports_recomputeWeight]
    rfl

theorem noticesGrow_announceSpill : NoticesGrow s (s.announceSpill o) :=
  (NoticesGrow.notify _ _ _).trans (NoticesGrow.notifyOwner _ _ _)

theorem noticesGrow_enterSpilling {announce : Bool} : NoticesGrow s (s.enterSpilling o start announce) := by
  have stretched : NoticesGrow s (s.stretched o start) :=
    (NoticesGrow.of_ports rfl : NoticesGrow s (s.modOutfall o _)).trans noticesGrow_eventTaken
  have reported : NoticesGrow s (s.reported o start) :=
    (stretched.trans (NoticesGrow.of_ports rfl : NoticesGrow _ (takeSpillRef _ o _))).trans noticesGrow_reportSpilling
  rw [enterSpilling_eq]
  split
  · exact reported.trans noticesGrow_announceSpill
  · exact reported

/-! ### An operation on each outfall in turn -/

/-- An operation on one outfall: it touches that outfall and its tank alone, and takes no notice back. -/
structure OutfallStep (f : State → Fin 8 → State) : Prop where
  but : ∀ u o, SameBut u (f u o) o
  outer : ∀ u o, (f u o).outer = u.outer
  grow : ∀ u o, NoticesGrow u (f u o)

theorem OutfallStep.foldl_spill {f : State → Fin 8 → State} (step : OutfallStep f) (l : List (Fin 8)) (s : State) :
    (l.foldl f s).spill = { s.spill with outfalls := (l.foldl f s).spill.outfalls } ∧ (l.foldl f s).outer = s.outer
      ∧ NoticesGrow s (l.foldl f s) := by
  induction l generalizing s with
  | nil => exact ⟨rfl, rfl, NoticesGrow.of_ports rfl⟩
  | cons x l ih =>
    obtain ⟨spill, outer, grow⟩ := ih (f s x)
    obtain ⟨-, first⟩ := step.but s x
    refine ⟨?_, outer.trans (step.outer s x), (step.grow s x).trans grow⟩
    rw [List.foldl_cons, spill, first]

theorem OutfallStep.foldl_of_not_mem {f : State → Fin 8 → State} (step : OutfallStep f) {l : List (Fin 8)} (out : o ∉ l)
    (s : State) : (l.foldl f s).outfall o = s.outfall o ∧ (l.foldl f s).tank o = s.tank o := by
  induction l generalizing s with
  | nil => exact ⟨rfl, rfl⟩
  | cons x l ih =>
    obtain ⟨ne, rest⟩ := not_or.mp (fun yes => out (List.mem_cons.mpr yes))
    obtain ⟨outfall, tank⟩ := ih rest (f s x)
    obtain ⟨others, -⟩ := step.but s x
    obtain ⟨first, firstTank⟩ := others o ne
    exact ⟨outfall.trans first, tank.trans firstTank⟩

/-- An outfall is what its own step makes of it, from a state in which it stands yet: the state before, if the steps of the
others change nothing. -/
theorem OutfallStep.exists_step {f : State → Fin 8 → State} (step : OutfallStep f) (s : State) (o : Fin 8) : ∃ a,
    a.outfall o = s.outfall o ∧ a.tank o = s.tank o ∧ a.spill.set = s.spill.set ∧ a.outer = s.outer
      ∧ ((List.finRange 8).foldl f s).outfall o = (f a o).outfall o ∧ ((List.finRange 8).foldl f s).tank o = (f a o).tank o
      ∧ NoticesGrow (f a o) ((List.finRange 8).foldl f s)
      ∧ ((∀ k, k ≠ o → f s k = s) → a = s) := by
  obtain ⟨before, after, split⟩ := List.append_of_mem (List.mem_finRange o)
  have apart : o ∉ before ∧ o ∉ after := by
    have nodup := List.nodup_finRange 8
    rw [split, List.nodup_append] at nodup
    obtain ⟨-, tail, disjoint⟩ := nodup
    exact ⟨fun mem => disjoint o mem o List.mem_cons_self rfl, (List.nodup_cons.mp tail).1⟩
  have folded : (List.finRange 8).foldl f s = after.foldl f (f (before.foldl f s) o) := by
    rw [split, List.foldl_append, List.foldl_cons]
  obtain ⟨outfall, tank⟩ := step.foldl_of_not_mem apart.1 s
  obtain ⟨spill, outer, -⟩ := step.foldl_spill before s
  obtain ⟨outfallAfter, tankAfter⟩ := step.foldl_of_not_mem apart.2 (f (before.foldl f s) o)
  obtain ⟨-, -, grow⟩ := step.foldl_spill after (f (before.foldl f s) o)
  refine ⟨before.foldl f s, outfall, tank, by rw [spill], outer, ?_, ?_, ?_, ?_⟩
  · rw [folded, outfallAfter]
  · rw [folded, tankAfter]
  · rw [folded]
    exact grow
  · intro stands
    have fixed (l : List (Fin 8)) (out : o ∉ l) : l.foldl f s = s := by
      induction l with
      | nil => rfl
      | cons x l ih =>
        obtain ⟨ne, rest⟩ := not_or.mp (fun yes => out (List.mem_cons.mpr yes))
        rw [List.foldl_cons, stands x (Ne.symm ne)]
        exact ih rest
    exact fixed before apart.1

/-! ### T_on and T_off reached (R121, R123, R137) -/

/-- A PENDING outfall has reached T_on. -/
def onReached (s : State) (o : Fin 8) (start : Nat) : Prop :=
  (s.outfall o).phase = .pending start ∧ start + s.spill.set.tOn ≤ s.partTime

/-- A TRAILING outfall has reached T_off. -/
def offReached (s : State) (o : Fin 8) (start : Nat) : Prop :=
  (s.outfall o).phase = .trailing start ∧ start + s.spill.set.tOff ≤ s.partTime

theorem reachOn_of_reached (reached : s.onReached o start) : s.reachOn o = s.enterSpilling o start true := by
  obtain ⟨pending, due⟩ := reached
  simp [reachOn, pendingSince, pending, due]

theorem reachOn_of_not_reached (not : ∀ start, ¬ s.onReached o start) : s.reachOn o = s := by
  unfold reachOn pendingSince
  cases phase : (s.outfall o).phase with
  | pending start => exact if_neg (fun due => not start ⟨phase, due⟩)
  | _ => rfl

theorem reachOff_of_reached (reached : s.offReached o start) : s.reachOff o = s.becomeQuiet o := by
  obtain ⟨trailing, due⟩ := reached
  simp [reachOff, trailingSince, trailing, due]

theorem reachOff_of_not_reached (not : ∀ start, ¬ s.offReached o start) : s.reachOff o = s := by
  unfold reachOff trailingSince
  cases phase : (s.outfall o).phase with
  | trailing start => exact if_neg (fun due => not start ⟨phase, due⟩)
  | _ => rfl

theorem outfallStep_reachOn : OutfallStep reachOn where
  but u o := by
    by_cases reached : ∃ start, u.onReached o start
    · obtain ⟨start, reached⟩ := reached
      rw [reachOn_of_reached reached]
      exact sameBut_enterSpilling true
    · rw [reachOn_of_not_reached (not_exists.mp reached)]
      exact SameBut.of_same rfl rfl
  outer u o := by simp
  grow u o := by
    by_cases reached : ∃ start, u.onReached o start
    · obtain ⟨start, reached⟩ := reached
      rw [reachOn_of_reached reached]
      exact noticesGrow_enterSpilling
    · rw [reachOn_of_not_reached (not_exists.mp reached)]
      exact NoticesGrow.of_ports rfl

theorem outfallStep_reachOff : OutfallStep reachOff where
  but u o := by
    by_cases reached : ∃ start, u.offReached o start
    · obtain ⟨start, reached⟩ := reached
      rw [reachOff_of_reached reached]
      exact sameBut_becomeQuiet
    · rw [reachOff_of_not_reached (not_exists.mp reached)]
      exact SameBut.of_same rfl rfl
  outer u o := by simp
  grow u o := by
    by_cases reached : ∃ start, u.offReached o start
    · obtain ⟨start, reached⟩ := reached
      rw [reachOff_of_reached reached]
      exact noticesGrow_becomeQuiet
    · rw [reachOff_of_not_reached (not_exists.mp reached)]
      exact NoticesGrow.of_ports rfl

theorem onReached_congr (outfall : u.outfall o = s.outfall o) (set_ : u.spill.set = s.spill.set) (outer : u.outer = s.outer) :
    u.onReached o start ↔ s.onReached o start := by
  obtain ⟨-, clock, -⟩ := outer_eq_iff.mp outer
  simp only [onReached, outfall, set_, partTime, clock]

theorem offReached_congr (outfall : u.outfall o = s.outfall o) (set_ : u.spill.set = s.spill.set) (outer : u.outer = s.outer) :
    u.offReached o start ↔ s.offReached o start := by
  obtain ⟨-, clock, -⟩ := outer_eq_iff.mp outer
  simp only [offReached, outfall, set_, partTime, clock]

/-- The outfalls that a new T_on reaches are SPILLING from their pending start, and the others stand. -/
theorem reachOn_all (s : State) (o : Fin 8) :
    (∀ start, s.onReached o start →
      (((List.finRange 8).foldl reachOn s).outfall o).phase = .spilling start
      ∧ (((List.finRange 8).foldl reachOn s).outfall o).event.isSome
      ∧ (((List.finRange 8).foldl reachOn s).tank o).spilling = true
      ∧ (((List.finRange 8).foldl reachOn s).port .record).notices &&& noticeWord .spill ≠ 0#16
      ∧ ((∀ k other, s.onReached k other → k = o) → spillEntered s ((List.finRange 8).foldl reachOn s) o start))
    ∧ ((∀ start, ¬ s.onReached o start) → ((List.finRange 8).foldl reachOn s).outfall o = s.outfall o
      ∧ ((List.finRange 8).foldl reachOn s).tank o = s.tank o) := by
  obtain ⟨a, outfall, tank, set_, outer, here, hereTank, grow, alone⟩ := outfallStep_reachOn.exists_step s o
  have same (start : Nat) := onReached_congr (start := start) outfall set_ outer
  refine ⟨fun start reached => ?_, fun not => ?_⟩
  · have entered := reachOn_of_reached ((same start).mpr reached)
    rw [entered] at here hereTank grow
    obtain ⟨w, count, made, madeTank, event⟩ := spillEntered_enterSpilling a o start true
    rw [here, hereTank, made, madeTank]
    refine ⟨rfl, rfl, rfl, grow _ _ told_enterSpilling, fun only => ?_⟩
    obtain rfl := alone fun k ne => reachOn_of_not_reached fun other also => ne (only k other also)
    refine ⟨w, count, ?_, hereTank.trans madeTank, event⟩
    rw [here]
    exact made
  · rw [reachOn_of_not_reached (fun start yes => not start ((same start).mp yes))] at here hereTank
    exact ⟨here.trans outfall, hereTank.trans tank⟩

/-- The outfalls that a new T_off reaches are QUIET, and the others stand. -/
theorem reachOff_all (s : State) (o : Fin 8) :
    (∀ start, s.offReached o start →
      ((List.finRange 8).foldl reachOff s).outfall o = { s.outfall o with phase := .quiet }
      ∧ (((List.finRange 8).foldl reachOff s).port .record).notices &&& noticeWord .spill ≠ 0#16)
    ∧ ((∀ start, ¬ s.offReached o start) → ((List.finRange 8).foldl reachOff s).outfall o = s.outfall o)
    ∧ ((List.finRange 8).foldl reachOff s).tank o = s.tank o := by
  obtain ⟨a, outfall, tank, set_, outer, here, hereTank, grow, -⟩ := outfallStep_reachOff.exists_step s o
  have same (start : Nat) := offReached_congr (start := start) outfall set_ outer
  refine ⟨fun start reached => ?_, fun not => ?_, ?_⟩
  · have quiet := reachOff_of_reached ((same start).mpr reached)
    rw [quiet] at here grow
    rw [here, outfall_becomeQuiet, if_pos rfl, outfall]
    exact ⟨rfl, grow _ _ told_announceSpill⟩
  · rw [reachOff_of_not_reached (fun start yes => not start ((same start).mp yes))] at here
    exact here.trans outfall
  · rw [hereTank, tank_congr (s := a) (by simp), tank]

end State

end Sys2Proof.Machine
end

section
/-! SUPPORT. What SPILL_SET makes of the outfalls (R121, R123, R137). -/

namespace Sys2Proof.Machine

/-- The values a SPILL_SET gives. -/
theorem clampSpill_spillSent (v : SpillOperands) (dry : Option (Fin 4)) : clampSpill (spillSent v dry) =
    { w1 := max 1 (min 48 v.w1.toNat), w2 := max 1 (min 48 v.w2.toNat), tOn := min 600 v.tOn.toNat,
      tOff := min 3600 v.tOff.toNat, p := max 500 (min 1000 v.p.toNat), dDry := min 250 v.dDry.toNat, dryGauge := dry } := by
  simp [clampSpill, spillSent, clamp]

/-- A SPILL_SET carries every value within its range. -/
def spillSetFits (v : SpillOperands) : Prop :=
  1 ≤ v.w1.toNat ∧ v.w1.toNat ≤ 48 ∧ 1 ≤ v.w2.toNat ∧ v.w2.toNat ≤ 48 ∧ v.tOn.toNat ≤ 600
    ∧ v.tOff.toNat ≤ 3600 ∧ 500 ≤ v.p.toNat ∧ v.p.toNat ≤ 1000 ∧ v.dDry.toNat ≤ 250

theorem clampSpill_eq_self_iff (v : SpillOperands) (dry : Option (Fin 4)) :
    clampSpill (spillSent v dry) = spillSent v dry ↔ spillSetFits v := by
  simp only [clampSpill, spillSent, SpillSettings.mk.injEq, and_true, spillSetFits]
  rw [clamp_eq_self_iff (by decide), clamp_eq_self_iff (by decide), clamp_eq_self_iff (by decide), clamp_eq_self_iff (by decide),
    clamp_eq_self_iff (by decide), clamp_eq_self_iff (by decide)]
  simp only [Nat.zero_le, true_and, and_assoc]

namespace State

variable {s : State} {o : Fin 8} {start : Nat} {v : SpillSettings}

/-- The spill settings replaced, before they take effect. -/
def withSpill (s : State) (v : SpillSettings) : State := { s with spill := { s.spill with set := v } }

/-- A changed T_on taken. -/
def onTaken (s : State) (v : SpillSettings) : State :=
  if s.spill.set.tOn = v.tOn then s.withSpill v else (List.finRange 8).foldl reachOn (s.withSpill v)

theorem applySpillSet_eq : s.applySpillSet v =
    if s.spill.set.tOff = v.tOff then s.onTaken v else (List.finRange 8).foldl reachOff (s.onTaken v) := rfl

/-- An outfall PENDING for at least a changed T_on. -/
def enters (s : State) (v : SpillSettings) (o : Fin 8) (start : Nat) : Prop :=
  v.tOn ≠ s.spill.set.tOn ∧ (s.outfall o).phase = .pending start ∧ start + v.tOn ≤ s.partTime

/-- An outfall TRAILING for at least a changed T_off. -/
def quiets (s : State) (v : SpillSettings) (o : Fin 8) (start : Nat) : Prop :=
  v.tOff ≠ s.spill.set.tOff ∧ (s.outfall o).phase = .trailing start ∧ start + v.tOff ≤ s.partTime

theorem spill_onTaken : (s.onTaken v).spill = { s.spill with set := v, outfalls := (s.onTaken v).spill.outfalls }
    ∧ (s.onTaken v).outer = s.outer := by
  unfold onTaken
  split
  · exact ⟨rfl, rfl⟩
  · obtain ⟨spill, outer, -⟩ := outfallStep_reachOn.foldl_spill (List.finRange 8) (s.withSpill v)
    exact ⟨spill, outer⟩

theorem spill_applySpillSet : (s.applySpillSet v).spill = { s.spill with set := v, outfalls := (s.applySpillSet v).spill.outfalls } := by
  obtain ⟨spill, -⟩ := spill_onTaken (s := s) (v := v)
  rw [applySpillSet_eq]
  split
  · exact spill
  · obtain ⟨last, -⟩ := outfallStep_reachOff.foldl_spill (List.finRange 8) (s.onTaken v)
    rw [last, spill]

/-- A changed T_on, outfall by outfall. -/
theorem onTaken_all (s : State) (v : SpillSettings) (o : Fin 8) :
    (∀ start, s.enters v o start →
      ((s.onTaken v).outfall o).phase = .spilling start ∧ ((s.onTaken v).outfall o).event.isSome
      ∧ ((s.onTaken v).tank o).spilling = true ∧ ((s.onTaken v).port .record).notices &&& noticeWord .spill ≠ 0#16
      ∧ ((∀ k other, s.enters v k other → k = o) → spillEntered (s.withSpill v) (s.onTaken v) o start))
    ∧ ((∀ start, ¬ s.enters v o start) → (s.onTaken v).outfall o = s.outfall o ∧ (s.onTaken v).tank o = s.tank o) := by
  by_cases same : s.spill.set.tOn = v.tOn
  · rw [onTaken, if_pos same]
    exact ⟨fun start due => absurd same.symm due.1, fun _ => ⟨rfl, rfl⟩⟩
  · have reached (k : Fin 8) (other : Nat) : (s.withSpill v).onReached k other ↔ s.enters v k other :=
      (and_iff_right (Ne.symm same)).symm
    obtain ⟨entered, stands⟩ := reachOn_all (s.withSpill v) o
    rw [onTaken, if_neg same]
    refine ⟨fun start due => ?_, fun not => stands fun start yes => not start ((reached o start).mp yes)⟩
    obtain ⟨phase, event, spilling, told, alone⟩ := entered start ((reached o start).mpr due)
    exact ⟨phase, event, spilling, told, fun only => alone fun k other also => only k other ((reached k other).mp also)⟩

/-- After a changed T_on the outfalls a changed T_off reaches are those it reached before. -/
theorem offReached_onTaken (changes : v.tOff ≠ s.spill.set.tOff) : (s.onTaken v).offReached o start ↔ s.quiets v o start := by
  obtain ⟨spill, outer⟩ := spill_onTaken (s := s) (v := v)
  have set_ : (s.onTaken v).spill.set = v := by rw [spill]
  obtain ⟨entered, stands⟩ := onTaken_all s v o
  have phase : ((s.onTaken v).outfall o).phase = .trailing start ↔ (s.outfall o).phase = .trailing start := by
    by_cases due : ∃ begun, s.enters v o begun
    · obtain ⟨begun, due⟩ := due
      obtain ⟨spilling, -⟩ := entered begun due
      obtain ⟨-, pending, -⟩ := due
      rw [spilling, pending]
      exact iff_of_false (fun no => nomatch no) (fun no => nomatch no)
    · rw [(stands (not_exists.mp due)).1]
  obtain ⟨-, clock, -⟩ := outer_eq_iff.mp outer
  rw [offReached, quiets, phase, set_]
  simp only [partTime, clock]
  exact (and_iff_right changes).symm

/-- What SPILL_SET makes of an outfall. -/
theorem applySpillSet_all (s : State) (v : SpillSettings) (o : Fin 8) :
    (∀ start, s.quiets v o start →
      (s.applySpillSet v).outfall o = { (s.onTaken v).outfall o with phase := .quiet }
      ∧ ((s.applySpillSet v).port .record).notices &&& noticeWord .spill ≠ 0#16)
    ∧ ((∀ start, ¬ s.quiets v o start) → (s.applySpillSet v).outfall o = (s.onTaken v).outfall o)
    ∧ (s.applySpillSet v).tank o = (s.onTaken v).tank o
    ∧ NoticesGrow (s.onTaken v) (s.applySpillSet v) := by
  by_cases same : s.spill.set.tOff = v.tOff
  · rw [applySpillSet_eq, if_pos same]
    exact ⟨fun start due => absurd same.symm due.1, fun _ => rfl, rfl, NoticesGrow.of_ports rfl⟩
  · obtain ⟨quiet, stands, tank⟩ := reachOff_all (s.onTaken v) o
    obtain ⟨-, -, grow⟩ := outfallStep_reachOff.foldl_spill (List.finRange 8) (s.onTaken v)
    rw [applySpillSet_eq, if_neg same]
    refine ⟨fun start due => quiet start ((offReached_onTaken (Ne.symm same)).mpr due), fun not => stands fun start yes => ?_, tank, grow⟩
    exact not start ((offReached_onTaken (Ne.symm same)).mp yes)

theorem not_quiets_of_enters (due : s.enters v o start) : ∀ begun, ¬ s.quiets v o begun := by
  obtain ⟨-, pending, -⟩ := due
  rintro _ ⟨-, trailing, -⟩
  rw [pending] at trailing
  exact nomatch trailing

theorem not_enters_of_quiets (due : s.quiets v o start) : ∀ begun, ¬ s.enters v o begun :=
  fun _ also => not_quiets_of_enters also start due

/-- An outfall that a changed T_on takes to SPILLING. -/
theorem applySpillSet_of_enters (due : s.enters v o start) :
    ((s.applySpillSet v).outfall o).phase = .spilling start ∧ ((s.applySpillSet v).outfall o).event.isSome
      ∧ ((s.applySpillSet v).tank o).spilling = true
      ∧ ((s.applySpillSet v).port .record).notices &&& noticeWord .spill ≠ 0#16
      ∧ ((∀ k other, s.enters v k other → k = o) → spillEntered (s.withSpill v) (s.applySpillSet v) o start) := by
  obtain ⟨entered, -⟩ := onTaken_all s v o
  obtain ⟨-, stands, tank, grow⟩ := applySpillSet_all s v o
  obtain ⟨phase, event, spilling, told, alone⟩ := entered start due
  have outfall := stands (not_quiets_of_enters due)
  rw [outfall, tank]
  refine ⟨phase, event, spilling, grow _ _ told, fun only => ?_⟩
  obtain ⟨w, count, made, madeTank, opened⟩ := alone only
  refine ⟨w, count, ?_, tank.trans madeTank, opened⟩
  rw [outfall]
  exact made

/-- An outfall that a changed T_off takes to QUIET. -/
theorem applySpillSet_of_quiets (due : s.quiets v o start) :
    (s.applySpillSet v).outfall o = { s.outfall o with phase := .quiet } ∧ (s.applySpillSet v).tank o = s.tank o
      ∧ ((s.applySpillSet v).port .record).notices &&& noticeWord .spill ≠ 0#16 := by
  obtain ⟨-, stands⟩ := onTaken_all s v o
  obtain ⟨quiet, -, tank, -⟩ := applySpillSet_all s v o
  obtain ⟨outfall, tankStands⟩ := stands (not_enters_of_quiets due)
  obtain ⟨made, told⟩ := quiet start due
  rw [made, outfall, tank]
  exact ⟨rfl, tankStands, told⟩

theorem applySpillSet_of_neither (on : ∀ start, ¬ s.enters v o start) (off : ∀ start, ¬ s.quiets v o start) :
    (s.applySpillSet v).outfall o = s.outfall o ∧ (s.applySpillSet v).tank o = s.tank o := by
  obtain ⟨-, stands⟩ := onTaken_all s v o
  obtain ⟨-, still, tank, -⟩ := applySpillSet_all s v o
  obtain ⟨outfall, tankStands⟩ := stands on
  exact ⟨(still off).trans outfall, tank.trans tankStands⟩

theorem onlyChanges_applySpillSet :
    onlyChanges [.spill, .tanks, .store, .notices, .trigger] s (s.applySpillSet v) := by
  intro area other
  cases area <;> simp [unchanged] at other ⊢

end State

end Sys2Proof.Machine
end

section
/-! SUPPORT. What GAUGE_SET makes of the rain watch (R47, R49, R52, R53). -/

namespace Sys2Proof.Machine

/-- A threshold brought within 0 to 10,000. -/
def heldThreshold (x : ThresholdOperand) : Threshold :=
  { entryI := min 10000 x.entryI.toNat, entryD := min 10000 x.entryD.toNat, exitI := min 10000 x.exitI.toNat,
    exitD := min 10000 x.exitD.toNat }

theorem clampThreshold_thresholdSent (x : ThresholdOperand) : clampThreshold (thresholdSent x) = heldThreshold x := by
  simp [clampThreshold, thresholdSent, heldThreshold, clamp]

/-- A threshold within its range. -/
def thresholdFits (x : ThresholdOperand) : Prop :=
  x.entryI.toNat ≤ 10000 ∧ x.entryD.toNat ≤ 10000 ∧ x.exitI.toNat ≤ 10000 ∧ x.exitD.toNat ≤ 10000

theorem clampThreshold_eq_self_iff (x : ThresholdOperand) : clampThreshold (thresholdSent x) = thresholdSent x ↔ thresholdFits x := by
  simp only [clampThreshold, thresholdSent, Threshold.mk.injEq, thresholdFits]
  rw [clamp_eq_self_iff (by decide), clamp_eq_self_iff (by decide), clamp_eq_self_iff (by decide), clamp_eq_self_iff (by decide)]
  simp only [Nat.zero_le, true_and]

/-- The values a GAUGE_SET gives. -/
theorem clampGauges_gaugeSent (v : GaugeOperands) : clampGauges (gaugeSent v) =
    { tips := v.tips.map (fun x => max 1 (min 10 x.toNat)), watch := heldThreshold v.watch, warn := heldThreshold v.warn,
      storm := heldThreshold v.storm, tClear := max 5 (min 120 v.tClear.toNat) } := by
  have tips : (v.tips.map (fun b => b.toNat)).map (clamp 1 10) = v.tips.map (fun x => max 1 (min 10 x.toNat)) := by
    rw [Vector.map_map]
    rfl
  simp only [clampGauges, gaugeSent, clampThreshold_thresholdSent, tips]
  rfl

/-- A GAUGE_SET carries every value within its range. -/
def gaugeSetFits (v : GaugeOperands) : Prop :=
  thresholdFits v.watch ∧ thresholdFits v.warn ∧ thresholdFits v.storm ∧ 5 ≤ v.tClear.toNat ∧ v.tClear.toNat ≤ 120
    ∧ ∀ g, 1 ≤ (v.tips.get g).toNat ∧ (v.tips.get g).toNat ≤ 10

theorem map_clamp_eq_self_iff {n : Nat} (w : Vector Nat n) : w.map (clamp 1 10) = w ↔ ∀ g, 1 ≤ w.get g ∧ w.get g ≤ 10 := by
  have each (g : Fin n) : (w.map (clamp 1 10)).get g = clamp 1 10 (w.get g) := by simp [Vector.get_eq_getElem]
  constructor
  · intro same g
    rw [← clamp_eq_self_iff (by decide), ← each, same]
  · intro within
    refine Vector.ext fun i lt => ?_
    have here := each ⟨i, lt⟩
    rw [(clamp_eq_self_iff (by decide)).mpr (within ⟨i, lt⟩)] at here
    simpa [Vector.get_eq_getElem] using here

theorem clampGauges_eq_self_iff (v : GaugeOperands) : clampGauges (gaugeSent v) = gaugeSent v ↔ gaugeSetFits v := by
  have tips : (gaugeSent v).tips.map (clamp 1 10) = (gaugeSent v).tips ↔
      ∀ g, 1 ≤ (v.tips.get g).toNat ∧ (v.tips.get g).toNat ≤ 10 := by
    rw [map_clamp_eq_self_iff]
    refine forall_congr' fun g => ?_
    have each : (gaugeSent v).tips.get g = (v.tips.get g).toNat := by simp [gaugeSent, Vector.get_eq_getElem]
    rw [each]
  have time : clamp 5 120 (gaugeSent v).tClear = (gaugeSent v).tClear ↔ 5 ≤ v.tClear.toNat ∧ v.tClear.toNat ≤ 120 :=
    clamp_eq_self_iff (by decide)
  have fields : clampGauges (gaugeSent v) = gaugeSent v ↔ (gaugeSent v).tips.map (clamp 1 10) = (gaugeSent v).tips
      ∧ clampThreshold (thresholdSent v.watch) = thresholdSent v.watch
      ∧ clampThreshold (thresholdSent v.warn) = thresholdSent v.warn
      ∧ clampThreshold (thresholdSent v.storm) = thresholdSent v.storm
      ∧ clamp 5 120 (gaugeSent v).tClear = (gaugeSent v).tClear := GaugeSettings.mk.injEq .. ▸ Iff.rfl
  rw [fields, tips, time, clampThreshold_eq_self_iff, clampThreshold_eq_self_iff, clampThreshold_eq_self_iff, gaugeSetFits]
  constructor
  · rintro ⟨tips, watch, warn, storm, low, high⟩
    exact ⟨watch, warn, storm, low, high, tips⟩
  · rintro ⟨watch, warn, storm, low, high, tips⟩
    exact ⟨tips, watch, warn, storm, low, high⟩

/-- The thresholds of a GAUGE_SET, brought within their range, are in order. -/
def gaugesOrdered (v : GaugeOperands) : Prop :=
  let below := fun x : ThresholdOperand => (heldThreshold x).exitI < (heldThreshold x).entryI
    ∧ (heldThreshold x).exitD < (heldThreshold x).entryD
  below v.watch ∧ below v.warn ∧ below v.storm
    ∧ (heldThreshold v.watch).entryI ≤ (heldThreshold v.warn).entryI ∧ (heldThreshold v.warn).entryI ≤ (heldThreshold v.storm).entryI
    ∧ (heldThreshold v.watch).entryD ≤ (heldThreshold v.warn).entryD ∧ (heldThreshold v.warn).entryD ≤ (heldThreshold v.storm).entryD

theorem thresholdsOrdered_iff (v : GaugeOperands) : thresholdsOrdered (clampGauges (gaugeSent v)) = true ↔ gaugesOrdered v := by
  rw [clampGauges_gaugeSent]
  simp only [thresholdsOrdered, exitsBelow, gaugesOrdered, Bool.and_eq_true, decide_eq_true_eq, and_assoc]

namespace State

variable {s t : State} {v : GaugeSettings}

/-- The gauge settings replaced, before they take effect. -/
def withGauges (s : State) (v : GaugeSettings) : State :=
  { s with rain := { s.rain with
    gauges := Vector.ofFn (fun g : Fin 4 => { s.gauge g with tipDepth := v.tips.get g })
    watch := v.watch, warn := v.warn, storm := v.storm, tClear := v.tClear } }

/-- The gauge settings taken, and evaluated where a tip depth or a threshold changes. -/
def gaugesTaken (s : State) (v : GaugeSettings) : State :=
  if ({ s.gaugeSettings with tClear := v.tClear } : GaugeSettings) = v then s.withGauges v else (s.withGauges v).evaluate

theorem applyGaugeSet_eq : s.applyGaugeSet v =
    if s.gaugeSettings.tClear ≠ v.tClear && (s.gaugesTaken v).clearDue then (s.gaugesTaken v).stepDown else s.gaugesTaken v := rfl

theorem clearDue_iff : s.clearDue = true ↔ ∃ start, s.rain.timer = some start ∧ start + 60 * s.rain.tClear ≤ s.partTime := by
  unfold clearDue
  cases s.rain.timer with
  | none => simp
  | some start => simp

theorem gaugeSettings_withGauges : (s.withGauges v).gaugeSettings = v := by
  have tips : (Vector.ofFn (fun g : Fin 4 => { s.gauge g with tipDepth := v.tips.get g })).map (fun g => g.tipDepth) = v.tips := by
    refine Vector.ext fun i lt => ?_
    simp [Vector.get_eq_getElem]
  simp only [gaugeSettings, withGauges, tips]

theorem tips_eq_of_gauge {u : State} (each : ∀ g, (u.gauge g).tipDepth = (s.gauge g).tipDepth) :
    u.rain.gauges.map (fun g => g.tipDepth) = s.rain.gauges.map (fun g => g.tipDepth) := by
  refine Vector.ext fun i lt => ?_
  have here := each ⟨i, lt⟩
  simpa [gauge, Vector.get_eq_getElem] using here

/-- An evaluation leaves the gauge settings. -/
theorem gaugeSettings_of_evaluated (taken : evaluated s t) : t.gaugeSettings = s.gaugeSettings := by
  obtain ⟨rain, gauges, -⟩ := taken
  have tips := tips_eq_of_gauge (s := s) (u := t) (fun g => by rw [gauges])
  unfold gaugeSettings
  rw [tips, rain]

theorem gaugeSettings_of_steppedDown (taken : steppedDown s t) : t.gaugeSettings = s.gaugeSettings := by
  obtain ⟨u, rain, -, -, -, -, -, after⟩ := taken
  rw [gaugeSettings_of_evaluated after]
  unfold gaugeSettings
  rw [rain]

theorem gaugeSettings_gaugesTaken : (s.gaugesTaken v).gaugeSettings = v := by
  unfold gaugesTaken
  split
  · exact gaugeSettings_withGauges
  · exact (gaugeSettings_of_evaluated (evaluated_evaluate _)).trans gaugeSettings_withGauges

theorem gaugeSettings_applyGaugeSet : (s.applyGaugeSet v).gaugeSettings = v := by
  rw [applyGaugeSet_eq]
  split
  · exact (gaugeSettings_of_steppedDown (steppedDown_stepDown _)).trans gaugeSettings_gaugesTaken
  · exact gaugeSettings_gaugesTaken

theorem outer_gaugesTaken : (s.gaugesTaken v).outer = s.outer := by
  unfold gaugesTaken
  split
  · rfl
  · obtain ⟨-, -, -, -, -, -, -, frame⟩ := evaluated_evaluate (s.withGauges v)
    exact frame .outer (by decide)

/-- GAUGE_SET steps the level down exactly where a changed T_clear has run out. -/
theorem stepsDown_iff : (s.gaugeSettings.tClear ≠ v.tClear && (s.gaugesTaken v).clearDue) = true ↔
    v.tClear ≠ s.rain.tClear ∧ ∃ start, (s.gaugesTaken v).rain.timer = some start ∧ start + 60 * v.tClear ≤ s.partTime := by
  have length : (s.gaugesTaken v).rain.tClear = v.tClear := congrArg GaugeSettings.tClear gaugeSettings_gaugesTaken
  obtain ⟨-, clock, -⟩ := outer_eq_iff.mp (outer_gaugesTaken (s := s) (v := v))
  have now : (s.gaugesTaken v).partTime = s.partTime := by simp only [partTime, clock]
  rw [Bool.and_eq_true, clearDue_iff, length, now, decide_eq_true_eq, ne_comm]
  rfl

theorem onlyChanges_applyGaugeSet : onlyChanges [.rain, .tanks, .store, .notices, .trigger] s (s.applyGaugeSet v) := by
  intro area other
  cases area <;> simp [unchanged] at other ⊢

end State

end Sys2Proof.Machine
end

section
/-! SUPPORT. The obligation of SPILL_SET and GAUGE_SET (R47, R49, R52, R53, R121, R123, R137). -/

namespace Sys2Proof.Machine

/-- The dry gauge byte of a SPILL_SET names a gauge, or none (R137). -/
theorem indexOrFF_of_dryGauge {named : Byte} {g : Option (Fin 4)}
    (names : g = none ∧ named = 255#8 ∨ ∃ k, g = some k ∧ k.val = named.toNat) : indexOrFF 4 named = some g := by
  rcases names with ⟨rfl, rfl⟩ | ⟨k, rfl, is⟩
  · exact indexOrFF_ff 4
  · exact indexOrFF_of_val (by decide) is

theorem exists_spillSetAnswer {s : State} {v : SpillOperands} {g : Option (Fin 4)} (index : indexOrFF 4 v.dryGauge = some g) :
    ∃ code, spillSetAnswer v s = answer (s.applySpillSet (clampSpill (spillSent v g))) code
      ∧ (code = .done ∨ code = .doneClamped) ∧ (code = .done ↔ spillSetFits v) := by
  obtain ⟨code, eq, codes, done⟩ := doneOr_cases (s.applySpillSet (clampSpill (spillSent v g)))
    (decide (clampSpill (spillSent v g) ≠ spillSent v g))
  refine ⟨code, ?_, codes, done.trans ?_⟩
  · simp only [spillSetAnswer, index]
    exact eq
  · rw [decide_eq_false_iff_not, not_not, clampSpill_eq_self_iff]

theorem exists_gaugeSetAnswer {s : State} {v : GaugeOperands} (ordered : gaugesOrdered v) :
    ∃ code, gaugeSetAnswer v s = answer (s.applyGaugeSet (clampGauges (gaugeSent v))) code
      ∧ (code = .done ∨ code = .doneClamped) ∧ (code = .done ↔ gaugeSetFits v) := by
  obtain ⟨code, eq, codes, done⟩ := doneOr_cases (s.applyGaugeSet (clampGauges (gaugeSent v)))
    (decide (clampGauges (gaugeSent v) ≠ gaugeSent v))
  refine ⟨code, (if_pos ((thresholdsOrdered_iff v).mpr ordered)).trans eq, codes, done.trans ?_⟩
  rw [decide_eq_false_iff_not, not_not, clampGauges_eq_self_iff]

/-- The changed flag aside, an order leaves what its rule leaves. -/
theorem exists_marking_save {f : State → Answer} {s t : State} {c : Code} (rule : f s = answer t c) :
    ∃ u, marking f s = answer u c ∧ u = { t with save := u.save } := by
  by_cases same : t.workingSettings = s.workingSettings
  · exact ⟨t, marking_of_same rule same, rfl⟩
  · exact ⟨t.marked, marking_of_changed rule same, rfl⟩

open State

/-- Settles O44: the spill settings outfall by outfall, the gauge settings by their evaluation and the step down. -/
theorem recordSettings : Obligations.RecordSettings := by
  intro h s b
  refine ⟨fun v admitted => ⟨fun out some_ => ?_, fun g names => ?_⟩, fun v admitted => ?_⟩
  · refine exec_of_rule rfl admitted (marking_of_refused ?_)
    simp only [spillSetAnswer, indexOrFF_of_le out some_]
  · obtain ⟨code, applied, codes, done⟩ := exists_spillSetAnswer (s := s.during b) (indexOrFF_of_dryGauge names)
    obtain ⟨t, marks, frame⟩ := exists_marking applied
    generalize settings : clampSpill (spillSent v g) = w at applied marks frame
    have spill : t.spill = ((s.during b).applySpillSet w).spill := frame .spill (by decide)
    have kept := spill_applySpillSet (s := s.during b) (v := w)
    have taken : t.spill.set = w := by rw [spill, kept]
    have outfall (o : Fin 8) : t.outfall o = ((s.during b).applySpillSet w).outfall o := outfall_congr spill o
    have tank (o : Fin 8) : t.tank o = ((s.during b).applySpillSet w).tank o := tank_congr (frame .tanks (by decide)) o
    have notices := notices_congr (frame .notices (by decide)) .record
    refine ⟨t, code, exec_of_rule rfl admitted marks, codes, done, ?_, ?_, ?_⟩
    · rw [taken, ← settings, clampSpill_spillSent]
    · exact onlyChanges_trans (onlyChanges_mono (by decide) onlyChanges_applySpillSet) (onlyChanges_mono (by decide) frame)
    · dsimp only
      rw [taken]
      refine ⟨?_, ?_, ?_, ?_⟩
      · rw [spill]
        exact kept
      · intro o start due
        obtain ⟨phase, event, spilling, told, alone⟩ := applySpillSet_of_enters (s := s.during b) (v := w) due
        rw [outfall, tank, notices]
        refine ⟨phase, event, spilling, told, fun only => ?_⟩
        obtain ⟨x, count, made, madeTank, opened⟩ := alone only
        refine ⟨x, count, ?_, (tank o).trans madeTank, opened⟩
        rw [outfall]
        exact made
      · intro o start due
        obtain ⟨quiet, still, told⟩ := applySpillSet_of_quiets (s := s.during b) (v := w) due
        rw [outfall, tank, notices]
        exact ⟨quiet, still, told⟩
      · intro o on off
        rw [outfall, tank]
        exact applySpillSet_of_neither (s := s.during b) (v := w) on off
  · dsimp only
    refine ⟨fun not => ?_, fun ordered => ?_⟩
    · have disorder : thresholdsOrdered (clampGauges (gaugeSent v)) ≠ true := fun yes => not ((thresholdsOrdered_iff v).mp yes)
      exact exec_of_rule rfl admitted (marking_of_refused (if_neg disorder))
    · obtain ⟨code, applied, codes, done⟩ := exists_gaugeSetAnswer (s := s.during b) ordered
      obtain ⟨t, marks, saved⟩ := exists_marking_save applied
      generalize settings : clampGauges (gaugeSent v) = w at applied marks saved
      have rain : t.rain = ((s.during b).applyGaugeSet w).rain := by rw [saved]
      have taken : t.gaugeSettings = w := by
        have same : t.gaugeSettings = ((s.during b).applyGaugeSet w).gaugeSettings := by simp only [gaugeSettings, rain]
        exact same.trans gaugeSettings_applyGaugeSet
      have frame : onlyChanges [.save] ((s.during b).applyGaugeSet w) t := by
        rw [saved]
        intro area other
        cases area <;> first | rfl | exact absurd (by simp) other
      refine ⟨t, code, exec_of_rule rfl admitted marks, codes, done, ?_, ?_, ?_⟩
      · rw [taken, ← settings, clampGauges_gaugeSent]
        rfl
      · exact onlyChanges_trans (onlyChanges_mono (by decide) onlyChanges_applyGaugeSet) (onlyChanges_mono (by decide) frame)
      · have watch : t.rain.watch = w.watch := congrArg GaugeSettings.watch taken
        have warn : t.rain.warn = w.warn := congrArg GaugeSettings.warn taken
        have storm : t.rain.storm = w.storm := congrArg GaugeSettings.storm taken
        have length : t.rain.tClear = w.tClear := congrArg GaugeSettings.tClear taken
        refine ⟨(s.during b).gaugesTaken w, (s.during b).applyGaugeSet w, ?_, ?_, saved⟩
        · rw [taken, watch, warn, storm, length]
          by_cases same : ({ s.gaugeSettings with tClear := w.tClear } : GaugeSettings) = w
          · rw [if_pos same]
            exact if_pos same
          · have moves : (s.during b).gaugesTaken w = ((s.during b).withGauges w).evaluate := if_neg same
            rw [if_neg same, moves]
            exact evaluated_evaluate _
        · rw [length]
          split
          · rename_i down
            rw [applyGaugeSet_eq, if_pos ((stepsDown_iff (s := s.during b)).mpr down)]
            exact steppedDown_stepDown _
          · rename_i stays
            rw [applyGaugeSet_eq, if_neg (fun yes => stays ((stepsDown_iff (s := s.during b)).mp yes))]

end Sys2Proof.Machine
end

section
/-! SUPPORT. The sections of a settings image as it is read (R25, R190, 11.5). -/

namespace Sys2Proof.Machine

section Reading

variable {bs : List Byte} {i : Nat} {kind : Kind} {q : Option Binding}

theorem clamp_zero (high v : Nat) : clamp 0 high v = min high v := by simp [clamp]

/-! ### Bindings -/

theorem indexOrFF_eq_some_iff {n : Nat} (small : n ≤ 255) {x : Byte} {o : Option (Fin n)} :
    indexOrFF n x = some o ↔ (x.toNat = 255 ∧ o = none) ∨ ∃ c : Fin n, x.toNat = c.val ∧ o = some c := by
  by_cases ff : x = 255#8
  · subst ff
    rw [indexOrFF_ff]
    constructor
    · rintro ⟨⟩
      exact .inl ⟨rfl, rfl⟩
    · rintro (⟨-, rfl⟩ | ⟨c, is, -⟩)
      · rfl
      · have lt := c.isLt
        have value : (255#8).toNat = 255 := rfl
        omega
  · have not : x.toNat ≠ 255 := fun is => ff (BitVec.eq_of_toNat_eq is)
    rcases Nat.lt_or_ge x.toNat n with lt | le
    · rw [indexOrFF_of_val (e := ⟨x.toNat, lt⟩) small rfl]
      constructor
      · rintro ⟨⟩
        exact .inr ⟨⟨x.toNat, lt⟩, rfl, rfl⟩
      · rintro (⟨is, -⟩ | ⟨c, is, rfl⟩)
        · exact absurd is not
        · exact congrArg (fun d => some (some d)) (Fin.ext is)
    · rw [indexOrFF_of_le le ff]
      refine iff_of_false (fun no => nomatch no) ?_
      rintro (⟨is, -⟩ | ⟨c, is, -⟩)
      · exact not is
      · have lt := c.isLt
        omega

/-- The parameters of an image's binding, as its kind uses them. -/
theorem usedParams_takeParams (kind : Kind) (sent : ChannelParams) : usedParams kind (takeParams kind defaultParams sent) =
    { activeLow := sent.activeLow, debounce := max 1 (min 50 sent.debounce)
      lockout := if kind = .rain then min 2000 sent.lockout else 0
      gate := if kind = .flow then max 1 (min 60 sent.gate) else 0
      tenths := if kind = .flow then max 1 (min 10000 sent.tenths) else 0 } := by
  cases kind <;> simp [usedParams, takeParams, clamp]

theorem readBinding_eq_some_iff {channel polarity debounce : Byte} {lockout gate tenths : Nat} :
    readBinding kind channel polarity debounce lockout gate tenths = some q ↔ (channel.toNat = 255 ∧ q = none)
      ∨ ∃ c : Fin 16, channel.toNat = c.val ∧ q = some {
          channel := c
          params := usedParams kind (takeParams kind defaultParams
            { activeLow := activeLowOf polarity, debounce := debounce.toNat, lockout := lockout, gate := gate, tenths := tenths }) } := by
  rw [readBinding, Option.map_eq_some_iff]
  constructor
  · rintro ⟨o, index, rfl⟩
    rcases (indexOrFF_eq_some_iff (by decide)).mp index with ⟨is, rfl⟩ | ⟨c, is, rfl⟩
    · exact .inl ⟨is, rfl⟩
    · exact .inr ⟨c, is, rfl⟩
  · rintro (⟨is, rfl⟩ | ⟨c, is, rfl⟩)
    · exact ⟨none, (indexOrFF_eq_some_iff (by decide)).mpr (.inl ⟨is, rfl⟩), rfl⟩
    · exact ⟨some c, (indexOrFF_eq_some_iff (by decide)).mpr (.inr ⟨c, is, rfl⟩), rfl⟩

/-- The binding of a role or of the leg meter, as the image holds it. -/
theorem readRoleBinding_eq_some_iff (role : kind ≠ .rain) : readRoleBinding kind bs i = some q ↔ bindingAt bs i kind q := by
  rw [readRoleBinding, readBinding_eq_some_iff, bindingAt, usedParams_takeParams]
  simp only [readBind, toNat_wordAt, toNat_fieldByte, if_neg role, activeLowOf]
  exact Iff.rfl

theorem readGaugeBinding_eq_some_iff : readGaugeBinding bs i = some q ↔ bindingAt bs i .rain q := by
  rw [readGaugeBinding, readBinding_eq_some_iff, bindingAt, usedParams_takeParams]
  simp only [readGaugeBind, toNat_wordAt, toNat_fieldByte, activeLowOf]
  exact Iff.rfl

/-! ### The shape table (R25) -/

theorem pointsOrdered_iff (ps : List Point) : pointsOrdered ps = true ↔
    ∀ n a b, ps[n]? = some a → ps[n + 1]? = some b → a.level < b.level ∧ a.volume ≤ b.volume := by
  induction ps with
  | nil => exact iff_of_true rfl (fun n a b no => by simp at no)
  | cons x rest ih =>
    cases rest with
    | nil => exact iff_of_true rfl (fun n a b _ no => by simp at no)
    | cons y rest =>
      simp only [pointsOrdered, Bool.and_eq_true, decide_eq_true_eq, ih]
      constructor
      · rintro ⟨first, others⟩ n a b at_ next
        cases n with
        | zero =>
          obtain rfl := Option.some.inj at_
          obtain rfl := Option.some.inj next
          exact first
        | succ n => exact others n a b at_ next
      · intro all
        exact ⟨all 0 x y rfl rfl, fun n a b at_ next => all (n + 1) a b at_ next⟩

/-- The points of a shape table in an image. -/
def pointsAt (bs : List Byte) (i count : Nat) : List Point :=
  (List.range count).map (fun n => { level := fieldAt bs (i + 1 + 4 * n) 2, volume := fieldAt bs (i + 3 + 4 * n) 2 })

theorem shapeSent_readShape (few : byteAt bs i ≤ 8) : shapeSent (readShape bs i) = pointsAt bs i (byteAt bs i) := by
  have length : (shapeSent (readShape bs i)).length = (pointsAt bs i (byteAt bs i)).length := by
    simp [shapeSent, pointsAt, readShape, toNat_fieldByte, few]
  refine List.ext_getElem length fun n lt _ => ?_
  simp [shapeSent, pointsAt, readShape, toNat_wordAt]

theorem shapeOk_readShape_iff : shapeOk (readShape bs i) = true ↔ 2 ≤ byteAt bs i ∧ byteAt bs i ≤ 8
    ∧ (∀ q ∈ pointsAt bs i (byteAt bs i), q.level ≤ 20000)
    ∧ ∀ n a b, (pointsAt bs i (byteAt bs i))[n]? = some a → (pointsAt bs i (byteAt bs i))[n + 1]? = some b →
      a.level < b.level ∧ a.volume ≤ b.volume := by
  have count : (readShape bs i).count.toNat = byteAt bs i := rfl
  rw [shapeOk, count]
  simp only [Bool.and_eq_true, decide_eq_true_eq, List.all_eq_true, pointsOrdered_iff, and_assoc]
  refine and_congr_right fun _ => and_congr_right fun few => ?_
  rw [shapeSent_readShape few]

/-! ### A tank's slot (11.5) -/

/-- The settings of a tank as its slot holds them. -/
theorem clampTank_readTank (bs : List Byte) (i : Nat) (shape : List Point) : clampTank (tankSent (readTank bs (i + 1)) shape) =
    { enabled := byteAt bs (i + 1) % 2 = 1, preEmpt := byteAt bs (i + 1) / 2 % 2 = 1
      stormSuspend := byteAt bs (i + 1) / 4 % 2 = 1, cls := max 1 (min 4 (byteAt bs (i + 2)))
      mLimit := min 1000 (fieldAt bs (i + 3) 2), e := min 200 (byteAt bs (i + 5))
      fFull := max 700 (min 1000 (fieldAt bs (i + 6) 2)), h := max 5 (min 100 (byteAt bs (i + 8)))
      tol := min 200 (byteAt bs (i + 9)), dLo := max 50 (min 450 (fieldAt bs (i + 10) 2))
      dHi := max 550 (min 950 (fieldAt bs (i + 12) 2)), span := max 500 (min 20000 (fieldAt bs (i + 14) 2))
      shape := shape } := by
  rw [clampTank_tankSent]
  simp only [readTank, toNat_wordAt, toNat_fieldByte, Nat.add_assoc, Nat.reduceAdd]

theorem readTankSlot_of_zero {t : Fin 8} (zero : byteAt bs (tankOffset t) = 0) : readTankSlot bs t = some unclaimedSection := by
  have code : (fieldByte bs (tankOffset t)).toNat = 0 := zero
  simp only [readTankSlot, code]

theorem readTankSlot_of_succ {t : Fin 8} {n : Nat} (code : byteAt bs (tankOffset t) = n + 1) : readTankSlot bs t =
    match readRoleBinding .level bs (tankOffset t + 49), readRoleBinding .flow bs (tankOffset t + 55),
      readRoleBinding .spill bs (tankOffset t + 61) with
    | some l, some d, some p =>
      if n < 2 ∧ shapeOk (readShape bs (tankOffset t + 16)) then
        some { owner := if n = 0 then .siteA else .siteB,
               set := clampTank (tankSent (readTank bs (tankOffset t + 1)) (shapeSent (readShape bs (tankOffset t + 16)))),
               level := l, draw := d, spill := p }
      else none
    | _, _, _ => none := by
  have code : (fieldByte bs (tankOffset t)).toNat = n + 1 := code
  simp only [readTankSlot, code] <;> rfl

/-- The slot of a claimed tank, as the image holds it. -/
theorem readTankSlot_eq_some_iff_of_claimed {t : Fin 8} {v : TankSection} (claimed : byteAt bs (tankOffset t) ≠ 0) :
    readTankSlot bs t = some v ↔ tankAt bs (tankOffset t) v := by
  obtain ⟨n, code⟩ := Nat.exists_eq_succ_of_ne_zero claimed
  rw [readTankSlot_of_succ code]
  constructor
  · intro read
    split at read
    · rename_i l d p level draw spill
      split at read
      · rename_i both
        obtain ⟨two, ok⟩ := both
        obtain ⟨least, most, levels, ordered⟩ := shapeOk_readShape_iff.mp ok
        obtain rfl := Option.some.inj read
        have points := shapeSent_readShape most
        refine ⟨?_, ?_, least, most, ?_, ?_, (readRoleBinding_eq_some_iff (by decide)).mp level,
          (readRoleBinding_eq_some_iff (by decide)).mp draw, (readRoleBinding_eq_some_iff (by decide)).mp spill⟩
        · rw [code]
          match n, two with
          | 0, _ => exact .inl ⟨rfl, rfl⟩
          | 1, _ => exact .inr ⟨rfl, rfl⟩
        · dsimp only
          rw [points, clampTank_readTank]
          rfl
        · dsimp only
          rw [clampTank_readTank, points]
          exact levels
        · dsimp only
          rw [clampTank_readTank, points]
          exact ordered
      · exact nomatch read
    · exact nomatch read
  · rintro ⟨owner, set_, least, most, levels, ordered, level, draw, spill⟩
    rw [(readRoleBinding_eq_some_iff (by decide)).mpr level, (readRoleBinding_eq_some_iff (by decide)).mpr draw,
      (readRoleBinding_eq_some_iff (by decide)).mpr spill]
    have shape : v.set.shape = pointsAt bs (tankOffset t + 16) (byteAt bs (tankOffset t + 16)) := by
      rw [set_]
      rfl
    rw [shape] at levels ordered
    have ok := shapeOk_readShape_iff.mpr ⟨least, most, levels, ordered⟩
    have held : clampTank (tankSent (readTank bs (tankOffset t + 1)) (shapeSent (readShape bs (tankOffset t + 16)))) = v.set := by
      rw [clampTank_readTank, shapeSent_readShape most, set_]
      rfl
    dsimp only
    rw [held]
    rcases owner with ⟨one, is⟩ | ⟨two, is⟩
    · obtain rfl : n = 0 := by omega
      rw [if_pos ⟨by decide, ok⟩, if_pos rfl, ← is]
    · obtain rfl : n = 1 := by omega
      rw [if_pos ⟨by decide, ok⟩, if_neg (by decide), ← is]

theorem readTankSlot_eq_some_iff {t : Fin 8} {v : TankSection} : readTankSlot bs t = some v ↔
    if byteAt bs (tankOffset t) = 0 then v = unclaimedSection else tankAt bs (tankOffset t) v := by
  by_cases zero : byteAt bs (tankOffset t) = 0
  · rw [readTankSlot_of_zero zero, if_pos zero, Option.some.injEq, eq_comm]
  · rw [if_neg zero]
    exact readTankSlot_eq_some_iff_of_claimed zero

theorem allOf_eq_some_iff {α : Type} {n : Nat} {f : Fin n → Option α} {fallback : α} {v : Vector α n} :
    allOf f fallback = some v ↔ ∀ i, f i = some (v.get i) := by
  unfold allOf
  constructor
  · intro all i
    split at all
    · rename_i some_
      obtain rfl := Option.some.inj all
      obtain ⟨a, is⟩ := Option.isSome_iff_exists.mp (List.all_eq_true.mp some_ i (List.mem_finRange i))
      simp [is, Vector.get_eq_getElem]
    · exact nomatch all
  · intro each
    have some_ : (List.finRange n).all (fun i => (f i).isSome) = true := by
      rw [List.all_eq_true]
      intro i _
      rw [each i]
      rfl
    rw [if_pos some_, Option.some.injEq]
    refine Vector.ext fun i lt => ?_
    have here := each ⟨i, lt⟩
    simp [here, Vector.get_eq_getElem]

end Reading

end Sys2Proof.Machine
end

section
/-! SUPPORT. The judging of a settings image (R190, 11.5). -/

namespace Sys2Proof.Machine

section Judging

variable {bs : List Byte} {i : Nat} {w : Settings}

/-! ### The retired list -/

/-- The retired list that an image holds at an offset. -/
def retiredAt (bs : List Byte) (i : Nat) (r : Retired) : Prop :=
  byteAt bs i = r.blocks.length ∧ r.blocks.length ≤ 16 ∧ r.blocks.Nodup ∧ byteAt bs (i + 1) = bit r.worn
    ∧ ∀ j b, r.blocks[j]? = some b → byteAt bs (i + 2 + j) = b.val

/-- The block numbers that an image holds from an offset on. -/
def numbersAt (bs : List Byte) (i n : Nat) : List Nat := (List.range n).map (fun j => byteAt bs (i + 2 + j))

theorem numbersAt_eq_map_val_iff {n : Nat} (blocks : List (Fin 64)) : numbersAt bs i n = blocks.map (fun b => b.val) ↔
    n = blocks.length ∧ ∀ j b, blocks[j]? = some b → byteAt bs (i + 2 + j) = b.val := by
  constructor
  · intro same
    have length : n = blocks.length := by simpa [numbersAt] using congrArg List.length same
    refine ⟨length, fun j b at_ => ?_⟩
    have here := congrArg (fun l => l[j]?) same
    have lt : j < n := by
      rw [length]
      exact (List.getElem?_eq_some_iff.mp at_).1
    simpa [numbersAt, lt, at_] using here
  · rintro ⟨rfl, each⟩
    refine List.ext_getElem (by simp [numbersAt]) fun j lt _ => ?_
    have within : j < blocks.length := by simpa [numbersAt] using lt
    have here := each j blocks[j] (List.getElem?_eq_getElem within)
    simpa [numbersAt] using here

theorem map_val_map_ofNat {l : List Nat} (small : ∀ n ∈ l, n < 64) : (l.map (Fin.ofNat 64)).map (fun b => b.val) = l := by
  rw [List.map_map]
  refine (List.map_congr_left fun n mem => ?_).trans (List.map_id l)
  exact Nat.mod_eq_of_lt (small n mem)

theorem nodup_map_val (blocks : List (Fin 64)) : (blocks.map (fun b => b.val)).Nodup ↔ blocks.Nodup :=
  List.nodup_map_iff Fin.val_injective

theorem map_ofNat_map_val (blocks : List (Fin 64)) : (blocks.map (fun b => b.val)).map (Fin.ofNat 64) = blocks := by
  rw [List.map_map]
  refine (List.map_congr_left fun b _ => ?_).trans (List.map_id blocks)
  exact Fin.ext (Nat.mod_eq_of_lt b.isLt)

theorem worn_eq_iff {n : Nat} {worn : Bool} : n = bit worn ↔ n ≤ 1 ∧ decide (n = 1) = worn := by
  cases worn <;> simp [bit] <;> omega

theorem readRetired_eq_some_iff {r : Retired} : readRetired bs i = some r ↔ retiredAt bs i r := by
  have read : readRetired bs i = if byteAt bs i ≤ 16 ∧ byteAt bs (i + 1) ≤ 1
      ∧ (numbersAt bs i (byteAt bs i)).all (fun b => decide (b < 64)) ∧ (numbersAt bs i (byteAt bs i)).Nodup then
      some { blocks := (numbersAt bs i (byteAt bs i)).map (Fin.ofNat 64), worn := byteAt bs (i + 1) = 1 } else none := rfl
  rw [read, Option.ite_none_right_eq_some]
  constructor
  · rintro ⟨⟨few, flag, small, nodup⟩, held⟩
    obtain rfl := Option.some.inj held
    have values : ∀ n ∈ numbersAt bs i (byteAt bs i), n < 64 := by simpa using small
    have same := map_val_map_ofNat values
    obtain ⟨length, each⟩ := (numbersAt_eq_map_val_iff _).mp same.symm
    refine ⟨length, ?_, ?_, worn_eq_iff.mpr ⟨flag, rfl⟩, each⟩
    · rw [← length]
      exact few
    · rw [← nodup_map_val, same]
      exact nodup
  · rintro ⟨length, few, nodup, flag, each⟩
    have same := (numbersAt_eq_map_val_iff r.blocks).mpr ⟨length, each⟩
    obtain ⟨low, worn⟩ := worn_eq_iff.mp flag
    refine ⟨⟨by rw [length]; exact few, low, ?_, ?_⟩, ?_⟩
    · rw [same]
      simp
    · rw [same, nodup_map_val]
      exact nodup
    · rw [same, map_ofNat_map_val, worn]

/-! ### The numbers of the sections -/

theorem clampWorks_readWorks (bs : List Byte) (i : Nat) : clampWorks (worksSent (readWorks bs i)) =
    { cLeg := min 4000 (fieldAt bs i 2), fallback := min (min 4000 (fieldAt bs i 2)) (fieldAt bs (i + 2) 2)
      tLease := max 1 (min 60 (byteAt bs (i + 4))), tConfirm := max 10 (min 600 (fieldAt bs (i + 5) 2))
      legTol := min 500 (fieldAt bs (i + 7) 2) } := by
  rw [clampWorks_worksSent]
  simp only [readWorks, toNat_wordAt, toNat_fieldByte]

theorem clampSpill_readSpill (bs : List Byte) (i : Nat) (dry : Option (Fin 4)) : clampSpill (spillSent (readSpill bs i) dry) =
    { w1 := max 1 (min 48 (byteAt bs i)), w2 := max 1 (min 48 (byteAt bs (i + 1))), tOn := min 600 (fieldAt bs (i + 2) 2)
      tOff := min 3600 (fieldAt bs (i + 4) 2), p := max 500 (min 1000 (fieldAt bs (i + 6) 2)), dDry := min 250 (byteAt bs (i + 8))
      dryGauge := dry } := by
  rw [clampSpill_spillSent]
  simp only [readSpill, toNat_wordAt, toNat_fieldByte]

theorem heldThreshold_readThreshold (bs : List Byte) (i : Nat) : heldThreshold (readThreshold bs i) = thresholdAt bs i := by
  simp only [heldThreshold, readThreshold, thresholdAt, toNat_wordAt]

/-- The gauge settings that an image holds at an offset. -/
def gaugesAt (bs : List Byte) (i : Nat) : GaugeSettings :=
  { tips := Vector.ofFn (fun g : Fin 4 => max 1 (min 10 (byteAt bs (i + g.val)))), watch := thresholdAt bs (i + 4)
    warn := thresholdAt bs (i + 12), storm := thresholdAt bs (i + 20), tClear := max 5 (min 120 (byteAt bs (i + 28))) }

theorem clampGauges_readGauge (bs : List Byte) (i : Nat) : clampGauges (gaugeSent (readGauge bs i)) = gaugesAt bs i := by
  have tips : (readGauge bs i).tips.map (fun x => max 1 (min 10 x.toNat)) =
      Vector.ofFn (fun g : Fin 4 => max 1 (min 10 (byteAt bs (i + g.val)))) := by
    refine Vector.ext fun j lt => ?_
    simp [readGauge, toNat_fieldByte]
  rw [clampGauges_gaugeSent, tips]
  simp only [readGauge, heldThreshold_readThreshold, toNat_fieldByte, gaugesAt]

theorem eq_gaugesAt_iff {v : GaugeSettings} : v = gaugesAt bs i ↔ (∀ g : Fin 4, v.tips.get g = max 1 (min 10 (byteAt bs (i + g.val))))
    ∧ v.watch = thresholdAt bs (i + 4) ∧ v.warn = thresholdAt bs (i + 12) ∧ v.storm = thresholdAt bs (i + 20)
    ∧ v.tClear = max 5 (min 120 (byteAt bs (i + 28))) := by
  constructor
  · rintro rfl
    exact ⟨fun g => by simp [gaugesAt, Vector.get_eq_getElem], rfl, rfl, rfl, rfl⟩
  · rintro ⟨tips, watch, warn, storm, tClear⟩
    have same : v.tips = Vector.ofFn (fun g : Fin 4 => max 1 (min 10 (byteAt bs (i + g.val)))) := by
      refine Vector.ext fun j lt => ?_
      have here := tips ⟨j, lt⟩
      simpa [Vector.get_eq_getElem] using here
    cases v
    simp only at same watch warn storm tClear
    rw [gaugesAt, same, watch, warn, storm, tClear]

theorem thresholdsOrdered_iff_fit (v : GaugeSettings) : thresholdsOrdered v = true ↔ thresholdsFit v := by
  simp only [thresholdsOrdered, exitsBelow, thresholdsFit, Bool.and_eq_true, decide_eq_true_eq]
  constructor
  · rintro ⟨⟨⟨⟨⟨⟨watch, warn⟩, storm⟩, first⟩, second⟩, third⟩, fourth⟩
    refine ⟨?_, first, second, third, fourth⟩
    rintro x (rfl | rfl | rfl) <;> assumption
  · rintro ⟨below, first, second, third, fourth⟩
    exact ⟨⟨⟨⟨⟨⟨below _ (.inl rfl), below _ (.inr (.inl rfl))⟩, below _ (.inr (.inr rfl))⟩, first⟩, second⟩, third⟩, fourth⟩

/-! ### The whole image -/

/-- The five sections read with a check of their own, all of them sound. -/
def sectionsRead (bs : List Byte) (w : Settings) (dry : Option (Fin 4)) : Prop :=
  readRoleBinding .flow bs 17 = some w.legMeter ∧ allOf (readTankSlot bs) unclaimedSection = some w.tanks
    ∧ indexOrFF 4 (readSpill bs 672).dryGauge = some dry
    ∧ allOf (fun g : Fin 4 => readGaugeBinding bs (711 + 5 * g.val)) none = some w.rain ∧ readRetired bs 768 = some w.retired

theorem readSections_eq_some_iff : readSections bs = some w ↔ ∃ dry, sectionsRead bs w dry
    ∧ w.works = clampWorks (worksSent (readWorks bs 8)) ∧ w.spill = clampSpill (spillSent (readSpill bs 672) dry)
    ∧ w.gauges = gaugesAt bs 682 ∧ thresholdsFit w.gauges := by
  unfold readSections
  dsimp only
  rw [clampGauges_readGauge]
  constructor
  · intro read
    split at read
    · rename_i leg tanks dry rain retired leg_ tanks_ dry_ rain_ retired_
      rw [Option.ite_none_right_eq_some] at read
      obtain ⟨ordered, same⟩ := read
      obtain rfl := Option.some.inj same
      exact ⟨dry, ⟨leg_, tanks_, dry_, rain_, retired_⟩, rfl, rfl, rfl, (thresholdsOrdered_iff_fit _).mp ordered⟩
    · exact nomatch read
  · rintro ⟨dry, ⟨leg, tanks, gauge, rain, retired⟩, works, spill, gauges, fit⟩
    rw [gauges] at fit
    rw [leg, tanks, gauge, rain, retired]
    dsimp only
    rw [if_pos ((thresholdsOrdered_iff_fit _).mpr fit), ← works, ← spill, ← gauges]

theorem crc16_eq_wordAt_iff : crc16 (bs.take 1022) = wordAt bs 1022 ↔ fieldAt bs 1022 2 = (crc16 (bs.take 1022)).toNat := by
  rw [← toNat_wordAt, eq_comm, BitVec.toNat_inj]

theorem parseImage_eq_some_iff : parseImage bs = some w ↔ imageSound bs ∧ readSections bs = some w := by
  rw [parseImage, Option.ite_none_right_eq_some, crc16_eq_wordAt_iff]
  exact Iff.rfl

/-- An image gives exactly the settings that its bytes hold. -/
theorem parseImage_eq_some_iff_imageHolds : parseImage bs = some w ↔ imageHolds bs w := by
  rw [parseImage_eq_some_iff, imageHolds]
  refine and_congr_right fun _ => ?_
  rw [readSections_eq_some_iff]
  have spillByte (dry : Option (Fin 4)) : indexOrFF 4 (readSpill bs 672).dryGauge = some dry ↔
      (byteAt bs 681 = 255 ∧ dry = none ∨ ∃ g, dry = some g ∧ byteAt bs 681 = g.val) := by
    rw [indexOrFF_eq_some_iff (by decide)]
    refine or_congr Iff.rfl (exists_congr fun g => and_comm)
  constructor
  · rintro ⟨dry, ⟨leg, tanks, gauge, rain, retired⟩, works, spill, gauges, fit⟩
    obtain ⟨count, few, nodup, flag, each⟩ := readRetired_eq_some_iff.mp retired
    obtain ⟨tips, watch, warn, storm, tClear⟩ := eq_gaugesAt_iff.mp gauges
    refine ⟨?_, (readRoleBinding_eq_some_iff (by decide)).mp leg,
      fun k => readTankSlot_eq_some_iff.mp (allOf_eq_some_iff.mp tanks k), ⟨dry, (spillByte dry).mp gauge, ?_⟩,
      fun g => ⟨tips g, readGaugeBinding_eq_some_iff.mp (allOf_eq_some_iff.mp rain g)⟩, watch, warn, storm, tClear, fit,
      count, few, nodup, flag, each⟩
    · rw [works, clampWorks_readWorks]
    · rw [spill, clampSpill_readSpill]
  · rintro ⟨works, leg, tanks, ⟨dry, gauge, spill⟩, gauges, watch, warn, storm, tClear, fit, count, few, nodup, flag, each⟩
    refine ⟨dry, ⟨(readRoleBinding_eq_some_iff (by decide)).mpr leg,
      allOf_eq_some_iff.mpr fun k => readTankSlot_eq_some_iff.mpr (tanks k), (spillByte dry).mpr gauge,
      allOf_eq_some_iff.mpr fun g => readGaugeBinding_eq_some_iff.mpr (gauges g).2,
      readRetired_eq_some_iff.mpr ⟨count, few, nodup, flag, each⟩⟩, ?_, ?_,
      eq_gaugesAt_iff.mpr ⟨fun g => (gauges g).1, watch, warn, storm, tClear⟩, fit⟩
    · rw [works, clampWorks_readWorks]
    · rw [spill, clampSpill_readSpill]

theorem parseImage_of_not_sound (unsound : ¬ imageSound bs) : parseImage bs = none := by
  cases read : parseImage bs with
  | none => rfl
  | some w => exact absurd (parseImage_eq_some_iff.mp read).1 unsound

end Judging

end Sys2Proof.Machine
end

section
/-! SUPPORT. Bytes that stand at an offset of an image, and what a binding and a tank write there (R184, 11.5). -/

namespace Sys2Proof.Machine

/-- The bytes of an image from an offset on are those given. -/
def holdsAt (bs : List Byte) (i : Nat) (xs : List Byte) : Prop := ∀ j, j < xs.length → byteAt bs (i + j) = byteAt xs j

section Holding

variable {bs xs ys : List Byte} {i n v : Nat}

theorem holdsAt_append : holdsAt bs i (xs ++ ys) ↔ holdsAt bs i xs ∧ holdsAt bs (i + xs.length) ys := by
  constructor
  · intro holds
    refine ⟨fun j lt => ?_, fun j lt => ?_⟩
    · rw [holds j (by simp; omega), byteAt_append_of_lt lt]
    · rw [Nat.add_assoc, holds (xs.length + j) (by simp; omega), byteAt_append_of_le (by omega), Nat.add_sub_cancel_left]
  · rintro ⟨first, second⟩ j lt
    by_cases inside : j < xs.length
    · rw [first j inside, byteAt_append_of_lt inside]
    · have rest := second (j - xs.length) (by simp at lt; omega)
      rw [byteAt_append_of_le (by omega), ← rest, show i + xs.length + (j - xs.length) = i + j by omega]

theorem holdsAt_cons {x : Byte} : holdsAt bs i (x :: xs) ↔ byteAt bs i = x.toNat ∧ holdsAt bs (i + 1) xs := by
  have split := holdsAt_append (bs := bs) (i := i) (xs := [x]) (ys := xs)
  refine split.trans (and_congr_left fun _ => ?_)
  constructor
  · intro holds
    exact holds 0 (by simp)
  · intro here j lt
    obtain rfl : j = 0 := by simpa using lt
    exact here

theorem holdsAt_nil : holdsAt bs i [] ↔ True := iff_of_true (fun _ lt => absurd lt (Nat.not_lt_zero _)) trivial

theorem holdsAt_self : holdsAt bs 0 bs := fun j _ => by rw [Nat.zero_add]

theorem holdsAt_padTo (fits : xs.length ≤ n) (holds : holdsAt bs i (padTo n xs)) : holdsAt bs i xs := by
  intro j lt
  rw [holds j (by rw [length_padTo]; omega), byteAt_padTo (by omega)]

theorem byteAt_of_holdsAt (holds : holdsAt bs i xs) {j : Nat} (lt : j < xs.length) : byteAt bs (i + j) = byteAt xs j := holds j lt

theorem fieldAt_of_holdsAt (holds : holdsAt bs i xs) {j n : Nat} (le : j + n ≤ xs.length) :
    fieldAt bs (i + j) n = fieldAt xs j n := by
  induction n with
  | zero => rfl
  | succ n ih => rw [fieldAt, fieldAt, ih (by omega), Nat.add_assoc, holds (j + n) (by omega)]

/-- A number within its field is read back where it stands. -/
theorem fieldAt_of_beBytes (holds : holdsAt bs i (beBytes n v)) (small : v < 256 ^ n) : fieldAt bs i n = v := by
  have read := fieldAt_of_holdsAt holds (j := 0) (n := n) (by simp)
  rw [Nat.add_zero, fieldAt_beBytes, Nat.mod_eq_of_lt small] at read
  exact read

theorem fieldAt_of_wordOf (holds : holdsAt bs i (wordBytes (wordOf v))) (small : v < 65536) : fieldAt bs i 2 = v := by
  have value : (wordOf v).toNat = v := by
    rw [wordOf, BitVec.toNat_ofNat]
    exact Nat.mod_eq_of_lt small
  have read := fieldAt_of_holdsAt holds (j := 0) (n := 2) (by simp)
  rw [Nat.add_zero, fieldAt_wordBytes, value] at read
  exact read

theorem toNat_byteOf (small : v < 256) : (byteOf v).toNat = v := by
  rw [byteOf, BitVec.toNat_ofNat]
  exact Nat.mod_eq_of_lt small

/-- The part of each index stands after the parts of those before it. -/
theorem holdsAt_flatMap {m size : Nat} {f : Fin m → List Byte} (sizes : ∀ k, (f k).length = size)
    (holds : holdsAt bs i ((List.finRange m).flatMap f)) (k : Fin m) : holdsAt bs (i + size * k.val) (f k) := by
  obtain ⟨before, after, split, at_⟩ : ∃ before after, List.finRange m = before ++ k :: after ∧ before.length = k.val := by
    refine ⟨(List.finRange m).take k.val, (List.finRange m).drop (k.val + 1), ?_, by simp⟩
    have here : (List.finRange m).drop k.val = k :: (List.finRange m).drop (k.val + 1) := by
      rw [List.drop_eq_getElem_cons (by simp)]
      simp
    rw [← here, List.take_append_drop]
  have length : (before.flatMap f).length = size * k.val := by
    rw [List.length_flatMap, ← at_]
    simp [sizes, Nat.mul_comm]
  rw [split, List.flatMap_append, List.flatMap_cons] at holds
  obtain ⟨-, rest⟩ := holdsAt_append.mp holds
  rw [length] at rest
  exact (holdsAt_append.mp rest).1

end Holding

/-! ### A binding (11.5) -/

theorem length_imageFill (offset n : Nat) : (imageFill offset n).length = n := by simp [imageFill]

theorem length_bindingBytes (kind : Kind) (offset : Nat) (q : Option Binding) : (bindingBytes kind offset q).length = 6 := by
  cases q with
  | none => simp [bindingBytes, length_imageFill]
  | some b =>
    by_cases flow : kind = .flow
    · simp [bindingBytes, flow]
    · simp [bindingBytes, flow, length_imageFill]

theorem length_gaugeBindingBytes (offset : Nat) (q : Option Binding) : (gaugeBindingBytes offset q).length = 5 := by
  cases q <;> simp [gaugeBindingBytes, length_imageFill]

theorem mod_bit (b : Bool) : decide (bit b % 2 = 1) = b := by cases b <;> rfl

theorem bit_lt (b : Bool) : bit b < 256 := by cases b <;> decide

/-- A binding fits its kind: each parameter used within its range, the others 0. -/
def bindingFits (kind : Kind) (q : Option Binding) : Prop :=
  ∀ b, q = some b → paramsFit kind b.params ∧ (kind ≠ .rain → b.params.lockout = 0)
    ∧ (kind ≠ .flow → b.params.gate = 0 ∧ b.params.tenths = 0)

/-- A number within its bounds is its nearest bound. -/
theorem max_min_eq_self {low high v : Nat} (le : low ≤ v) (ge : v ≤ high) : max low (min high v) = v := by omega

theorem bindingAt_of_bytes {bs : List Byte} {i : Nat} {kind : Kind} {b : Binding} (fits : bindingFits kind (some b))
    (channel : byteAt bs i = b.channel.val) (polarity : byteAt bs (i + 1) = bit b.params.activeLow)
    (debounce : byteAt bs (i + 2) = b.params.debounce)
    (lockout : kind = .rain → fieldAt bs (i + 3) 2 = b.params.lockout)
    (gate : kind = .flow → byteAt bs (i + 3) = b.params.gate ∧ fieldAt bs (i + 4) 2 = b.params.tenths) :
    bindingAt bs i kind (some b) := by
  obtain ⟨⟨low, high, lockoutFits, flowFits⟩, noLockout, noFlow⟩ := fits b rfl
  have lockoutHeld : (if kind = .rain then min 2000 (fieldAt bs (i + 3) 2) else 0) = b.params.lockout := by
    by_cases rain : kind = .rain
    · rw [if_pos rain, lockout rain, min_eq_right (lockoutFits rain)]
    · rw [if_neg rain, noLockout rain]
  have flowHeld : (if kind = .flow then max 1 (min 60 (byteAt bs (i + 3))) else 0) = b.params.gate
      ∧ (if kind = .flow then max 1 (min 10000 (fieldAt bs (i + 4) 2)) else 0) = b.params.tenths := by
    by_cases flow : kind = .flow
    · obtain ⟨gateAt, tenthsAt⟩ := gate flow
      obtain ⟨gateLow, gateHigh, tenthsLow, tenthsHigh⟩ := flowFits flow
      rw [if_pos flow, if_pos flow, gateAt, tenthsAt]
      exact ⟨max_min_eq_self gateLow gateHigh, max_min_eq_self tenthsLow tenthsHigh⟩
    · obtain ⟨gateZero, tenthsZero⟩ := noFlow flow
      rw [if_neg flow, if_neg flow]
      exact ⟨gateZero.symm, tenthsZero.symm⟩
  refine .inr ⟨b.channel, channel, ?_⟩
  rw [polarity, debounce, lockoutHeld, flowHeld.1, flowHeld.2, mod_bit, max_min_eq_self low high]

/-- A role's binding that fits is read back. -/
theorem bindingAt_of_bindingBytes {bs : List Byte} {i offset : Nat} {kind : Kind} {q : Option Binding} (role : kind ≠ .rain)
    (fits : bindingFits kind q) (holds : holdsAt bs i (bindingBytes kind offset q)) : bindingAt bs i kind q := by
  cases q with
  | none =>
    obtain ⟨here, -⟩ := holdsAt_cons.mp (show holdsAt bs i (255#8 :: imageFill (offset + 1) 5) from holds)
    exact .inl ⟨here, rfl⟩
  | some b =>
    obtain ⟨⟨low, high, -, flowFits⟩, -⟩ := fits b rfl
    unfold bindingBytes at holds
    simp only [holdsAt_append, holdsAt_cons, holdsAt_nil, and_true, List.length_cons, List.length_nil, Nat.zero_add,
      Nat.reduceAdd, Nat.add_assoc] at holds
    obtain ⟨⟨channel, polarity, debounce⟩, rest⟩ := holds
    have channelLt := b.channel.isLt
    refine bindingAt_of_bytes fits ?_ ?_ ?_ (fun rain => absurd rain role) fun flow => ?_
    · rw [channel, toNat_byteOf (by omega)]
    · rw [polarity, toNat_byteOf (bit_lt _)]
    · rw [debounce, toNat_byteOf (by omega)]
    · obtain ⟨gateLow, gateHigh, tenthsLow, tenthsHigh⟩ := flowFits flow
      rw [if_pos flow] at rest
      simp only [holdsAt_append, holdsAt_cons, holdsAt_nil, and_true, List.length_cons, List.length_nil, Nat.zero_add,
        Nat.reduceAdd, Nat.add_assoc] at rest
      obtain ⟨gate, tenths⟩ := rest
      rw [gate, toNat_byteOf (by omega)]
      exact ⟨rfl, fieldAt_of_beBytes tenths (by omega)⟩

/-- A gauge's binding that fits is read back. -/
theorem bindingAt_of_gaugeBindingBytes {bs : List Byte} {i offset : Nat} {q : Option Binding} (fits : bindingFits .rain q)
    (holds : holdsAt bs i (gaugeBindingBytes offset q)) : bindingAt bs i .rain q := by
  cases q with
  | none =>
    obtain ⟨here, -⟩ := holdsAt_cons.mp (show holdsAt bs i (255#8 :: imageFill (offset + 1) 4) from holds)
    exact .inl ⟨here, rfl⟩
  | some b =>
    obtain ⟨⟨low, high, lockoutFits, -⟩, -⟩ := fits b rfl
    have within := lockoutFits rfl
    unfold gaugeBindingBytes at holds
    simp only [holdsAt_append, holdsAt_cons, holdsAt_nil, and_true, List.length_cons, List.length_nil, Nat.zero_add,
      Nat.reduceAdd, Nat.add_assoc] at holds
    obtain ⟨⟨channel, polarity, debounce⟩, lockout⟩ := holds
    have channelLt := b.channel.isLt
    refine bindingAt_of_bytes fits ?_ ?_ ?_ (fun _ => fieldAt_of_beBytes lockout (by omega)) (fun no => nomatch no)
    · rw [channel, toNat_byteOf (by omega)]
    · rw [polarity, toNat_byteOf (bit_lt _)]
    · rw [debounce, toNat_byteOf (by omega)]

end Sys2Proof.Machine
end

section
/-! SUPPORT. A settings image formed is read back (R184, R190, 11.5). -/

namespace Sys2Proof.Machine

section Forming

variable {bs : List Byte} {i : Nat} {w : Settings}

/-! ### A tank's slot -/

/-- The points of a shape table stand in its slots. -/
theorem shape_of_shapeBytes {ps : List Point} (few : ps.length ≤ 8) (fit : ∀ q ∈ ps, q.level ≤ 20000 ∧ q.volume ≤ 65535)
    (holds : holdsAt bs i (shapeBytes (shapeOperandsOf ps))) : byteAt bs i = ps.length ∧ pointsAt bs i (byteAt bs i) = ps := by
  obtain ⟨count, points⟩ := holdsAt_cons.mp (show holdsAt bs i ((shapeOperandsOf ps).count ::
    ((shapeOperandsOf ps).points.toList.flatMap pointBytes)) from holds)
  have value : byteAt bs i = ps.length := count.trans (toNat_byteOf (by omega))
  have size : (((shapeOperandsOf ps).points.toList).flatMap pointBytes).length = 32 := by
    rw [List.length_flatMap]
    simp [pointBytes]
  have slot (n : Nat) (lt : n < ps.length) : fieldAt bs (i + 1 + 4 * n) 2 = ps[n].level ∧ fieldAt bs (i + 3 + 4 * n) 2 = ps[n].volume := by
    obtain ⟨level, volume⟩ := fieldAt_points (shapeOperandsOf ps).points.toList [] n (by simp; omega)
    rw [List.append_nil] at level volume
    have levelAt := fieldAt_of_holdsAt points (j := 4 * n) (n := 2) (by rw [size]; omega)
    have volumeAt := fieldAt_of_holdsAt points (j := 4 * n + 2) (n := 2) (by rw [size]; omega)
    obtain ⟨levelFits, volumeFits⟩ := fit ps[n] (List.getElem_mem lt)
    have point : (shapeOperandsOf ps).points.toList[n]'(by simp; omega) =
        { level := wordOf ps[n].level, volume := wordOf ps[n].volume } := by
      simp [shapeOperandsOf, lt]
    rw [point] at level volume
    rw [show i + 3 + 4 * n = i + 1 + (4 * n + 2) by omega, levelAt, volumeAt, level, volume, wordOf, wordOf, BitVec.toNat_ofNat,
      BitVec.toNat_ofNat]
    exact ⟨Nat.mod_eq_of_lt (by omega), Nat.mod_eq_of_lt (by omega)⟩
  refine ⟨value, ?_⟩
  rw [value]
  refine List.ext_getElem (by simp [pointsAt]) fun n _ lt => ?_
  obtain ⟨level, volume⟩ := slot n lt
  simp [pointsAt, level, volume]

theorem length_shapeBytes (ps : List Point) : (shapeBytes (shapeOperandsOf ps)).length = 33 := by
  have size : (((shapeOperandsOf ps).points.toList).flatMap pointBytes).length = 32 := by
    rw [List.length_flatMap]
    simp [pointBytes]
  exact congrArg (fun n => n + 1) size

theorem length_tankBytes (v : TankOperands) : (tankBytes v).length = 15 := rfl

/-- The flags of a TANK_SET tell its three switches apart. -/
theorem flags_of_bits (enabled preEmpt stormSuspend : Bool) :
    bit enabled + 2 * bit preEmpt + 4 * bit stormSuspend < 256
      ∧ decide ((bit enabled + 2 * bit preEmpt + 4 * bit stormSuspend) % 2 = 1) = enabled
      ∧ decide ((bit enabled + 2 * bit preEmpt + 4 * bit stormSuspend) / 2 % 2 = 1) = preEmpt
      ∧ decide ((bit enabled + 2 * bit preEmpt + 4 * bit stormSuspend) / 4 % 2 = 1) = stormSuspend := by
  cases enabled <;> cases preEmpt <;> cases stormSuspend <;> decide

/-- The settings of a tank that fit are read back from their operand bytes. -/
theorem clampTank_of_tankBytes {v : TankSettings} (fits : tankFits v) (holds : holdsAt bs (i + 1) (tankBytes (tankOperandsOf v))) :
    clampTank (tankSent (readTank bs (i + 1)) v.shape) = v := by
  obtain ⟨clsLow, clsHigh, mLimit, e, fullLow, fullHigh, hLow, hHigh, tol, loLow, loHigh, hiLow, hiHigh, spanLow, spanHigh, -⟩ := fits
  obtain ⟨flagsLt, enabled, preEmpt, stormSuspend⟩ := flags_of_bits v.enabled v.preEmpt v.stormSuspend
  unfold tankBytes at holds
  simp only [tankOperandsOf, holdsAt_append, holdsAt_cons, holdsAt_nil, and_true, List.length_cons, List.length_nil, Nat.zero_add,
    Nat.reduceAdd, Nat.add_assoc, List.length_append, length_wordBytes] at holds
  obtain ⟨⟨⟨⟨⟨⟨⟨⟨flags, cls⟩, limitAt⟩, eAt⟩, fullAt⟩, hAt, tolAt⟩, loAt⟩, hiAt⟩, spanAt⟩ := holds
  rw [← Nat.add_assoc, toNat_byteOf flagsLt] at flags
  rw [toNat_byteOf (by omega)] at cls eAt hAt tolAt
  rw [clampTank_readTank, flags, cls, eAt, hAt, tolAt, fieldAt_of_wordOf limitAt (by omega), fieldAt_of_wordOf fullAt (by omega),
    fieldAt_of_wordOf loAt (by omega), fieldAt_of_wordOf hiAt (by omega), fieldAt_of_wordOf spanAt (by omega), enabled, preEmpt,
    stormSuspend, max_min_eq_self clsLow clsHigh, max_min_eq_self fullLow fullHigh, max_min_eq_self hLow hHigh,
    max_min_eq_self loLow loHigh, max_min_eq_self hiLow hiHigh, max_min_eq_self spanLow spanHigh, min_eq_right mLimit,
    min_eq_right e, min_eq_right tol]

/-- The bindings of a tank fit. -/
def slotFits (k : TankSection) : Prop :=
  (k.owner = .nobody → k = unclaimedSection) ∧ tankFits k.set ∧ bindingFits .level k.level ∧ bindingFits .flow k.draw
    ∧ bindingFits .spill k.spill

/-- A slot that fits is read back. -/
theorem readTankSlot_of_tankSlot {t : Fin 8} {k : TankSection} (fits : slotFits k) (holds : holdsAt bs (tankOffset t) (tankSlot t k)) :
    readTankSlot bs t = some k := by
  obtain ⟨unclaimed, tank, levelFits, drawFits, spillFits⟩ := fits
  have length : ([byteOf (ownerCode k.owner)] ++ tankBytes (tankOperandsOf k.set) ++ shapeBytes (shapeOperandsOf k.set.shape)
      ++ bindingBytes .level (tankOffset t + 49) k.level ++ bindingBytes .flow (tankOffset t + 55) k.draw
      ++ bindingBytes .spill (tankOffset t + 61) k.spill).length = 67 := by
    simp only [List.length_append, List.length_cons, List.length_nil, length_tankBytes, length_shapeBytes, length_bindingBytes]
  have parts := holdsAt_padTo (by rw [length]; decide) holds
  simp only [holdsAt_append, holdsAt_cons, holdsAt_nil, and_true, List.length_cons, List.length_nil, Nat.zero_add,
    Nat.reduceAdd, List.length_append, length_tankBytes, length_shapeBytes, length_bindingBytes] at parts
  obtain ⟨⟨⟨⟨⟨ownerAt, tankAt⟩, shapeAt⟩, levelAt⟩, drawAt⟩, spillAt⟩ := parts
  by_cases nobody : k.owner = .nobody
  · have zero : byteAt bs (tankOffset t) = 0 := by
      rw [ownerAt, nobody]
      rfl
    rw [readTankSlot_of_zero zero, unclaimed nobody]
  · have owner : byteAt bs (tankOffset t) = ownerCode k.owner := by
      rw [ownerAt]
      exact toNat_byteOf (by cases k.owner <;> decide)
    have claimed : byteAt bs (tankOffset t) ≠ 0 := by
      rw [owner]
      cases is : k.owner <;> simp [ownerCode]
      exact nobody is
    have set_ := clampTank_of_tankBytes tank tankAt
    obtain ⟨-, -, -, -, -, -, -, -, -, -, -, -, -, -, -, least, most, points, ordered⟩ := tank
    obtain ⟨count, shape⟩ := shape_of_shapeBytes most points shapeAt
    rw [readTankSlot_eq_some_iff_of_claimed claimed]
    refine ⟨?_, ?_, by rw [count]; exact least, by rw [count]; exact most, fun q mem => (points q mem).1, ordered,
      bindingAt_of_bindingBytes (by decide) levelFits levelAt, bindingAt_of_bindingBytes (by decide) drawFits drawAt,
      bindingAt_of_bindingBytes (by decide) spillFits spillAt⟩
    · rw [owner]
      cases is : k.owner with
      | nobody => exact absurd is nobody
      | siteA => exact .inl ⟨rfl, rfl⟩
      | siteB => exact .inr ⟨rfl, rfl⟩
    · rw [clampTank_readTank, ← shape] at set_
      exact set_.symm

end Forming

end Sys2Proof.Machine
end

section
/-! SUPPORT. The image formed from settings that fit holds them (R184, R190, 11.5). -/

namespace Sys2Proof.Machine

section Image

variable {bs : List Byte} {i : Nat} {w : Settings}

/-- The parts of an image, each at its offset. -/
structure ImageParts (bs : List Byte) (w : Settings) : Prop where
  header : holdsAt bs 0 [0x4A#8, 0x3E#8, 1#8, 0#8, 4#8, 0#8]
  works : holdsAt bs 8 (worksNumberBytes w.works)
  legMeter : holdsAt bs 17 (bindingBytes .flow 17 w.legMeter)
  tanks : ∀ t, holdsAt bs (tankOffset t) (tankSlot t (w.tanks.get t))
  spill : holdsAt bs 672 (spillBytes (spillOperandsOf w.spill))
  gauges : holdsAt bs 682 (gaugeBytes (gaugeOperandsOf w.gauges))
  rain : ∀ g : Fin 4, holdsAt bs (711 + 5 * g.val) (gaugeBindingBytes (711 + 5 * g.val) (w.rain.get g))
  retired : holdsAt bs 768 (retiredBytes w.retired)
  crc : holdsAt bs 1022 (wordBytes (crc16 (bs.take 1022)))

theorem length_worksNumberBytes (v : WorksSettings) : (worksNumberBytes v).length = 9 := rfl

theorem length_spillBytes (v : SpillOperands) : (spillBytes v).length = 10 := rfl

theorem length_gaugeBytes (v : GaugeOperands) : (gaugeBytes v).length = 29 := by simp [gaugeBytes, thresholdBytes]

theorem length_retiredBytes (r : Retired) : (retiredBytes r).length = 18 := by simp [retiredBytes]

theorem length_slots : ((List.finRange 8).flatMap (fun t => tankSlot t (w.tanks.get t))).length = 640 := by
  simp [tankSlot, List.finRange]

theorem length_gaugeBindings :
    ((List.finRange 4).flatMap (fun g => gaugeBindingBytes (711 + 5 * g.val) (w.rain.get g))).length = 20 := by
  simp [length_gaugeBindingBytes, List.finRange]

theorem imageParts_formImage (w : Settings) : ImageParts (formImage w) w := by
  have body : (formImage w).take 1022 = imageBody w := by
    rw [formImage, List.take_append_of_le_length (by rw [length_imageBody]), List.take_of_length_le (by rw [length_imageBody])]
  have whole : holdsAt (formImage w) 0 (formImage w) := holdsAt_self
  have split := holdsAt_append.mp (show holdsAt (formImage w) 0 (imageBody w ++ wordBytes (crc16 (imageBody w))) from whole)
  obtain ⟨bodyAt, crc⟩ := split
  rw [length_imageBody, ← body] at crc
  unfold imageBody at bodyAt
  simp only [holdsAt_append, length_padTo, List.length_append, length_slots, Nat.zero_add, Nat.reduceAdd] at bodyAt
  obtain ⟨⟨⟨⟨header, works⟩, tanks⟩, record⟩, retired⟩ := bodyAt
  have worksParts := holdsAt_padTo (by rw [List.length_append, length_worksNumberBytes, length_bindingBytes]; decide) works
  have recordParts := holdsAt_padTo (by
    rw [List.length_append, List.length_append, length_spillBytes, length_gaugeBytes, length_gaugeBindings]
    decide) record
  simp only [holdsAt_append, length_worksNumberBytes, Nat.reduceAdd] at worksParts
  simp only [holdsAt_append, List.length_append, length_spillBytes, length_gaugeBytes, Nat.reduceAdd] at recordParts
  obtain ⟨numbers, legMeter⟩ := worksParts
  obtain ⟨⟨spill, gauges⟩, rain⟩ := recordParts
  exact {
    header := holdsAt_padTo (by decide) header
    works := numbers
    legMeter := legMeter
    tanks := fun t => holdsAt_flatMap (fun k => by simp [tankSlot]) tanks t
    spill := spill
    gauges := gauges
    rain := fun g => holdsAt_flatMap (fun k => length_gaugeBindingBytes _ _) rain g
    retired := holdsAt_padTo (by rw [length_retiredBytes]; decide) retired
    crc := crc }

theorem imageSound_of_parts (parts : ImageParts bs w) : imageSound bs := by
  have header := parts.header
  simp only [holdsAt_cons, holdsAt_nil, and_true, Nat.zero_add, Nat.reduceAdd] at header
  obtain ⟨first, second, version, -, high, low⟩ := header
  have crc := fieldAt_of_holdsAt parts.crc (j := 0) (n := 2) (by simp)
  refine ⟨?_, version, ?_, crc.trans (fieldAt_wordBytes _)⟩
  · simp only [fieldAt, Nat.zero_add, Nat.add_zero, first, second]
    rfl
  · simp only [fieldAt, Nat.add_zero, Nat.reduceAdd, high, low]
    rfl

/-! ### The numbers read back -/

theorem works_of_parts (parts : ImageParts bs w) (fits : settingsFit w) : clampWorks (worksSent (readWorks bs 8)) = w.works := by
  obtain ⟨leg, fallback, leaseLow, leaseHigh, confirmLow, confirmHigh, tol, -⟩ := fits
  have works := parts.works
  unfold worksNumberBytes at works
  simp only [holdsAt_append, List.length_append, length_beBytes, Nat.reduceAdd] at works
  obtain ⟨⟨⟨⟨legAt, fallbackAt⟩, leaseAt⟩, confirmAt⟩, tolAt⟩ := works
  have lease : byteAt bs 12 = w.works.tLease := by
    rw [← fieldAt_one]
    exact fieldAt_of_beBytes leaseAt (by omega)
  rw [clampWorks_readWorks]
  simp only [Nat.reduceAdd]
  rw [fieldAt_of_beBytes legAt (by omega), fieldAt_of_beBytes fallbackAt (by omega), lease, fieldAt_of_beBytes confirmAt (by omega),
    fieldAt_of_beBytes tolAt (by omega), min_eq_right leg, min_eq_right fallback, max_min_eq_self leaseLow leaseHigh,
    max_min_eq_self confirmLow confirmHigh, min_eq_right tol]

/-- The spill settings within their ranges. -/
def spillFits (v : SpillSettings) : Prop :=
  1 ≤ v.w1 ∧ v.w1 ≤ 48 ∧ 1 ≤ v.w2 ∧ v.w2 ≤ 48 ∧ v.tOn ≤ 600 ∧ v.tOff ≤ 3600 ∧ 500 ≤ v.p ∧ v.p ≤ 1000 ∧ v.dDry ≤ 250

theorem indexCode_lt (g : Option (Fin 4)) : indexCode g < 256 := by
  cases g with
  | none => decide
  | some g =>
    have lt := g.isLt
    simp only [indexCode]
    omega

theorem indexOrFF_indexCode (g : Option (Fin 4)) : indexOrFF 4 (byteOf (indexCode g)) = some g := by
  rw [indexOrFF_eq_some_iff (by decide), toNat_byteOf (indexCode_lt g)]
  cases g with
  | none => exact .inl ⟨rfl, rfl⟩
  | some g => exact .inr ⟨g, rfl, rfl⟩

theorem spill_of_bytes {v : SpillSettings} (fits : spillFits v) (holds : holdsAt bs 672 (spillBytes (spillOperandsOf v))) :
    clampSpill (spillSent (readSpill bs 672) v.dryGauge) = v ∧ indexOrFF 4 (readSpill bs 672).dryGauge = some v.dryGauge := by
  obtain ⟨w1Low, w1High, w2Low, w2High, on, off, pLow, pHigh, dry⟩ := fits
  unfold spillBytes at holds
  simp only [spillOperandsOf, holdsAt_append, holdsAt_cons, holdsAt_nil, and_true, List.length_cons, List.length_nil, Nat.zero_add,
    Nat.reduceAdd, List.length_append, length_wordBytes] at holds
  obtain ⟨⟨⟨⟨⟨w1At, w2At⟩, onAt⟩, offAt⟩, pAt⟩, dryAt, gaugeAt⟩ := holds
  rw [toNat_byteOf (by omega)] at w1At w2At dryAt
  have gauge : (readSpill bs 672).dryGauge = byteOf (indexCode v.dryGauge) := BitVec.eq_of_toNat_eq gaugeAt
  refine ⟨?_, by rw [gauge, indexOrFF_indexCode]⟩
  rw [clampSpill_readSpill]
  simp only [Nat.reduceAdd]
  rw [w1At, w2At, dryAt, fieldAt_of_wordOf onAt (by omega), fieldAt_of_wordOf offAt (by omega), fieldAt_of_wordOf pAt (by omega),
    max_min_eq_self w1Low w1High, max_min_eq_self w2Low w2High, max_min_eq_self pLow pHigh, min_eq_right on, min_eq_right off,
    min_eq_right dry]

theorem threshold_of_bytes {v : Threshold} (entry : v.entryI ≤ 10000 ∧ v.entryD ≤ 10000) (exit_ : v.exitI < v.entryI ∧ v.exitD < v.entryD)
    (holds : holdsAt bs i (thresholdBytes (thresholdOperandOf v))) : thresholdAt bs i = v := by
  obtain ⟨entryI, entryD⟩ := entry
  obtain ⟨exitI, exitD⟩ := exit_
  unfold thresholdBytes at holds
  simp only [thresholdOperandOf, holdsAt_append, Nat.reduceAdd, List.length_append, length_wordBytes] at holds
  obtain ⟨⟨⟨entryIAt, entryDAt⟩, exitIAt⟩, exitDAt⟩ := holds
  rw [thresholdAt, fieldAt_of_wordOf entryIAt (by omega), fieldAt_of_wordOf entryDAt (by omega), fieldAt_of_wordOf exitIAt (by omega),
    fieldAt_of_wordOf exitDAt (by omega), min_eq_right entryI, min_eq_right entryD, min_eq_right (by omega), min_eq_right (by omega)]

theorem length_thresholdBytes (v : ThresholdOperand) : (thresholdBytes v).length = 8 := rfl

/-- The gauge settings within their ranges. -/
def gaugesFit (v : GaugeSettings) : Prop :=
  (∀ g, 1 ≤ v.tips.get g ∧ v.tips.get g ≤ 10)
    ∧ (∀ x, x = v.watch ∨ x = v.warn ∨ x = v.storm → x.entryI ≤ 10000 ∧ x.entryD ≤ 10000)
    ∧ 5 ≤ v.tClear ∧ v.tClear ≤ 120 ∧ thresholdsFit v

theorem gauges_of_bytes {v : GaugeSettings} (fits : gaugesFit v) (holds : holdsAt bs 682 (gaugeBytes (gaugeOperandsOf v))) :
    gaugesAt bs 682 = v := by
  obtain ⟨tips, entries, low, high, exits, -⟩ := fits
  unfold gaugeBytes at holds
  simp only [gaugeOperandsOf, holdsAt_append, holdsAt_cons, holdsAt_nil, and_true, Nat.reduceAdd, List.length_append,
    length_thresholdBytes, Vector.length_toList] at holds
  obtain ⟨⟨⟨⟨tipsAt, watchAt⟩, warnAt⟩, stormAt⟩, clearAt⟩ := holds
  rw [toNat_byteOf (by omega)] at clearAt
  refine (eq_gaugesAt_iff.mpr ⟨fun g => ?_, ?_, ?_, ?_, ?_⟩).symm
  · obtain ⟨least, most⟩ := tips g
    have here := byteAt_of_holdsAt tipsAt (j := g.val) (by simp)
    have tip : byteAt (v.tips.map byteOf).toList g.val = v.tips.get g := by
      have value : byteAt (v.tips.map byteOf).toList g.val = (byteOf (v.tips.get g)).toNat := by
        simp [byteAt, Vector.get_eq_getElem]
      rw [value, toNat_byteOf (by omega)]
    rw [here, tip, max_min_eq_self least most]
  · exact (threshold_of_bytes (entries _ (.inl rfl)) (exits _ (.inl rfl)) watchAt).symm
  · exact (threshold_of_bytes (entries _ (.inr (.inl rfl))) (exits _ (.inr (.inl rfl))) warnAt).symm
  · exact (threshold_of_bytes (entries _ (.inr (.inr rfl))) (exits _ (.inr (.inr rfl))) stormAt).symm
  · rw [clearAt, max_min_eq_self low high]

theorem retired_of_bytes {r : Retired} (few : r.blocks.length ≤ 16) (nodup : r.blocks.Nodup)
    (holds : holdsAt bs i (retiredBytes r)) : retiredAt bs i r := by
  unfold retiredBytes at holds
  simp only [holdsAt_append, holdsAt_cons, holdsAt_nil, and_true, Nat.reduceAdd, List.length_cons, List.length_nil, Nat.zero_add] at holds
  obtain ⟨⟨count, worn⟩, blocks⟩ := holds
  rw [toNat_byteOf (by omega)] at count
  rw [toNat_byteOf (bit_lt _)] at worn
  refine ⟨count, few, nodup, worn, fun j b at_ => ?_⟩
  obtain ⟨lt, here⟩ := List.getElem?_eq_some_iff.mp at_
  have stands := byteAt_of_holdsAt blocks (j := j) (by simp; omega)
  have value : byteAt ((r.blocks.map (fun b => byteOf b.val) ++ List.replicate 16 255#8).take 16) j = b.val := by
    have blockLt := b.isLt
    rw [byteAt, List.getD_eq_getElem?_getD, List.getElem?_take_of_lt (by omega), List.getElem?_append_left (by simpa using lt),
      List.getElem?_map, at_]
    exact toNat_byteOf (by omega)
  rw [stands, value]

/-! ### The image of settings that fit (R184, R190) -/

theorem sectionsRead_of_parts (parts : ImageParts bs w) (fits : settingsFit w) : sectionsRead bs w w.spill.dryGauge
    ∧ w.spill = clampSpill (spillSent (readSpill bs 672) w.spill.dryGauge) ∧ w.gauges = gaugesAt bs 682
    ∧ thresholdsFit w.gauges := by
  obtain ⟨-, -, -, -, -, -, -, bindings, tanks, w1Low, w1High, w2Low, w2High, on, off, pLow, pHigh, dry, tips, entries, low, high,
    exits, few, nodup⟩ := fits
  obtain ⟨spill, gauge⟩ := spill_of_bytes ⟨w1Low, w1High, w2Low, w2High, on, off, pLow, pHigh, dry⟩ parts.spill
  have fit (b : Binder) : bindingFits (binderKind b) (settingsBinding w b) := fun q is => bindings b q is
  refine ⟨⟨?_, ?_, gauge, ?_, ?_⟩, spill.symm, (gauges_of_bytes ⟨tips, entries, low, high, exits⟩ parts.gauges).symm, exits⟩
  · exact (readRoleBinding_eq_some_iff (by decide)).mpr (bindingAt_of_bindingBytes (by decide) (fit .legMeter) parts.legMeter)
  · refine allOf_eq_some_iff.mpr fun t => ?_
    obtain ⟨unclaimed, tank⟩ := tanks t
    exact readTankSlot_of_tankSlot ⟨unclaimed, tank, fit (.tank t .level), fit (.tank t .draw), fit (.tank t .spill)⟩ (parts.tanks t)
  · exact allOf_eq_some_iff.mpr fun g =>
      readGaugeBinding_eq_some_iff.mpr (bindingAt_of_gaugeBindingBytes (fit (.gauge g)) (parts.rain g))
  · exact readRetired_eq_some_iff.mpr (retired_of_bytes few nodup parts.retired)

theorem parseImage_formImage (fits : settingsFit w) : parseImage (formImage w) = some w := by
  have parts := imageParts_formImage w
  obtain ⟨sections, spill, gauges, exits⟩ := sectionsRead_of_parts parts fits
  exact parseImage_eq_some_iff.mpr ⟨imageSound_of_parts parts,
    readSections_eq_some_iff.mpr ⟨_, sections, (works_of_parts parts fits).symm, spill, gauges, exits⟩⟩

end Image

end Sys2Proof.Machine
end

section
/-! SUPPORT. The blocks take the settings of an image, and the store stage begins (R7, R20, R41, R162, R190). -/

namespace Sys2Proof.Machine

/-! ### The claims of the binders on channels (R7) -/

/-- The binders in the order in which R7 names them. -/
def binderOrder : List Binder :=
  [.legMeter] ++ (List.finRange 8).flatMap (fun t => [.tank t .level, .tank t .draw, .tank t .spill])
    ++ (List.finRange 4).map (fun g => .gauge g)

theorem binderOrder_pairwise : binderOrder.Pairwise (fun a b => binderRank a < binderRank b) := by decide +kernel

theorem mem_binderOrder {b : Binder} (some_ : b ≠ .none) : b ∈ binderOrder := by
  cases b with
  | none => exact absurd rfl some_
  | legMeter => decide
  | gauge g =>
    refine List.mem_append_right _ (List.mem_map.mpr ⟨g, List.mem_finRange g, rfl⟩)
  | tank t r =>
    refine List.mem_append_left _ (List.mem_append_right _ (List.mem_flatMap.mpr ⟨t, List.mem_finRange t, ?_⟩))
    cases r <;> simp

/-- The claim of a binder. -/
def claimOf (w : Settings) (b : Binder) : Option (Binder × Binding) := (settingsBinding w b).map (fun q => (b, q))

theorem claims_eq (w : Settings) : claims w = binderOrder.filterMap (claimOf w) := by
  have one (b : Binder) (rest : List Binder) : (b :: rest).filterMap (claimOf w) = (claimOf w b).toList ++ rest.filterMap (claimOf w) := by
    rw [List.filterMap_cons]
    cases claimOf w b <;> rfl
  have gauges : ((List.finRange 4).map (fun g => Binder.gauge g)).filterMap (claimOf w) =
      (List.finRange 4).flatMap (fun g => ((w.rain.get g).map (fun b => (Binder.gauge g, b))).toList) := by
    rw [List.filterMap_map]
    exact List.filterMap_eq_flatMap_toList _ _
  have tanks : ((List.finRange 8).flatMap (fun t => [Binder.tank t .level, .tank t .draw, .tank t .spill])).filterMap (claimOf w) =
      (List.finRange 8).flatMap (fun t => ((w.tanks.get t).level.map (fun b => (Binder.tank t .level, b))).toList
        ++ ((w.tanks.get t).draw.map (fun b => (Binder.tank t .draw, b))).toList
        ++ ((w.tanks.get t).spill.map (fun b => (Binder.tank t .spill, b))).toList) := by
    rw [List.filterMap_flatMap]
    refine List.flatMap_congr fun t _ => ?_
    rw [one, one, one, List.filterMap_nil, List.append_nil, ← List.append_assoc]
    rfl
  rw [binderOrder, List.filterMap_append, List.filterMap_append, one, List.filterMap_nil, List.append_nil, tanks, gauges]
  rfl

theorem find?_claims {w : Settings} {l : List Binder} {c : Fin 16} {b : Binder} {q : Binding}
    (sorted : l.Pairwise (fun a b => binderRank a < binderRank b)) (mem : b ∈ l) (claimed : settingsBinding w b = some q)
    (names : q.channel = c)
    (first : ∀ x ∈ l, ∀ y, settingsBinding w x = some y → y.channel = c → binderRank b ≤ binderRank x) :
    (l.filterMap (claimOf w)).find? (fun q => q.2.channel = c) = some (b, q) := by
  induction l with
  | nil => exact absurd mem List.not_mem_nil
  | cons x l ih =>
    obtain ⟨before, rest⟩ := List.pairwise_cons.mp sorted
    have later (inside : b ∈ l) := ih rest inside (fun z inL => first z (List.mem_cons_of_mem x inL))
    cases held : settingsBinding w x with
    | none =>
      have none_ : claimOf w x = none := by rw [claimOf, held, Option.map_none]
      have inside : b ∈ l := by
        rcases List.mem_cons.mp mem with rfl | inside
        · rw [held] at claimed
          exact nomatch claimed
        · exact inside
      rw [List.filterMap_cons_none none_]
      exact later inside
    | some y =>
      have some_ : claimOf w x = some (x, y) := by rw [claimOf, held, Option.map_some]
      rw [List.filterMap_cons_some some_]
      by_cases here : y.channel = c
      · have least := first x List.mem_cons_self y held here
        rcases List.mem_cons.mp mem with rfl | inside
        · rw [held] at claimed
          obtain rfl := Option.some.inj claimed
          exact List.find?_cons_of_pos (by simpa using here)
        · have less := before b inside
          omega
      · rw [List.find?_cons_of_neg (by simpa using here)]
        refine later ?_
        rcases List.mem_cons.mp mem with rfl | inside
        · rw [held] at claimed
          obtain rfl := Option.some.inj claimed
          exact absurd names here
        · exact inside

theorem loadedChannel_of_free {w : Settings} {c : Fin 16} (free : ∀ b q, settingsBinding w b = some q → q.channel ≠ c) :
    loadedChannel w c = unboundChannel := by
  have none_ : (claims w).find? (fun q => q.2.channel = c) = none := by
    rw [claims_eq, List.find?_eq_none]
    intro x mem
    obtain ⟨b, -, is⟩ := List.mem_filterMap.mp mem
    obtain ⟨q, held, rfl⟩ := Option.map_eq_some_iff.mp is
    simpa using free b q held
  simp only [loadedChannel, none_]

theorem loadedChannel_of_first {w : Settings} {c : Fin 16} {b : Binder} {q : Binding} (claimed : settingsBinding w b = some q)
    (names : q.channel = c) (first : ∀ x y, settingsBinding w x = some y → y.channel = c → binderRank b ≤ binderRank x) :
    loadedChannel w c = ({ unboundChannel with kind := binderKind b, binder := b } : Channel).withParams
      (takeParams (binderKind b) defaultParams q.params) := by
  have some_ : b ≠ .none := by
    rintro rfl
    exact nomatch claimed
  have found := find?_claims (w := w) binderOrder_pairwise (mem_binderOrder some_) claimed names (fun x _ => first x)
  rw [← claims_eq] at found
  simp only [loadedChannel, found]

namespace State

variable {s : State} {w : Settings}

/-! ### The settings loaded (R190, R20, R41) -/

/-- The gauges as the settings leave them. -/
def loadedGauges (w : Settings) : Vector Gauge 4 := Vector.ofFn (fun g : Fin 4 => { idleGauge with tipDepth := w.gauges.tips.get g })

/-- The tanks as the settings leave them. -/
def loadedTanks (w : Settings) : Vector Tank 8 :=
  w.tanks.map (fun v => { unclaimedTank with owner := v.owner, set := v.set, weight := v.set.cls })

/-- A state whose blocks hold what the settings say holds the settings. -/
theorem settingsIn_of_fields {v : State} (works : v.works = w.works) (spill : v.spill.set = w.spill) (retired : v.retired = w.retired)
    (gauges : v.rain.gauges = loadedGauges w) (watch : v.rain.watch = w.gauges.watch) (warn : v.rain.warn = w.gauges.warn)
    (storm : v.rain.storm = w.gauges.storm) (tClear : v.rain.tClear = w.gauges.tClear) (tanks : v.tanks = loadedTanks w)
    (channels : v.channels = Vector.ofFn (loadedChannel w)) : settingsIn w v := by
  have tips : (loadedGauges w).map (fun g => g.tipDepth) = w.gauges.tips := by
    refine Vector.ext fun i lt => ?_
    simp [loadedGauges, Vector.get_eq_getElem]
  have channel (c : Fin 16) : v.channel c = loadedChannel w c := by simp [State.channel, channels, Vector.get_eq_getElem]
  refine ⟨works, spill, retired, ?_, fun k => ?_, fun g => ?_, fun c => ⟨fun free => ?_, fun b q claimed names first => ?_⟩⟩
  · simp only [gaugeSettings, gauges, watch, warn, storm, tClear, tips]
  · simp [tank, tanks, loadedTanks, Vector.get_eq_getElem]
  · simp [gauge, gauges, loadedGauges, Vector.get_eq_getElem]
  · rw [channel, loadedChannel_of_free free]
  · rw [channel, loadedChannel_of_first claimed names first]

/-! ### The store stage begins (R162) -/

/-- The statuses with the blocks of the retired list RETIRED. -/
def retiredStatuses (s : State) : Vector BlockStatus 64 :=
  s.retired.blocks.foldl (fun v b => put v b .retired) s.store.status

theorem markRetired_eq : s.markRetired = s.modStore (fun v => { v with status := s.retiredStatuses }) := by
  have folded (l : List (Fin 64)) (u : State) : l.foldl (fun s b => s.setStatus b .retired) u =
      u.modStore (fun v => { v with status := l.foldl (fun v b => put v b .retired) u.store.status }) := by
    induction l generalizing u with
    | nil => rfl
    | cons b l ih =>
      rw [List.foldl_cons, List.foldl_cons, ih]
      rfl
  exact folded _ _

theorem get_retiredStatuses (b : Fin 64) :
    s.retiredStatuses.get b = if b ∈ s.retired.blocks then .retired else s.blockStatus b := by
  have folded (l : List (Fin 64)) (v : Vector BlockStatus 64) :
      (l.foldl (fun v b => put v b .retired) v).get b = if b ∈ l then .retired else v.get b := by
    induction l generalizing v with
    | nil => rfl
    | cons x l ih =>
      rw [List.foldl_cons, ih, get_put]
      by_cases later : b ∈ l
      · rw [if_pos later, if_pos (List.mem_cons_of_mem x later)]
      · rw [if_neg later]
        by_cases here : b = x
        · rw [if_pos here, if_pos (List.mem_cons.mpr (.inl here))]
        · rw [if_neg here, if_neg (fun mem => (List.mem_cons.mp mem).elim here later)]
  exact folded _ _

/-- The store stage, entered with the store SCANNING or FORMATTING. -/
theorem beginStore_eq : s.beginStore = { s with
    stage := .store
    store := { s.store with status := s.retiredStatuses, state := if s.storeBlank then .formatting else .scanning } } := by
  unfold beginStore
  dsimp only
  rw [markRetired_eq]
  rfl

theorem storeBlank_eq_false_iff : s.storeBlank = false ↔
    ∃ (b : Fin 64) (p : Fin 16), b ∉ s.retired.blocks ∧ sparePasses (s.arrayPage ⟨b, p⟩) = true := by
  rw [← Bool.not_eq_true]
  unfold storeBlank
  simp only [List.all_eq_true, List.mem_finRange, true_imp_iff, Bool.or_eq_true, List.contains_iff_mem, Bool.not_eq_true',
    not_forall, not_or, Bool.not_eq_false]
  refine exists_congr fun b => ?_
  constructor
  · rintro ⟨free, x, mem, passes⟩
    obtain ⟨p, lt, rfl⟩ := Vector.mem_iff_getElem.mp (Vector.mem_toList_iff.mp mem)
    exact ⟨⟨p, lt⟩, free, by simpa [arrayPage, Vector.get_eq_getElem] using passes⟩
  · rintro ⟨p, free, passes⟩
    refine ⟨free, s.arrayPage ⟨b, p⟩, ?_, passes⟩
    simp [arrayPage, Vector.get_eq_getElem]

end State

end Sys2Proof.Machine
end

section
/-! SUPPORT. The obligation of IMAGE_LOAD (R7, R25, R47, R162, R184, R190). -/

namespace Sys2Proof.Machine

namespace State

variable {s : State} {w : Settings}

/-- The settings loaded, and what the save unit holds of them. -/
def imageTaken (s : State) (w : Settings) (source : Source) (changed : Bool) : State :=
  (s.loadSettings w).modSave (fun q => { q with changed := changed, source := source })

theorem imageRead_some : s.imageRead (some w) = s.imageTaken w .image false := rfl

theorem imageRead_none : s.imageRead none =
    (s.imageTaken defaultSettings .defaults true).notifyAll .settings [.works, .siteA, .siteB, .record] := rfl

/-- The blocks with settings loaded, before the store stage. -/
def settled (s : State) (w : Settings) (source : Source) (changed : Bool) (ports : Vector PortState 4) : State :=
  { s with
    works := w.works
    channels := Vector.ofFn (loadedChannel w)
    tanks := loadedTanks w
    rain := { s.rain with
      gauges := loadedGauges w, watch := w.gauges.watch, warn := w.gauges.warn, storm := w.gauges.storm, tClear := w.gauges.tClear }
    spill := { s.spill with set := w.spill }
    retired := w.retired
    save := { s.save with changed := changed, source := source }
    ports := ports }

theorem settled_eq {source : Source} {changed : Bool} {ports : Vector PortState 4} :
    s.settled w source changed ports = { s.imageTaken w source changed with ports := ports } := by
  dsimp only [settled, imageTaken, modSave, loadSettings, loadedTanks, loadedGauges]

/-- What IMAGE_LOAD makes of a state, the ports' notices aside. -/
def loaded (s : State) (w : Settings) (source : Source) (changed : Bool) (ports : Vector PortState 4) : State :=
  (s.settled w source changed ports).beginStore

/-- LOADING ends with settings loaded, and only the default ones told of. -/
theorem exists_loaded (s : State) (read : Option Settings) : ∃ w source changed ports,
    (s.imageRead read).beginStore = s.loaded w source changed ports
      ∧ (ports.map (fun q : PortState => { q with notices := 0#16 })) = s.transfers
      ∧ match read with
        | some v => w = v ∧ source = .image ∧ changed = false ∧ ports = s.ports
        | none => w = defaultSettings ∧ source = .defaults ∧ changed = true
            ∧ ∀ p, (ports.get (portIndex p)).notices = (s.port p).notices ||| noticeWord .settings := by
  cases read with
  | some v =>
    refine ⟨v, .image, false, s.ports, ?_, rfl, rfl, rfl, rfl, rfl⟩
    rw [loaded, settled_eq]
    rfl
  | none =>
    refine ⟨defaultSettings, .defaults, true, (s.imageRead none).ports, ?_, ?_, rfl, rfl, rfl, fun p => ?_⟩
    · rw [loaded, settled_eq]
      rfl
    · have kept : ((s.imageTaken defaultSettings .defaults true).notifyAll .settings [.works, .siteA, .siteB, .record]).transfers =
          (s.imageTaken defaultSettings .defaults true).transfers := by simp
      exact kept
    · have told := port_notifyAll (s.imageTaken defaultSettings .defaults true) .settings [.works, .siteA, .siteB, .record] p
      have all : p ∈ [Port.works, .siteA, .siteB, .record] := by cases p <;> decide
      rw [if_pos all] at told
      exact congrArg PortState.notices told

/-- The store stage changes the stage and the store alone. -/
theorem beginStore_keeps (s : State) : s.beginStore.outer = ({ s with stage := .store } : State).outer
    ∧ s.beginStore.media = s.media ∧ s.beginStore.spill = s.spill ∧ s.beginStore.rain = s.rain
    ∧ s.beginStore.works = s.works ∧ s.beginStore.tanks = s.tanks ∧ s.beginStore.channels = s.channels
    ∧ s.beginStore.ports = s.ports ∧ s.beginStore.save = s.save := by
  rw [beginStore_eq]
  exact ⟨rfl, rfl, rfl, rfl, rfl, rfl, rfl, rfl, rfl⟩

theorem onlyChanges_beginStore : onlyChanges [.outer, .store] s s.beginStore := by
  rw [beginStore_eq]
  intro area other
  cases area <;> first | rfl | exact absurd (by simp) other

theorem store_beginStore (s : State) : s.beginStore.store = { s.store with
    status := s.beginStore.store.status
    state := if ∃ (b : Fin 64) (p : Fin 16), b ∉ s.retired.blocks ∧ sparePasses (s.arrayPage ⟨b, p⟩) = true then .scanning
      else .formatting } := by
  have blank := storeBlank_eq_false_iff (s := s)
  rw [beginStore_eq]
  dsimp only
  cases pages : s.storeBlank with
  | false => rw [if_pos (blank.mp pages), if_neg Bool.false_ne_true]
  | true => rw [if_neg (fun found => absurd (blank.mpr found) (by rw [pages]; decide)), if_pos rfl]

theorem blockStatus_beginStore (b : Fin 64) :
    s.beginStore.blockStatus b = if b ∈ s.retired.blocks then .retired else s.blockStatus b := by
  rw [beginStore_eq]
  exact get_retiredStatuses b

theorem onlyChanges_settled {source : Source} {changed : Bool} {ports : Vector PortState 4}
    (transfers : ports.map (fun q : PortState => { q with notices := 0#16 }) = s.transfers) :
    onlyChanges [.notices, .channels, .tanks, .rain, .works, .spill, .save, .media] s (s.settled w source changed ports) := by
  intro area other
  cases area with
  | transfers => exact transfers
  | notices | channels | tanks | rain | works | spill | save | media => exact absurd (by simp) other
  | _ => rfl

theorem settingsIn_settled {source : Source} {changed : Bool} {ports : Vector PortState 4} :
    settingsIn w (s.settled w source changed ports) :=
  settingsIn_of_fields rfl rfl rfl rfl rfl rfl rfl rfl rfl rfl

/-- The settings that every block holds are read from those blocks alone. -/
theorem settingsIn_congr {u v : State} (works : v.works = u.works) (spill : v.spill = u.spill) (retired : v.retired = u.retired)
    (rain : v.rain = u.rain) (tanks : v.tanks = u.tanks) (channels : v.channels = u.channels) (holds : settingsIn w u) :
    settingsIn w v := by
  have gaugeSettings_ : v.gaugeSettings = u.gaugeSettings := by simp only [gaugeSettings, rain]
  have gauge (g : Fin 4) : v.gauge g = u.gauge g := by simp only [State.gauge, rain]
  simp only [settingsIn, works, spill, retired, gaugeSettings_, gauge, tank_congr tanks, channel_congr channels]
  exact holds

end State

/-- The default settings are those of the part after start-up. -/
theorem defaultSettings_bare : defaultSettings.works = defaultWorks ∧ defaultSettings.spill = defaultSpill
    ∧ defaultSettings.retired = { blocks := [], worn := false } ∧ (∀ t : Fin 8, defaultSettings.tanks.get t = unclaimedSection)
    ∧ (∀ b, settingsBinding defaultSettings b = none) ∧ (∀ g : Fin 4, defaultSettings.gauges.tips.get g = 2)
    ∧ defaultSettings.gauges = {
        tips := Vector.replicate 4 2, watch := { entryI := 40, entryD := 50, exitI := 20, exitD := 30 },
        warn := { entryI := 100, entryD := 150, exitI := 60, exitD := 100 },
        storm := { entryI := 250, entryD := 300, exitI := 150, exitD := 200 }, tClear := 30 } := by
  have tanks : ∀ t : Fin 8, defaultSettings.tanks.get t = unclaimedSection := by decide
  have rain : ∀ g : Fin 4, defaultSettings.rain.get g = none := by decide
  refine ⟨rfl, rfl, rfl, tanks, fun b => ?_, by decide +kernel, by decide +kernel⟩
  cases b with
  | none => rfl
  | legMeter => decide
  | gauge g => exact rain g
  | tank t r =>
    cases r <;> simp [settingsBinding, tanks, unclaimedSection]

theorem not_claimed_defaultSettings (c : Fin 16) (b : Binder) (q : Binding) (claimed : settingsBinding defaultSettings b = some q) :
    q.channel ≠ c := by
  obtain ⟨-, -, -, -, bindings, -⟩ := defaultSettings_bare
  rw [bindings b] at claimed
  exact nomatch claimed

open State

/-- Settles O9: an image is judged by what its bytes hold, and the blocks take its settings or the defaults. -/
theorem imageLoadSetsTheSettings : Obligations.ImageLoadSetsTheSettings := by
  refine ⟨fun bs w => parseImage_eq_some_iff_imageHolds, fun bs => parseImage_of_not_sound, fun w fits => ?_, ?_⟩
  · have parsed := parseImage_formImage fits
    exact ⟨length_formImage w, parseImage_eq_some_iff_imageHolds.mp parsed, parsed⟩
  · intro acknowledged s loading
    generalize read : (if acknowledged then parseImage (Memory.readAll s.eeprom 0 1024) else none) = image
    obtain ⟨w, source, changed, ports, taken, transfers, which⟩ := exists_loaded s image
    have frame := onlyChanges_trans (onlyChanges_mono (by decide) (onlyChanges_settled (s := s) (w := w) (source := source)
      (changed := changed) transfers)) (onlyChanges_mono (more := [.outer, .notices, .channels, .tanks, .rain, .works, .spill,
        .store, .save, .media]) (by decide) (onlyChanges_beginStore (s := s.settled w source changed ports)))
    obtain ⟨outer, media, spill, rain, works, tanks, channels, portsKept, save⟩ :=
      beginStore_keeps (s.settled w source changed ports)
    have store := store_beginStore (s.settled w source changed ports)
    have status := blockStatus_beginStore (s := s.settled w source changed ports)
    have ran : exec (.imageLoad acknowledged) s = .next (s.loaded w source changed ports) := by
      have loads : exec (.imageLoad acknowledged) s = .next (if s.stage = .loading then
          (s.imageRead (if acknowledged then parseImage (Memory.readAll s.eeprom 0 1024) else none)).beginStore else s) := rfl
      rw [loads, if_pos loading, read, taken]
    have array : (s.settled w source changed ports).beginStore.array = s.array := (congrArg Prod.fst media :)
    have retired : (s.settled w source changed ports).beginStore.retired = w.retired :=
      (congrArg (fun m => m.2.1) media :)
    have free : (s.settled w source changed ports).beginStore.freeIndex = s.freeIndex := (congrArg (fun m => m.2.2) media :)
    have rainSet : (s.settled w source changed ports).rain = { s.rain with
        gauges := (s.settled w source changed ports).rain.gauges, watch := w.gauges.watch, warn := w.gauges.warn,
        storm := w.gauges.storm, tClear := w.gauges.tClear } := rfl
    have spillSet : (s.settled w source changed ports).spill = { s.spill with set := w.spill } := rfl
    have inHere := settingsIn_settled (s := s) (w := w) (source := source) (changed := changed) (ports := ports)
    have before : ({ s.settled w source changed ports with stage := .store } : State).outer = ({ s with stage := .store } : State).outer :=
      rfl
    refine ⟨_, ran, outer.trans before, array, free, ?_, ?_, frame, ?_, ?_, ?_⟩
    · rw [loaded, spill, spillSet]
    · rw [loaded, rain, rainSet]
    · rw [loaded, retired]
      exact store
    · intro b
      rw [loaded, retired]
      exact status b
    · cases image with
      | some v =>
        obtain ⟨rfl, rfl, rfl, rfl⟩ := which
        refine ⟨settingsIn_congr works spill (congrArg (fun m => m.2.1) media :) rain tanks channels inHere, save, ?_⟩
        exact congrArg (fun ports : Vector PortState 4 => ports.map (fun q => q.notices)) portsKept
      | none =>
        obtain ⟨rfl, rfl, rfl, told⟩ := which
        obtain ⟨worksBare, spillBare, retiredBare, tanksBare, -, tips, gauges⟩ := defaultSettings_bare
        obtain ⟨-, -, -, gaugesIn, tanksIn, gaugeIn, channelsIn⟩ :=
          settingsIn_congr works spill (congrArg (fun m => m.2.1) media :) rain tanks channels inHere
        refine ⟨save, works.trans worksBare, ?_, retired.trans retiredBare, fun k => ?_, fun c => ?_, fun g => ?_, gaugesIn.trans gauges, ?_⟩
        · rw [loaded, spill, spillSet]
          exact spillBare
        · rw [loaded, tanksIn, tanksBare]
          rfl
        · obtain ⟨unbound, -⟩ := channelsIn c
          exact unbound (not_claimed_defaultSettings c)
        · rw [loaded, gaugeIn, tips]
          rfl
        · intro p
          rw [loaded, port_congr portsKept]
          exact told p

end Sys2Proof.Machine
end

section
/-! SUPPORT. What the hand-over of records, and what does no more to the record store than that, leave of it (R142 to R144). -/

namespace Sys2Proof.Machine

namespace State

/-- What the store stage settles of the ring: the statuses, the page table, the write point and the archive mark. -/
def layout (s : State) : Vector BlockStatus 64 × Vector (Vector (Option PageEntry) 16) 64 × Option (Fin 64) × Nat × Nat :=
  (s.store.status, s.store.table, s.store.current, s.store.writePage, s.store.archiveMark)

theorem layout_of_core {s t : State} (same : t.core = s.core) : t.layout = s.layout :=
  (congrArg (fun v : Store => (v.status, v.table, v.current, v.writePage, v.archiveMark)) same :)

theorem layout_of_ring {s t : State} (same : t.ring = s.ring) : t.layout = s.layout := layout_of_core (core_of_ring same)

end State

open State in
/-- Records alone may have been handed over to the store: what it held it holds, its state is as it was or WORN, and its
ring, the array and the retired list stand. -/
structure StoreStands (s t : State) : Prop where
  held : s.heldRecords <+: t.heldRecords
  state : t.store.state = s.store.state ∨ t.store.state = .worn
  next : s.store.nextSeq ≤ t.store.nextSeq
  layout : t.layout = s.layout
  array : t.array = s.array
  retired : t.retired = s.retired

namespace StoreStands

variable {s t u : State}

theorem of_store (store : t.store = s.store) (array : t.array = s.array) (retired : t.retired = s.retired) : StoreStands s t where
  held := by rw [State.heldRecords_congr store]
  state := .inl (by rw [store])
  next := by rw [store]
  layout := by simp only [State.layout, store]
  array := array
  retired := retired

theorem of_media (store : t.store = s.store) (media : t.media = s.media) : StoreStands s t :=
  of_store store (congrArg Prod.fst media :) (congrArg (fun v => v.2.1) media :)

theorem refl (s : State) : StoreStands s s := of_store rfl rfl rfl

theorem trans (first : StoreStands s t) (second : StoreStands t u) : StoreStands s u where
  held := first.held.trans second.held
  state := by
    obtain same | worn := second.state
    · rw [same]
      exact first.state
    · exact .inr worn
  next := first.next.trans second.next
  layout := second.layout.trans first.layout
  array := second.array.trans first.array
  retired := second.retired.trans first.retired

theorem foldl {α : Type} (f : State → α → State) (step : ∀ u x, StoreStands u (f u x)) (l : List α) (s : State) :
    StoreStands s (l.foldl f s) := by
  induction l generalizing s with
  | nil => exact refl s
  | cons x l ih => exact (step s x).trans (ih _)

/-- A store that was WORN is WORN. -/
theorem worn (stands : StoreStands s t) (worn : s.store.state = .worn) : t.store.state = .worn := by
  obtain same | now := stands.state
  · rw [same, worn]
  · exact now

theorem blockStatus (stands : StoreStands s t) (b : Fin 64) : t.blockStatus b = s.blockStatus b :=
  congrArg (·.get b) (congrArg Prod.fst stands.layout)

theorem goodBlocks (stands : StoreStands s t) : goodBlocks t = goodBlocks s := by
  simp only [Sys2Proof.Machine.goodBlocks, stands.blockStatus]

theorem table (stands : StoreStands s t) : t.store.table = s.store.table := congrArg (fun v => v.2.1) stands.layout

theorem current (stands : StoreStands s t) : t.store.current = s.store.current := congrArg (fun v => v.2.2.1) stands.layout

theorem writePage (stands : StoreStands s t) : t.store.writePage = s.store.writePage := congrArg (fun v => v.2.2.2.1) stands.layout

theorem archiveMark (stands : StoreStands s t) : t.store.archiveMark = s.store.archiveMark :=
  congrArg (fun v => v.2.2.2.2) stands.layout

end StoreStands

namespace State

variable (s : State)

/-! ### The hand-over of a record (R142 to R144) -/

theorem heldRecords_fillAssembly (n : Nat) : (fillAssembly n s).heldRecords = s.heldRecords := by
  obtain ⟨moves, -, -, program, -⟩ := s.fillAssembly_moves n
  simp only [heldRecords, List.append_assoc, moves, program]

theorem heldRecords_handOver (kind subject : Nat) (body : Nat → List Byte) :
    s.heldRecords <+: (s.handOver kind subject body).2.heldRecords := by
  by_cases left : s.store.nextSeq < 4294967295
  · obtain ⟨-, -, held, -⟩ := s.handOver_holds kind subject body left
    rw [held]
    exact ⟨_, rfl⟩
  · rw [s.handOver_of_no_number (Nat.not_lt.mp left)]
    exact ⟨[], List.append_nil _⟩

theorem state_handOver_or (kind subject : Nat) (body : Nat → List Byte) :
    (s.handOver kind subject body).2.store.state = s.store.state ∨ (s.handOver kind subject body).2.store.state = .worn := by
  by_cases left : s.store.nextSeq < 4294967295
  · exact .inl (state_handOver left)
  · rw [s.handOver_of_no_number (Nat.not_lt.mp left)]
    exact .inr rfl

theorem nextSeq_handOver_le (kind subject : Nat) (body : Nat → List Byte) :
    s.store.nextSeq ≤ (s.handOver kind subject body).2.store.nextSeq := by
  by_cases left : s.store.nextSeq < 4294967295
  · rw [s.handOver_nextSeq left]
    exact Nat.le_succ _
  · rw [s.handOver_of_no_number (Nat.not_lt.mp left)]
    exact Nat.le_refl _

theorem stands_handOver (kind subject : Nat) (body : Nat → List Byte) : StoreStands s (s.handOver kind subject body).2 where
  held := s.heldRecords_handOver kind subject body
  state := s.state_handOver_or kind subject body
  next := s.nextSeq_handOver_le kind subject body
  layout := layout_of_ring (s.ring_handOver kind subject body)
  array := by
    have media : (s.handOver kind subject body).2.media = s.media := by simp
    exact (congrArg Prod.fst media :)
  retired := by
    have media : (s.handOver kind subject body).2.media = s.media := by simp
    exact (congrArg (fun v => v.2.1) media :)

theorem stands_writeRecord (kind subject : Nat) (body : List Byte) : StoreStands s (s.writeRecord kind subject body) :=
  s.stands_handOver kind subject _

theorem stands_startRecord (scanned : Bool) (bad closes : Nat) : StoreStands s (s.startRecord scanned bad closes) :=
  s.stands_writeRecord _ _ _

theorem stands_becomeWorn : StoreStands s s.becomeWorn := by
  unfold becomeWorn
  split
  · exact .refl s
  · exact ⟨⟨[], List.append_nil _⟩, .inr rfl, Nat.le_refl _, rfl, rfl, rfl⟩

theorem stands_settleStore : StoreStands s s.settleStore := by
  unfold settleStore
  split
  · exact s.stands_becomeWorn
  · exact .refl s

theorem stands_setCursor (n : Nat) : StoreStands s (s.setCursor n) := ⟨⟨[], List.append_nil _⟩, .inl rfl, Nat.le_refl _, rfl, rfl, rfl⟩

theorem stands_reclaimTotals (o : Fin 8) : StoreStands s (s.reclaimTotals o) := by
  unfold reclaimTotals
  exact s.stands_handOver _ _ _

theorem stands_askTotals (os : List (Fin 8)) : StoreStands s (s.askTotals os) := by
  unfold askTotals
  exact .foldl _ stands_reclaimTotals os s

theorem stands_prepare (b : Fin 64) : StoreStands s (s.prepare b) := by
  have marked : StoreStands s (s.modStore (fun v => { v with prep := some (s.pendingOutfalls b) })) :=
    ⟨⟨[], List.append_nil _⟩, .inl rfl, Nat.le_refl _, rfl, rfl, rfl⟩
  exact marked.trans (stands_askTotals _ _)

theorem stands_reclaimCheck : StoreStands s s.reclaimCheck := by
  unfold reclaimCheck
  split
  · exact .refl s
  · split_ifs
    · exact .refl s
    · exact s.stands_prepare _
    · exact .refl s

/-! ### An evaluation (R49, R55) -/

theorem stands_changeLevel (level : AlertLevel) (lead : Option (Fin 4)) : StoreStands s (s.changeLevel level lead) := by
  have record : StoreStands s (s.alertRecord s.rain.catchment level lead ((lead.map fun g => (s.gauge g).i15).getD 0)
      ((lead.map fun g => (s.gauge g).d60).getD 0) s.availableCount) := stands_writeRecord _ _ _ _
  exact record.trans (.of_media store_changeLevel (by simp [alertRecord]))

theorem stands_evaluate : StoreStands s s.evaluate := by
  have leveled : StoreStands s s.leveled := .of_store rfl rfl rfl
  have timed : StoreStands s.leveled.rise s.evaluate := .of_store rfl rfl rfl
  refine (leveled.trans ?_).trans timed
  unfold rise
  dsimp only
  split
  · exact stands_changeLevel _ _ _
  · exact .refl _

theorem stands_setAvailability (g : Fin 4) (a : Availability) : StoreStands s (s.setAvailability g a) := by
  by_cases same : (s.gauge g).avail = a
  · rw [setAvailability_of_same same]
    exact .refl s
  · rw [setAvailability_of_ne same]
    exact (StoreStands.of_store rfl rfl rfl : StoreStands s (s.modGauge g _)).trans (stands_evaluate _)

end State

/-! ### The notices of a hand-over (R143, R157) -/

/-- The ports stand but for STORE on RECORD, set or not. -/
def StoreTells (s t : State) : Prop := t.ports = s.ports ∨ t.ports = storeTold s.ports

theorem storeTold_storeTold (ports : Vector PortState 4) : storeTold (storeTold ports) = storeTold ports := by
  refine Vector.ext fun i lt => ?_
  by_cases record : i = 3
  · subst record
    simp [storeTold, put, Vector.get_eq_getElem, portIndex, BitVec.or_assoc]
  · simp [storeTold, put, portIndex, Ne.symm record]

namespace StoreTells

variable {s t u : State}

theorem of_ports (same : t.ports = s.ports) : StoreTells s t := .inl same

theorem refl (s : State) : StoreTells s s := .inl rfl

theorem trans (first : StoreTells s t) (second : StoreTells t u) : StoreTells s u := by
  obtain same | told := second
  · rw [StoreTells, same]
    exact first
  · refine .inr (told.trans ?_)
    obtain same | already := first
    · rw [same]
    · rw [already, storeTold_storeTold]

theorem foldl {α : Type} (f : State → α → State) (step : ∀ u x, StoreTells u (f u x)) (l : List α) (s : State) :
    StoreTells s (l.foldl f s) := by
  induction l generalizing s with
  | nil => exact refl s
  | cons x l ih => exact (step s x).trans (ih _)

theorem notify (s : State) : StoreTells s (s.notify .store .record) := .inr rfl

theorem port_of_ne {p : Port} (told : StoreTells s t) (other : p ≠ .record) : t.port p = s.port p := by
  have index : portIndex p ≠ portIndex .record := by cases p <;> simp [portIndex] at other ⊢
  obtain same | told := told
  · simp only [State.port, same]
  · simp only [State.port, told, storeTold, get_put, if_neg index]

theorem port_record (told : StoreTells s t) : t.port .record = s.port .record
    ∨ t.port .record = { s.port .record with notices := (s.port .record).notices ||| noticeWord .store } := by
  obtain same | told := told
  · exact .inl (by simp only [State.port, same])
  · exact .inr (by simp only [State.port, told, storeTold, get_put, if_true])

end StoreTells

namespace State

variable (s : State)

theorem tells_handOver (kind subject : Nat) (body : Nat → List Byte) : StoreTells s (s.handOver kind subject body).2 := by
  by_cases left : s.store.nextSeq < 4294967295
  case neg =>
    rw [s.handOver_of_no_number (Nat.not_lt.mp left)]
    exact .inr rfl
  by_cases room : s.store.queue.length < 32
  · rw [s.handOver_of_room left room]
    exact .inl (ports_fillAssembly _ _)
  · rw [s.handOver_of_no_room left (Nat.not_lt.mp room)]
    exact .inr rfl

theorem tells_writeRecord (kind subject : Nat) (body : List Byte) : StoreTells s (s.writeRecord kind subject body) :=
  s.tells_handOver kind subject _

theorem tells_becomeWorn : StoreTells s s.becomeWorn := by
  unfold becomeWorn
  split
  · exact .refl s
  · exact .inr rfl

theorem tells_settleStore : StoreTells s s.settleStore := by
  unfold settleStore
  split
  · exact s.tells_becomeWorn
  · exact .refl s

theorem tells_reclaimTotals (o : Fin 8) : StoreTells s (s.reclaimTotals o) := by
  unfold reclaimTotals
  exact s.tells_handOver _ _ _

theorem tells_prepare (b : Fin 64) : StoreTells s (s.prepare b) := by
  unfold prepare askTotals
  exact StoreTells.trans (.of_ports rfl) (.foldl _ tells_reclaimTotals _ _)

theorem tells_reclaimCheck : StoreTells s s.reclaimCheck := by
  unfold reclaimCheck
  split
  · exact .refl s
  · split_ifs
    · exact .refl s
    · exact s.tells_prepare _
    · exact .refl s

end State

end Sys2Proof.Machine
end

section
/-! SUPPORT. What the entry to RUNNING makes of the blocks (R7, R20, R41, R42, R188, R191). -/

namespace Sys2Proof.Machine

namespace State

variable (s : State)

/-- A fold whose steps each write one place of a view of the state, from what they all keep, writes each place of its list
once. -/
theorem get_foldl {ι α κ : Type} [DecidableEq ι] (view : State → ι → α) (kept : State → κ) (f : State → ι → State)
    (g : κ → ι → α → α) (step : ∀ u i j, view (f u i) j = if j = i then g (kept u) i (view u i) else view u j)
    (keeps : ∀ u i, kept (f u i) = kept u) {l : List ι} (nodup : l.Nodup) (j : ι) :
    view (l.foldl f s) j = if j ∈ l then g (kept s) j (view s j) else view s j := by
  induction l generalizing s with
  | nil => rfl
  | cons i l ih =>
    obtain ⟨new, nodup⟩ := List.nodup_cons.mp nodup
    rw [List.foldl_cons, ih (f s i) nodup, keeps, step]
    by_cases here : j = i
    · subst here
      simp [new]
    · simp [here]

/-! ### The steps of the entry -/

/-- RUNNING with every port IDLE. -/
def portsCleared : State := { s with stage := .running, ports := s.ports.map clearTransfer }

/-- The bound channels started (R7). -/
@[irreducible] def channelsStarted : State := (List.finRange 16).foldl startBound s.portsCleared

/-- The tanks in their phases (R20). -/
@[irreducible] def tanksStarted : State := (List.finRange 8).foldl startTank s.channelsStarted

/-- The allowance unit at the fallback, the rain watch at its boundary (R44, R75). -/
def atFallback : State :=
  { s with rain := { s.rain with boundary := s.partTime / 300 }, allow := idleAllow (min s.works.fallback s.works.cLeg) }

/-- The gauges AVAILABLE (R42). -/
@[irreducible] def gaugesStarted : State := (List.finRange 4).foldl startGauge s.tanksStarted.atFallback

theorem kept_portsCleared : s.portsCleared.channel = s.channel ∧ s.portsCleared.tanks = s.tanks ∧ s.portsCleared.rain = s.rain
    ∧ s.portsCleared.store = s.store ∧ s.portsCleared.save = s.save ∧ s.portsCleared.media = s.media
    ∧ s.portsCleared.clock = s.clock ∧ s.portsCleared.partTime = s.partTime :=
  ⟨rfl, rfl, rfl, rfl, rfl, rfl, rfl, rfl⟩

theorem kept_atFallback : s.atFallback.channels = s.channels ∧ s.atFallback.transfers = s.transfers
    ∧ s.atFallback.ports = s.ports ∧ s.atFallback.tanks = s.tanks ∧ s.atFallback.store = s.store ∧ s.atFallback.save = s.save
    ∧ s.atFallback.media = s.media :=
  ⟨rfl, rfl, rfl, rfl, rfl, rfl, rfl⟩

theorem channelsStarted_eq : s.channelsStarted = (List.finRange 16).foldl startBound s.portsCleared := by
  unfold channelsStarted
  with_reducible rfl

theorem tanksStarted_eq : s.tanksStarted = (List.finRange 8).foldl startTank s.channelsStarted := by
  unfold tanksStarted
  with_reducible rfl

theorem gaugesStarted_eq : s.gaugesStarted = (List.finRange 4).foldl startGauge s.tanksStarted.atFallback := by
  unfold gaugesStarted
  with_reducible rfl

theorem enterRunning_eq : s.enterRunning = s.gaugesStarted.beginHeldSave := by
  unfold gaugesStarted tanksStarted channelsStarted
  dsimp only [enterRunning, atFallback, portsCleared]

/-! ### The channels (R7) -/

/-- A channel that starts at a moment. -/
def startedAt (moment : Nat × Nat) (k : Channel) : Channel :=
  { k with status := .ok, active := false, settled := false, since := some moment.1, rain := noRain
           level := { noLevel with reference := moment.2, sampledAt := moment.2 }
           flow := { noFlow with gateStart := moment.2 } }

theorem channel_startBound (c d : Fin 16) : (s.startBound c).channel d =
    if d = c then (if (s.channel c).binder = .none then s.channel c else startedAt (s.clock, s.partTime) (s.channel c))
    else s.channel d := by
  unfold startBound
  by_cases unbound : (s.channel c).binder = .none
  · by_cases here : d = c
    · subst here
      simp [unbound]
    · simp [unbound, here]
  · rw [if_neg unbound, if_neg unbound]
    exact channel_modChannel s c d _

theorem clock_startBound (c : Fin 16) : ((s.startBound c).clock, (s.startBound c).partTime) = (s.clock, s.partTime) := by
  obtain ⟨-, clock, -⟩ := outer_eq_iff.mp (kept_startBound s c).1
  simp only [partTime, clock]

theorem channel_foldl_startBound (c : Fin 16) : ((List.finRange 16).foldl startBound s).channel c =
    if (s.channel c).binder = .none then s.channel c else startedAt (s.clock, s.partTime) (s.channel c) := by
  have all := get_foldl s channel (fun u => (u.clock, u.partTime)) startBound
    (fun moment _ k => if k.binder = .none then k else startedAt moment k) channel_startBound clock_startBound
    (List.nodup_finRange 16) c
  rwa [if_pos (List.mem_finRange c)] at all

theorem channel_channelsStarted (c : Fin 16) : s.channelsStarted.channel c =
    if (s.channel c).binder = .none then s.channel c else startedAt (s.clock, s.partTime) (s.channel c) := by
  rw [channelsStarted_eq, channel_foldl_startBound]
  simp only [kept_portsCleared]

theorem binder_channelsStarted (c : Fin 16) : (s.channelsStarted.channel c).binder = (s.channel c).binder := by
  rw [channel_channelsStarted]
  split <;> rfl

/-! ### The tanks (R20) -/

theorem levelSound_channelsStarted (k : Fin 8) :
    s.channelsStarted.levelSound k = true ↔ ∃ c, (s.channel c).binder = .tank k .level := by
  cases found : s.channelsStarted.channelOf (.tank k .level) with
  | none =>
    have unbound := channelOf_eq_none_iff.mp found
    simp only [levelSound, found]
    refine ⟨fun no => absurd no (by decide), fun ⟨c, bound⟩ => ?_⟩
    exact absurd ((s.binder_channelsStarted c).trans bound) (unbound c)
  | some c =>
    have bound : (s.channel c).binder = .tank k .level := by
      rw [← binder_channelsStarted]
      exact of_decide_eq_true (List.find?_some found :)
    have sound : (s.channelsStarted.channel c).status = .ok := by
      rw [channel_channelsStarted, if_neg (by rw [bound]; simp)]
      rfl
    simp only [levelSound, found, sound]
    exact ⟨fun _ => ⟨c, bound⟩, fun _ => by decide⟩

/-- A tank in the phase of its entry to RUNNING. -/
def phased (sound : Fin 8 → Bool) (t : Fin 8) (k : Tank) : Tank :=
  { k with phase := if k.set.enabled && sound t then .unknown else .offline }

theorem levelSound_startTank (t : Fin 8) : (s.startTank t).levelSound = s.levelSound := by
  funext k
  have channels : (s.startTank t).channels = s.channels := by simp
  simp only [levelSound, channelOf_congr channels, channel_congr channels]

theorem tank_startTank (t k : Fin 8) :
    (s.startTank t).tank k = if k = t then phased s.levelSound t (s.tank t) else s.tank k := tank_modTank s t k _

theorem tank_foldl_startTank (k : Fin 8) : ((List.finRange 8).foldl startTank s).tank k = phased s.levelSound k (s.tank k) := by
  have all := get_foldl s tank levelSound startTank phased tank_startTank levelSound_startTank (List.nodup_finRange 8) k
  rwa [if_pos (List.mem_finRange k)] at all

theorem tanks_channelsStarted : s.channelsStarted.tanks = s.tanks := by
  rw [channelsStarted_eq, tanks_foldl _ startBound (fun u c => by simp)]
  simp only [kept_portsCleared]

theorem tank_tanksStarted (k : Fin 8) : s.tanksStarted.tank k = phased s.channelsStarted.levelSound k (s.tank k) := by
  rw [tanksStarted_eq, tank_foldl_startTank, tank_congr s.tanks_channelsStarted]

theorem phase_tanksStarted (k : Fin 8) : (s.tanksStarted.tank k).phase =
    if (s.tank k).set.enabled = true ∧ (∃ c, (s.channel c).binder = .tank k .level) then .unknown else .offline := by
  rw [tank_tanksStarted]
  simp only [phased, Bool.and_eq_true, levelSound_channelsStarted]

/-! ### The gauges (R41, R42, R49) -/

theorem startGauge_cases (g : Fin 4) : s.startGauge g = s ∨ s.startGauge g = s.setAvailability g .available := by
  unfold startGauge
  split
  · exact .inr rfl
  · exact .inl rfl

theorem stands_startGauge (g : Fin 4) : StoreStands s (s.startGauge g) := by
  obtain same | available := s.startGauge_cases g
  · rw [same]
    exact .refl s
  · rw [available]
    exact s.stands_setAvailability g .available

/-- The tanks in two states but for their weights. -/
def sameTanks (t : State) : Prop :=
  ∀ k, (t.tank k).phase = (s.tank k).phase ∧ (t.tank k).set = (s.tank k).set ∧ (t.tank k).owner = (s.tank k).owner

theorem sameTanks_setAvailability (g : Fin 4) (a : Availability) : s.sameTanks (s.setAvailability g a) := by
  intro k
  by_cases same : (s.gauge g).avail = a
  · rw [setAvailability_of_same same]
    exact ⟨rfl, rfl, rfl⟩
  obtain ⟨-, -, -, -, -, still, moved, -⟩ := evaluated_setAvailability same
  by_cases level : (s.setAvailability g a).rain.catchment = (s.modGauge g (Gauge.becoming a)).rain.catchment
  · have tank : (s.setAvailability g a).tank k = s.tank k := congrArg (·.tank k) (still level)
    rw [tank]
    exact ⟨rfl, rfl, rfl⟩
  · obtain ⟨-, tanks, -⟩ := moved level
    rw [tanks k]
    exact ⟨rfl, rfl, rfl⟩

theorem sameTanks_gauges (l : List (Fin 4)) : s.sameTanks (l.foldl startGauge s) := by
  induction l generalizing s with
  | nil => exact fun _ => ⟨rfl, rfl, rfl⟩
  | cons g l ih =>
    intro k
    obtain ⟨phase, set, owner⟩ := ih (s.startGauge g) k
    have first : s.sameTanks (s.startGauge g) := by
      obtain same | available := s.startGauge_cases g
      · rw [same]
        exact fun _ => ⟨rfl, rfl, rfl⟩
      · rw [available]
        exact s.sameTanks_setAvailability g .available
    obtain ⟨phase', set', owner'⟩ := first k
    exact ⟨phase.trans phase', set.trans set', owner.trans owner'⟩

end State

end Sys2Proof.Machine
end

section
/-! SUPPORT. The entry to RUNNING: its channels, tanks, ports, save and what it leaves at rest (R7, R20, R166, R188, R191). -/

namespace Sys2Proof.Machine

namespace State

variable (s : State)

/-! ### The state before the gauges and before the save -/

theorem kept_foldl_startBound (l : List (Fin 16)) :
    (l.foldl startBound s).transfers = s.transfers ∧ (l.foldl startBound s).ports = s.ports
      ∧ (l.foldl startBound s).rain = s.rain ∧ (l.foldl startBound s).store = s.store ∧ (l.foldl startBound s).save = s.save
      ∧ (l.foldl startBound s).media = s.media :=
  ⟨transfers_foldl s startBound (fun u c => by simp) l, foldl_keeps s ports startBound (fun u c => by simp) l,
    rain_foldl s startBound (fun u c => by simp) l, store_foldl s startBound (fun u c => by simp) l,
    save_foldl s startBound (fun u c => by simp) l, media_foldl s startBound (fun u c => by simp) l⟩

theorem kept_foldl_startTank (l : List (Fin 8)) :
    (l.foldl startTank s).channels = s.channels ∧ (l.foldl startTank s).transfers = s.transfers
      ∧ (l.foldl startTank s).ports = s.ports ∧ (l.foldl startTank s).rain = s.rain ∧ (l.foldl startTank s).store = s.store
      ∧ (l.foldl startTank s).save = s.save ∧ (l.foldl startTank s).media = s.media :=
  ⟨channels_foldl s startTank (fun u k => by simp) l, transfers_foldl s startTank (fun u k => by simp) l,
    foldl_keeps s ports startTank (fun u k => by simp) l, rain_foldl s startTank (fun u k => by simp) l,
    store_foldl s startTank (fun u k => by simp) l, save_foldl s startTank (fun u k => by simp) l,
    media_foldl s startTank (fun u k => by simp) l⟩

theorem kept_foldl_startGauge (l : List (Fin 4)) :
    (l.foldl startGauge s).channels = s.channels ∧ (l.foldl startGauge s).transfers = s.transfers
      ∧ (l.foldl startGauge s).save = s.save :=
  ⟨channels_foldl s startGauge (fun u g => by simp) l, transfers_foldl s startGauge (fun u g => by simp) l,
    save_foldl s startGauge (fun u g => by simp) l⟩

theorem kept_tanksStarted : s.tanksStarted.channels = s.channelsStarted.channels
    ∧ s.tanksStarted.transfers = s.portsCleared.transfers ∧ s.tanksStarted.ports = s.portsCleared.ports
    ∧ s.tanksStarted.rain = s.rain ∧ s.tanksStarted.store = s.store ∧ s.tanksStarted.save = s.save
    ∧ s.tanksStarted.media = s.media := by
  have tanks := kept_foldl_startTank s.channelsStarted (List.finRange 8)
  have channels := kept_foldl_startBound s.portsCleared (List.finRange 16)
  rw [← tanksStarted_eq] at tanks
  rw [← channelsStarted_eq] at channels
  obtain ⟨kept, transfers, ports, rain, store, save, media⟩ := tanks
  obtain ⟨transfers', ports', rain', store', save', media'⟩ := channels
  simp only [kept_portsCleared] at transfers' ports' rain' store' save' media'
  exact ⟨kept, transfers.trans transfers', ports.trans ports', rain.trans rain', store.trans store', save.trans save',
    media.trans media'⟩

theorem kept_gaugesStarted : s.gaugesStarted.channels = s.channelsStarted.channels
    ∧ s.gaugesStarted.transfers = s.portsCleared.transfers ∧ s.gaugesStarted.save = s.save := by
  have gauges := kept_foldl_startGauge s.tanksStarted.atFallback (List.finRange 4)
  rw [← gaugesStarted_eq] at gauges
  simp only [kept_atFallback] at gauges
  obtain ⟨channels, transfers, save⟩ := gauges
  obtain ⟨channels', transfers', -, -, -, save', -⟩ := s.kept_tanksStarted
  exact ⟨channels.trans channels', transfers.trans transfers', save.trans save'⟩

/-! ### The blocks in RUNNING -/

theorem channel_enterRunning (c : Fin 16) : s.enterRunning.channel c =
    if (s.channel c).binder = .none then s.channel c else startedAt (s.clock, s.partTime) (s.channel c) := by
  have channels : s.enterRunning.channels = s.channelsStarted.channels := by
    obtain ⟨channels, -, -⟩ := s.kept_gaugesStarted
    rw [enterRunning_eq, ← channels]
    simp only [kept_beginHeldSave]
  rw [channel_congr channels, channel_channelsStarted]

theorem tank_enterRunning (k : Fin 8) :
    (s.enterRunning.tank k).phase =
      (if (s.tank k).set.enabled = true ∧ (∃ c, (s.channel c).binder = .tank k .level) then .unknown else .offline)
    ∧ (s.enterRunning.tank k).set = (s.tank k).set ∧ (s.enterRunning.tank k).owner = (s.tank k).owner := by
  have tanks : s.enterRunning.tanks = s.gaugesStarted.tanks := by
    rw [enterRunning_eq]
    simp only [kept_beginHeldSave]
  have same := s.tanksStarted.atFallback.sameTanks_gauges (List.finRange 4) k
  rw [← gaugesStarted_eq] at same
  obtain ⟨phase, set, owner⟩ := same
  rw [tank_congr tanks]
  have before : s.tanksStarted.atFallback.tank k = s.tanksStarted.tank k := rfl
  rw [before] at phase set owner
  refine ⟨phase.trans (s.phase_tanksStarted k), set.trans ?_, owner.trans ?_⟩
  · rw [tank_tanksStarted]
    rfl
  · rw [tank_tanksStarted]
    rfl

/-- A port that is cleared but for its notices is IDLE, with its mask. -/
theorem idle_of_cleared {k q : PortState} (same : { k with notices := 0#16 } = { clearTransfer q with notices := 0#16 }) :
    k.transfer = .idle ∧ k.response = none ∧ k.received = [] ∧ k.mask = q.mask :=
  ⟨(congrArg PortState.transfer same :), (congrArg PortState.response same :), (congrArg PortState.received same :),
    (congrArg PortState.mask same :)⟩

theorem port_enterRunning (p : Port) : (s.enterRunning.port p).transfer = .idle ∧ (s.enterRunning.port p).response = none
    ∧ (s.enterRunning.port p).received = [] ∧ (s.enterRunning.port p).mask = (s.port p).mask := by
  have transfers : s.enterRunning.transfers = s.portsCleared.transfers := by
    obtain ⟨-, transfers, -⟩ := s.kept_gaugesStarted
    rw [enterRunning_eq, ← transfers]
    simp only [kept_beginHeldSave]
  have view := congrArg (·.get (portIndex p)) transfers
  have cleared : s.portsCleared.port p = clearTransfer (s.port p) := by
    simp only [portsCleared, port, Vector.get_eq_getElem, Vector.getElem_map]
  have same : { s.enterRunning.port p with notices := 0#16 } = { clearTransfer (s.port p) with notices := 0#16 } := by
    rw [← cleared]
    simpa only [State.transfers, port, Vector.get_eq_getElem, Vector.getElem_map] using view
  exact idle_of_cleared same

theorem stands_enterRunning : StoreStands s s.enterRunning := by
  obtain ⟨-, -, -, -, store, -, media⟩ := s.kept_tanksStarted
  have before : StoreStands s s.tanksStarted := .of_media store media
  have fallback : StoreStands s.tanksStarted s.tanksStarted.atFallback := .of_store rfl rfl rfl
  have gauges : StoreStands s.tanksStarted.atFallback s.gaugesStarted := by
    rw [gaugesStarted_eq]
    exact .foldl startGauge stands_startGauge (List.finRange 4) s.tanksStarted.atFallback
  have saved : StoreStands s.gaugesStarted s.enterRunning := by
    rw [enterRunning_eq]
    exact .of_media (by simp only [kept_beginHeldSave]) (by simp only [kept_beginHeldSave])
  exact ((before.trans fallback).trans gauges).trans saved

/-! ### The save that the store asked for (R188) -/

theorem save_enterRunning_of_none (none_ : s.save.heldRequest = false) : s.enterRunning.save = s.save := by
  obtain ⟨-, -, save⟩ := s.kept_gaugesStarted
  rw [enterRunning_eq, ← save]
  unfold beginHeldSave
  rw [save, none_]
  simp [save]

theorem save_enterRunning_of_held (held : s.save.heldRequest = true) : s.enterRunning.save =
    { s.save with
      heldRequest := false
      run := some { page := 0, step := .sending, snapshot := formImage s.enterRunning.workingSettings,
                    requesters := requester .record }
      changed := false } := by
  obtain ⟨-, -, save⟩ := s.kept_gaugesStarted
  have settings : s.enterRunning.workingSettings =
      (s.gaugesStarted.modSave (fun v => { v with heldRequest := false })).workingSettings := by
    rw [enterRunning_eq]
    unfold beginHeldSave
    rw [save, held]
    exact workingSettings_congr rfl rfl rfl rfl rfl rfl
  rw [settings, enterRunning_eq]
  unfold beginHeldSave
  rw [save, held]
  simp only [if_true, saveStart, modSave, save]

/-! ### What stays at rest (R41, R47, R49) -/

/-- The rain watch at rest: every bin 0, every level CLEAR, the clear timer STOPPED, the entry values above 0. -/
def rainRests : Prop :=
  entriesAboveZero s.rain ∧ s.rain.catchment = .clear ∧ s.rain.timer = none
    ∧ ∀ g, (s.gauge g).five = List.replicate 12 0 ∧ (s.gauge g).hourly = List.replicate 24 0 ∧ (s.gauge g).level = .clear

variable {s}

/-- A gauge without rain meets no entry value above 0. -/
theorem levelMet_of_dry {r : Rain} {k : Gauge} (above : entriesAboveZero r) (dry : k.five = List.replicate 12 0) :
    levelMet r k = .clear := by
  have still : intensity k = 0 := by simp [intensity, dry, List.replicate]
  have low : hourDepth k = 0 := by simp [hourDepth, dry, List.replicate]
  have unmet : ∀ v, v = r.watch ∨ v = r.warn ∨ v = r.storm → ¬ (v.entryI ≤ intensity k ∨ v.entryD ≤ hourDepth k) := by
    intro v is
    obtain ⟨intense, deep⟩ := above v is
    rw [still, low]
    omega
  unfold levelMet
  rw [if_neg (unmet r.storm (by simp)), if_neg (unmet r.warn (by simp)), if_neg (unmet r.watch (by simp)), ite_self]

/-- An evaluation writes the rain watch alone where no rain has fallen, and leaves it at rest. -/
theorem evaluate_rests (rests : s.rainRests) : s.evaluate.rainRests ∧ s.evaluate = { s with rain := s.evaluate.rain } := by
  obtain ⟨above, clear, -, gauges⟩ := rests
  have levels : ∀ g, levelMet s.rain (s.gauge g) = .clear := fun g => levelMet_of_dry above (gauges g).1
  obtain ⟨rain, gauge, catchment, -, stopped, still, -⟩ := evaluated_evaluate s
  have stays : s.evaluate.rain.catchment = .clear := by
    simp only [levels, clear] at catchment
    cases now : s.evaluate.rain.catchment <;> simp [now, alertCode, List.finRange_succ] at catchment ⊢
  refine ⟨⟨?_, stays, stopped (fun quiet => quiet.1 stays), fun g => ?_⟩, still (stays.trans clear.symm)⟩
  · rw [rain]
    exact above
  · obtain ⟨five, hourly, -⟩ := gauges g
    rw [gauge g]
    exact ⟨five, hourly, levels g⟩

theorem startGauge_rests (rests : s.rainRests) (g : Fin 4) :
    (s.startGauge g).rainRests ∧ (s.startGauge g).ports = s.ports ∧ (s.startGauge g).tanks = s.tanks := by
  have marked : (s.modGauge g (Gauge.becoming .available)).rainRests := by
    obtain ⟨above, clear, timer, gauges⟩ := rests
    refine ⟨above, clear, timer, fun x => ?_⟩
    rw [gauge_modGauge]
    split
    · exact gauges g
    · exact gauges x
  obtain same | available := s.startGauge_cases g
  · rw [same]
    exact ⟨rests, rfl, rfl⟩
  rw [available]
  by_cases already : (s.gauge g).avail = .available
  · rw [setAvailability_of_same already]
    exact ⟨rests, rfl, rfl⟩
  · rw [setAvailability_of_ne already]
    obtain ⟨after, still⟩ := evaluate_rests marked
    exact ⟨after, (congrArg State.ports still).trans rfl, (congrArg State.tanks still).trans rfl⟩

theorem gauges_rest (l : List (Fin 4)) (rests : s.rainRests) :
    (l.foldl startGauge s).rainRests ∧ (l.foldl startGauge s).ports = s.ports ∧ (l.foldl startGauge s).tanks = s.tanks := by
  induction l generalizing s with
  | nil => exact ⟨rests, rfl, rfl⟩
  | cons g l ih =>
    obtain ⟨after, ports, tanks⟩ := startGauge_rests rests g
    obtain ⟨last, ports', tanks'⟩ := ih after
    exact ⟨last, ports'.trans ports, tanks'.trans tanks⟩

theorem enterRunning_rests (rests : s.rainRests) : s.enterRunning.rainRests
    ∧ (∀ p, (s.enterRunning.port p).notices = (s.port p).notices)
    ∧ ∀ k, s.enterRunning.tank k = { s.tank k with phase := (s.enterRunning.tank k).phase } := by
  obtain ⟨-, -, ports, rain, -⟩ := s.kept_tanksStarted
  have before : s.tanksStarted.atFallback.rainRests := by
    have same : s.tanksStarted.rainRests := by
      unfold rainRests at rests ⊢
      simpa only [gauge, rain] using rests
    exact same
  have rest := gauges_rest (List.finRange 4) before
  rw [← gaugesStarted_eq] at rest
  obtain ⟨after, told, tanks⟩ := rest
  have last : s.enterRunning.rain = s.gaugesStarted.rain ∧ s.enterRunning.ports = s.gaugesStarted.ports
      ∧ s.enterRunning.tanks = s.gaugesStarted.tanks := by
    rw [enterRunning_eq]
    exact ⟨by simp only [kept_beginHeldSave], by simp only [kept_beginHeldSave], by simp only [kept_beginHeldSave]⟩
  obtain ⟨lastRain, lastPorts, lastTanks⟩ := last
  refine ⟨?_, fun p => ?_, fun k => ?_⟩
  · unfold rainRests at after ⊢
    simpa only [gauge, lastRain] using after
  · have all : s.enterRunning.ports = s.portsCleared.ports := (lastPorts.trans told).trans ports
    rw [port_congr all]
    simp only [portsCleared, port, Vector.get_eq_getElem, Vector.getElem_map, clearTransfer]
  · have all : s.enterRunning.tank k = s.tanksStarted.tank k := tank_congr (lastTanks.trans tanks) k
    rw [all, tank_tanksStarted]
    rfl

end State

end Sys2Proof.Machine
end

section
/-! SUPPORT. What the formatting of a blank store makes of its blocks, of the records held, of the notices and of the save
(R153, R156, R162). -/

namespace Sys2Proof.Machine

namespace State

variable (s : State)

/-! ### The steps of the formatting -/

/-- The numbers of a blank store (R162). -/
def numbersBegun : State := s.modStore (fun v => { v with nextSeq := 1, archiveMark := 0 })

/-- The factory bad blocks retired (R162, step 1). -/
@[irreducible] def badMarked : State := (List.finRange 64).foldl markFactoryBad s.numbersBegun

/-- The good blocks erased, or retired (R162, step 2). -/
@[irreducible] def blocksErased (fails : List (Fin 64)) : State := (List.finRange 64).foldl (formatBlock fails) s.badMarked

/-- The ring begun, its START record handed over, the store READY or WORN (R162, step 3). -/
def ringBegun (fails : List (Fin 64)) : State :=
  (((s.blocksErased fails).beginRing.startRecord false 0 0).readyStore).settleStore

theorem badMarked_eq : s.badMarked = (List.finRange 64).foldl markFactoryBad s.numbersBegun := by
  unfold badMarked
  with_reducible rfl

theorem blocksErased_eq (fails : List (Fin 64)) :
    s.blocksErased fails = (List.finRange 64).foldl (formatBlock fails) s.badMarked := by
  unfold blocksErased
  with_reducible rfl

theorem format_eq (fails : List (Fin 64)) : s.format fails = (s.ringBegun fails).setCursor (s.ringBegun fails).oldest := by
  dsimp only [format, ringBegun]
  rw [blocksErased_eq, badMarked_eq]
  rfl

/-! ### A block (R153, R156, R162) -/

/-- A block's status and cells. -/
def blockView (b : Fin 64) : BlockStatus × Block := (s.blockStatus b, s.array.get b)

theorem blockView_congr {s t : State} (status : t.store.status = s.store.status) (array : t.array = s.array) :
    t.blockView = s.blockView := by
  funext b
  simp only [blockView, blockStatus, status, array]

theorem blockView_setStatus (b x : Fin 64) (v : BlockStatus) :
    (s.setStatus b v).blockView x = if x = b then (v, s.array.get b) else s.blockView x := by
  have status : (s.setStatus b v).blockStatus x = if x = b then v else s.blockStatus x := get_put _ _ _ _
  have array : (s.setStatus b v).array = s.array := rfl
  rw [blockView, status, array]
  split
  · rename_i here
    rw [here]
  · rfl

/-- A block out of use when it is factory bad. -/
def markedBad (_ : Unit) (_ : Fin 64) (v : BlockStatus × Block) : BlockStatus × Block :=
  if v.2.factoryBad then (.retired, v.2) else v

theorem blockView_listRetired (b : Fin 64) : (s.listRetired b).blockView = s.blockView := by
  refine blockView_congr ?_ ?_
  · simp
  · unfold listRetired
    split <;> exact array_setRetired _

theorem blockView_markFactoryBad (b x : Fin 64) :
    (s.markFactoryBad b).blockView x = if x = b then markedBad () b (s.blockView b) else s.blockView x := by
  unfold markFactoryBad
  by_cases bad : (s.array.get b).factoryBad = true
  · rw [if_pos bad]
    have listed : (if s.retired.blocks.contains b then s else s.listRetired b).blockView = s.blockView := by
      split
      · rfl
      · exact s.blockView_listRetired b
    have cells : (if s.retired.blocks.contains b then s else s.listRetired b).array.get b = s.array.get b :=
      congrArg Prod.snd (congrFun listed b)
    rw [blockView_setStatus, listed, cells]
    have marked : markedBad () b (s.blockView b) = (.retired, s.array.get b) := if_pos bad
    rw [marked]
  · rw [if_neg bad]
    have marked : markedBad () b (s.blockView b) = s.blockView b := if_neg bad
    rw [marked]
    split
    · rename_i here
      rw [here]
    · rfl

/-- A block formatted: erased, or retired and unreadable where its erase fails. -/
def formatted (fails : List (Fin 64)) (_ : Unit) (b : Fin 64) (v : BlockStatus × Block) : BlockStatus × Block :=
  if v.1 = .retired then v
  else if b ∈ fails then (.retired, { v.2 with pages := Vector.replicate 16 .unreadable })
  else (.erased, { v.2 with pages := Vector.replicate 16 .erased })

theorem blockView_setArrayBlock (b x : Fin 64) (p : Page) : (s.setArrayBlock b p).blockView x =
    if x = b then (s.blockStatus b, { s.array.get b with pages := Vector.replicate 16 p }) else s.blockView x := by
  have cells : (s.setArrayBlock b p).array.get x =
      if x = b then { s.array.get b with pages := Vector.replicate 16 p } else s.array.get x := get_put _ _ _ _
  have status : (s.setArrayBlock b p).blockStatus x = s.blockStatus x := rfl
  rw [blockView, cells, status]
  split
  · rename_i here
    rw [here]
  · rfl

theorem blockView_retireBlock (b x : Fin 64) (page : Option (Fin 16)) :
    (s.retireBlock b page).blockView x = if x = b then (.retired, s.array.get b) else s.blockView x := by
  rw [blockView_congr (s := s.setStatus b .retired) (s.status_retireBlock b page) (s.array_retireBlock b page),
    blockView_setStatus]

theorem blockView_formatBlock (fails : List (Fin 64)) (b x : Fin 64) :
    (formatBlock fails s b).blockView x = if x = b then formatted fails () b (s.blockView b) else s.blockView x := by
  unfold formatBlock
  by_cases gone : s.blockStatus b = .retired
  · rw [if_pos (s.isRetired_iff b |>.mpr gone)]
    have same : formatted fails () b (s.blockView b) = s.blockView b := if_pos gone
    rw [same]
    split
    · rename_i here
      rw [here]
    · rfl
  rw [if_neg (fun yes => gone (s.isRetired_iff b |>.mp yes))]
  have status : (s.blockView b).1 ≠ .retired := gone
  unfold formatted
  rw [if_neg status]
  by_cases bad : b ∈ fails
  · rw [if_pos (by simpa using bad), if_pos bad, blockView_retireBlock]
    have cells := congrArg Prod.snd (s.blockView_setArrayBlock b b .unreadable)
    rw [if_pos rfl] at cells
    have cells' : (s.setArrayBlock b .unreadable).array.get b = { s.array.get b with pages := Vector.replicate 16 .unreadable } :=
      cells
    rw [cells', blockView_setArrayBlock]
    split <;> rfl
  · rw [if_neg (by simpa using bad), if_neg bad, blockView_setStatus]
    have cells := congrArg Prod.snd (s.blockView_setArrayBlock b b .erased)
    rw [if_pos rfl] at cells
    have cells' : (s.setArrayBlock b .erased).array.get b = { s.array.get b with pages := Vector.replicate 16 .erased } := cells
    rw [cells', blockView_setArrayBlock]
    split <;> rfl

theorem blockView_badMarked (b : Fin 64) : s.badMarked.blockView b = markedBad () b (s.blockView b) := by
  have all := get_foldl s.numbersBegun blockView (fun _ => ()) markFactoryBad markedBad blockView_markFactoryBad (fun _ _ => rfl)
    (List.nodup_finRange 64) b
  rw [if_pos (List.mem_finRange b), ← badMarked_eq] at all
  exact all

theorem blockView_blocksErased (fails : List (Fin 64)) (b : Fin 64) :
    (s.blocksErased fails).blockView b = formatted fails () b (s.badMarked.blockView b) := by
  have all := get_foldl s.badMarked blockView (fun _ => ()) (formatBlock fails) (formatted fails) (blockView_formatBlock · fails)
    (fun _ _ => rfl) (List.nodup_finRange 64) b
  rwa [if_pos (List.mem_finRange b), ← blocksErased_eq] at all

/-- Every block that stays good is erased whole. -/
theorem erased_of_good (fails : List (Fin 64)) (b : Fin 64) (good : (s.blocksErased fails).blockStatus b ≠ .retired)
    (p : Fin 16) : (s.blocksErased fails).arrayPage ⟨b, p⟩ = .erased := by
  have view := s.blockView_blocksErased fails b
  have status := congrArg Prod.fst view
  have cells := congrArg Prod.snd view
  have cells' : (s.blocksErased fails).array.get b = (formatted fails () b (s.badMarked.blockView b)).2 := cells
  have status' : (s.blocksErased fails).blockStatus b = (formatted fails () b (s.badMarked.blockView b)).1 := status
  rw [status'] at good
  unfold arrayPage
  rw [cells']
  unfold formatted at good ⊢
  split
  · rename_i gone
    rw [if_pos gone] at good
    exact absurd gone good
  · rename_i kept
    rw [if_neg kept] at good
    split
    · rename_i bad
      rw [if_pos bad] at good
      exact absurd rfl good
    · simp [Vector.get_eq_getElem]

end State

end Sys2Proof.Machine
end

section
/-! SUPPORT. The formatting: the records it keeps, the save it asks for and the ring it begins (R143, R153, R157, R162). -/

namespace Sys2Proof.Machine

/-- What the marking and the erasing of blocks keep: the records held, the ports but for STORE on RECORD, the archive mark and
the stage. -/
structure FormatKeeps (s t : State) : Prop where
  held : s.heldRecords <+: t.heldRecords
  tells : StoreTells s t
  mark : t.store.archiveMark = s.store.archiveMark
  stage : t.stage = s.stage

namespace FormatKeeps

variable {s t u : State}

theorem refl (s : State) : FormatKeeps s s := ⟨⟨[], List.append_nil _⟩, .refl s, rfl, rfl⟩

theorem trans (first : FormatKeeps s t) (second : FormatKeeps t u) : FormatKeeps s u where
  held := first.held.trans second.held
  tells := first.tells.trans second.tells
  mark := second.mark.trans first.mark
  stage := second.stage.trans first.stage

theorem foldl {α : Type} (f : State → α → State) (step : ∀ u x, FormatKeeps u (f u x)) (l : List α) (s : State) :
    FormatKeeps s (l.foldl f s) := by
  induction l generalizing s with
  | nil => exact refl s
  | cons x l ih => exact (step s x).trans (ih _)

theorem of_store (store : t.store = s.store) (ports : t.ports = s.ports) (stage : t.stage = s.stage) : FormatKeeps s t where
  held := by rw [State.heldRecords_congr store]
  tells := .inl ports
  mark := by rw [store]
  stage := stage

end FormatKeeps

namespace State

variable (s : State)

/-! ### A block marked or formatted -/

theorem stage_of_outer {s t : State} (outer : t.outer = s.outer) : t.stage = s.stage := (outer_eq_iff.mp outer).1

theorem ports_listRetired (b : Fin 64) : (s.listRetired b).ports = s.ports := by
  unfold listRetired
  split <;> simp

theorem formatKeeps_listRetired (b : Fin 64) : FormatKeeps s (s.listRetired b) :=
  .of_store (by simp) (s.ports_listRetired b) (stage_of_outer (by simp))

theorem formatKeeps_setStatus (b : Fin 64) (x : BlockStatus) : FormatKeeps s (s.setStatus b x) :=
  ⟨⟨[], List.append_nil _⟩, .inl rfl, rfl, rfl⟩

theorem formatKeeps_markFactoryBad (b : Fin 64) : FormatKeeps s (s.markFactoryBad b) := by
  unfold markFactoryBad
  dsimp only
  split
  · split
    · exact formatKeeps_setStatus _ _ _
    · exact (s.formatKeeps_listRetired b).trans (formatKeeps_setStatus _ _ _)
  · exact .refl s

theorem formatKeeps_outOfRing (b : Fin 64) : FormatKeeps s (s.outOfRing b) := by
  have left : FormatKeeps s (((s.setStatus b .retired).clearTable b).dropReads b) := ⟨⟨[], List.append_nil _⟩, .inl rfl, rfl, rfl⟩
  exact left.trans (formatKeeps_listRetired _ b)

theorem formatKeeps_writeRecord (kind subject : Nat) (body : List Byte) : FormatKeeps s (s.writeRecord kind subject body) where
  held := (s.stands_writeRecord kind subject body).held
  tells := s.tells_writeRecord kind subject body
  mark := (s.stands_writeRecord kind subject body).archiveMark
  stage := stage_of_outer (by simp)

theorem ports_storeRequest : s.storeRequest.ports = s.ports := by
  unfold storeRequest
  split
  · split <;> rfl
  · rfl

theorem formatKeeps_retireBlock (b : Fin 64) (page : Option (Fin 16)) : FormatKeeps s (s.retireBlock b page) := by
  rw [retireBlock_eq]
  have told (u : State) : FormatKeeps u (u.notify .store .record) := ⟨⟨[], List.append_nil _⟩, .notify u, rfl, rfl⟩
  have asked (u : State) : FormatKeeps u u.storeRequest := .of_store (by simp) u.ports_storeRequest (stage_of_outer (by simp))
  exact (((s.formatKeeps_outOfRing b).trans (formatKeeps_writeRecord _ _ _ _)).trans (told _)).trans (asked _)

theorem formatKeeps_formatBlock (fails : List (Fin 64)) (b : Fin 64) : FormatKeeps s (formatBlock fails s b) := by
  have cells (p : Page) : FormatKeeps s (s.setArrayBlock b p) := .of_store rfl rfl rfl
  unfold formatBlock
  split
  · exact .refl s
  · split
    · exact (cells _).trans (formatKeeps_retireBlock _ _ _)
    · exact (cells _).trans (formatKeeps_setStatus _ _ _)

theorem formatKeeps_blocksErased (fails : List (Fin 64)) : FormatKeeps s.numbersBegun (s.blocksErased fails) := by
  have marked := FormatKeeps.foldl markFactoryBad formatKeeps_markFactoryBad (List.finRange 64) s.numbersBegun
  rw [← badMarked_eq] at marked
  have erased := FormatKeeps.foldl (formatBlock fails) (formatKeeps_formatBlock · fails) (List.finRange 64) s.badMarked
  rw [← blocksErased_eq] at erased
  exact marked.trans erased

/-! ### The save that a retirement asks for (R153, R188) -/

/-- The save but for the changed flag. -/
def saveView : Save := { s.save with changed := false }

/-- A save for which the store holds a request. -/
def requested (v : Save) : Save := { v with heldRequest := true }

theorem saveView_listRetired (b : Fin 64) : (s.listRetired b).saveView = s.saveView := by
  unfold listRetired setRetired
  split <;> split <;> rfl

theorem saveView_markFactoryBad (b : Fin 64) : (s.markFactoryBad b).saveView = s.saveView := by
  unfold markFactoryBad
  dsimp only
  split
  · split
    · rfl
    · exact s.saveView_listRetired b
  · rfl

variable {s} in
theorem saveView_retireBlock (stage : s.stage = .store) (b : Fin 64) (page : Option (Fin 16)) :
    (s.retireBlock b page).saveView = requested s.saveView := by
  have before (u : State) (store : u.stage = .store) : u.storeRequest.saveView = requested u.saveView := by
    unfold storeRequest
    rw [if_neg (by rw [store]; decide)]
    rfl
  have listed : (s.outOfRing b).saveView = s.saveView := saveView_listRetired _ b
  have written (kind subject : Nat) (body : List Byte) :
      (((s.outOfRing b).writeRecord kind subject body).notify .store .record).saveView = s.saveView := by
    have save : (((s.outOfRing b).writeRecord kind subject body).notify .store .record).save = (s.outOfRing b).save := by simp
    rw [← listed, saveView, saveView, save]
  have still (kind subject : Nat) (body : List Byte) :
      (((s.outOfRing b).writeRecord kind subject body).notify .store .record).stage = .store := by
    rw [← stage]
    exact ((s.formatKeeps_outOfRing b).trans (formatKeeps_writeRecord _ kind subject body)).stage
  rw [retireBlock_eq, before _ (still _ _ _), written]

variable {s} in
theorem saveView_formatBlock (stage : s.stage = .store) (fails : List (Fin 64)) (b : Fin 64) :
    (formatBlock fails s b).saveView =
      if b ∈ fails ∧ s.blockStatus b ≠ .retired then requested s.saveView else s.saveView := by
  unfold formatBlock
  by_cases gone : s.blockStatus b = .retired
  · rw [if_pos (s.isRetired_iff b |>.mpr gone), if_neg (fun both => both.2 gone)]
  rw [if_neg (fun yes => gone (s.isRetired_iff b |>.mp yes))]
  by_cases bad : b ∈ fails
  · rw [if_pos (by simpa using bad), if_pos ⟨bad, gone⟩]
    exact saveView_retireBlock (s := s.setArrayBlock b .unreadable) stage b none
  · rw [if_neg (by simpa using bad), if_neg (fun both => bad both.1)]
    rfl

variable {s} in
theorem saveView_foldl_formatBlock (stage : s.stage = .store) (fails : List (Fin 64)) {l : List (Fin 64)} (nodup : l.Nodup) :
    (l.foldl (formatBlock fails) s).saveView =
      if ∃ b ∈ l, b ∈ fails ∧ s.blockStatus b ≠ .retired then requested s.saveView else s.saveView := by
  induction l generalizing s with
  | nil => simp
  | cons b l ih =>
    obtain ⟨new, nodup⟩ := List.nodup_cons.mp nodup
    have still : (formatBlock fails s b).stage = .store := (s.formatKeeps_formatBlock fails b).stage.trans stage
    have others : (∃ x ∈ l, x ∈ fails ∧ (formatBlock fails s b).blockStatus x ≠ .retired) ↔
        ∃ x ∈ l, x ∈ fails ∧ s.blockStatus x ≠ .retired := by
      refine exists_congr fun x => and_congr_right fun mem => ?_
      have view := congrArg Prod.fst (s.blockView_formatBlock fails b x)
      rw [if_neg (fun same : x = b => new (same ▸ mem))] at view
      have status : (formatBlock fails s b).blockStatus x = s.blockStatus x := view
      rw [status]
    rw [List.foldl_cons, ih still nodup, saveView_formatBlock stage]
    simp only [others, List.exists_mem_cons_iff]
    have twice (v : Save) : requested (requested v) = requested v := rfl
    by_cases first : b ∈ fails ∧ s.blockStatus b ≠ .retired <;> simp [first, twice]

variable {s} in
/-- The save of the formatting: requested by a good block whose erase fails. -/
theorem saveView_blocksErased (stage : s.stage = .store) (fails : List (Fin 64)) : (s.blocksErased fails).saveView =
    if ∃ b ∈ fails, s.blockStatus b ≠ .retired ∧ (s.array.get b).factoryBad = false then requested s.saveView
    else s.saveView := by
  have marked := FormatKeeps.foldl markFactoryBad formatKeeps_markFactoryBad (List.finRange 64) s.numbersBegun
  rw [← badMarked_eq] at marked
  have save := foldl_keeps s.numbersBegun saveView markFactoryBad saveView_markFactoryBad (List.finRange 64)
  rw [← badMarked_eq] at save
  have asked := saveView_foldl_formatBlock (marked.stage.trans stage) fails (List.nodup_finRange 64)
  rw [← blocksErased_eq, save] at asked
  have status : ∀ b, s.badMarked.blockStatus b ≠ .retired ↔ s.blockStatus b ≠ .retired ∧ (s.array.get b).factoryBad = false := by
    intro b
    have view : s.badMarked.blockStatus b = (markedBad () b (s.blockView b)).1 := congrArg Prod.fst (s.blockView_badMarked b)
    rw [view]
    cases bad : (s.array.get b).factoryBad <;> simp [markedBad, blockView, bad]
  have requests : (∃ b ∈ List.finRange 64, b ∈ fails ∧ s.badMarked.blockStatus b ≠ .retired) ↔
      ∃ b ∈ fails, s.blockStatus b ≠ .retired ∧ (s.array.get b).factoryBad = false := by
    simp only [status, List.mem_finRange, true_and]
  simp only [requests] at asked
  exact asked

end State

end Sys2Proof.Machine
end

section
/-! SUPPORT. The store stage's end by a format: the ring begun and the store READY or WORN (R157, R162). -/

namespace Sys2Proof.Machine

open State in
/-- What the store stage makes of the records held, of the notices and of the store's state. -/
structure StoreReady (s t : State) : Prop where
  held : s.heldRecords <+: t.heldRecords
  tells : StoreTells s t
  state : t.store.state = .ready ∨ t.store.state = .full ∨ t.store.state = .worn
  worn : t.retired.worn = true ∨ goodBlocks t < 48 → t.store.state = .worn

namespace State

variable (s : State)

/-! ### The store settled (R157) -/

variable {s} in
theorem state_settleStore (few : s.retired.worn = true ∨ goodBlocks s < 48) : s.settleStore.store.state = .worn := by
  have cond : (s.retired.worn || decide (s.goodCount < 48)) = true := by simpa [goodCount_eq] using few
  unfold settleStore
  rw [if_pos cond]
  unfold becomeWorn
  split
  · assumption
  · rfl

variable {s} in
/-- What only hands over records after the store is settled leaves it settled. -/
theorem storeReady_of_settled {t u v : State} (held : s.heldRecords <+: t.heldRecords) (tells : StoreTells s t)
    (state : t.store.state = .ready ∨ t.store.state = .full ∨ t.store.state = .worn) (settled : u = t.settleStore)
    (stands : StoreStands u v) (told : StoreTells u v) : StoreReady s v := by
  subst settled
  have all := t.stands_settleStore.trans stands
  refine ⟨held.trans all.held, (tells.trans t.tells_settleStore).trans told, ?_, fun few => stands.worn (state_settleStore ?_)⟩
  · obtain same | worn := all.state
    · rwa [same]
    · exact .inr (.inr worn)
  · rwa [← all.retired, ← all.goodBlocks]

/-! ### The ring begun (R162, step 3) -/

theorem lowest_beginRing {b : Fin 64} (good : s.blockStatus b ≠ .retired) (first : ∀ x, x < b → s.blockStatus x = .retired) :
    s.beginRing = (s.setStatus b .current).modStore (fun v => { v with current := some b, writePage := 0 }) := by
  have found : (List.finRange 64).find? (fun b => !s.isRetired b) = some b := by
    rw [List.find?_eq_some_iff_getElem]
    refine ⟨by simpa [isRetired] using good, b.val, by simp, by simp, fun j lt => ?_⟩
    have gone := first ⟨j, lt.trans b.isLt⟩ lt
    simp [isRetired, gone]
  simp only [beginRing, found]

theorem retired_beginRing (b : Fin 64) : s.beginRing.blockStatus b = .retired ↔ s.blockStatus b = .retired := by
  unfold beginRing
  split
  · rfl
  · rename_i c found
    have good : s.blockStatus c ≠ .retired := by
      have := List.find?_some found
      simpa [isRetired] using this
    have status : ((s.setStatus c .current).modStore (fun v => { v with current := some c, writePage := 0 })).blockStatus b =
        if b = c then .current else s.blockStatus b := get_put _ _ _ _
    rw [status]
    split
    · rename_i here
      subst here
      simp [good]
    · rfl

theorem kept_beginRing_store : s.beginRing.heldRecords = s.heldRecords ∧ s.beginRing.ports = s.ports
    ∧ s.beginRing.store.archiveMark = s.store.archiveMark ∧ s.beginRing.array = s.array := by
  unfold beginRing
  split <;> exact ⟨rfl, rfl, rfl, rfl⟩

theorem state_readyStore : s.readyStore.store.state = .worn ∨ s.readyStore.store.state = .ready := by
  unfold readyStore
  rw [modStore_store]
  dsimp only
  split
  · exact .inl rfl
  · exact .inr rfl

theorem kept_readyStore_more : s.readyStore.heldRecords = s.heldRecords ∧ s.readyStore.ports = s.ports := ⟨rfl, rfl⟩

variable {s} in
theorem fields_of_layout {t : State} (same : t.layout = s.layout) : t.blockStatus = s.blockStatus
    ∧ t.store.current = s.store.current ∧ t.store.writePage = s.store.writePage
    ∧ t.store.archiveMark = s.store.archiveMark := by
  simp only [layout, Prod.mk.injEq] at same
  obtain ⟨status, -, current, writePage, mark⟩ := same
  exact ⟨blockStatus_congr status, current, writePage, mark⟩

/-- The ring begun with its START record. -/
def ringStarted (fails : List (Fin 64)) : State := (s.blocksErased fails).beginRing.startRecord false 0 0

theorem format_settled (fails : List (Fin 64)) :
    s.format fails = ((s.ringStarted fails).readyStore.settleStore).setCursor (s.ringBegun fails).oldest := s.format_eq fails

/-- After the ring has begun, the formatting hands over a record and settles the store alone. -/
theorem layout_format (fails : List (Fin 64)) : (s.format fails).layout = (s.blocksErased fails).beginRing.layout
    ∧ (s.format fails).array = (s.blocksErased fails).array ∧ (s.format fails).save = (s.blocksErased fails).save := by
  have started : StoreStands (s.blocksErased fails).beginRing (s.ringStarted fails) := stands_startRecord _ _ _ _
  have settled := (s.ringStarted fails).readyStore.stands_settleStore.trans (stands_setCursor _ (s.ringBegun fails).oldest)
  rw [← format_settled] at settled
  obtain ⟨-, -, -, cells⟩ := (s.blocksErased fails).kept_beginRing_store
  refine ⟨settled.layout.trans started.layout, (settled.array.trans started.array).trans cells, ?_⟩
  rw [format_settled, ringStarted]
  simp [setCursor]

theorem storeReady_format (fails : List (Fin 64)) : StoreReady s (s.format fails) := by
  have erased := s.formatKeeps_blocksErased fails
  obtain ⟨held, ports, -, -⟩ := (s.blocksErased fails).kept_beginRing_store
  have started : StoreStands (s.blocksErased fails).beginRing (s.ringStarted fails) := stands_startRecord _ _ _ _
  have told : StoreTells (s.blocksErased fails).beginRing (s.ringStarted fails) := tells_writeRecord _ _ _ _
  rw [format_settled]
  refine storeReady_of_settled (t := (s.ringStarted fails).readyStore) ?_ ?_ ?_ rfl (stands_setCursor _ _) (.inl rfl)
  · have begun := started.held
    rw [held] at begun
    have last := (s.ringStarted fails).kept_readyStore_more
    rw [last.1]
    exact erased.held.trans begun
  · have last := (s.ringStarted fails).kept_readyStore_more
    exact (((StoreTells.of_ports rfl).trans erased.tells).trans (.of_ports ports)).trans (told.trans (.of_ports last.2))
  · obtain worn | ready := state_readyStore (s.ringStarted fails)
    · exact .inr (.inr worn)
    · exact .inl ready

/-! ### What a format leaves (R162) -/

theorem archiveMark_format (fails : List (Fin 64)) : (s.format fails).store.archiveMark = 0 := by
  obtain ⟨layout, -, -⟩ := s.layout_format fails
  obtain ⟨-, -, mark, -⟩ := (s.blocksErased fails).kept_beginRing_store
  obtain ⟨-, -, -, same⟩ := fields_of_layout layout
  rw [same, mark, (s.formatKeeps_blocksErased fails).mark]
  rfl

theorem status_format (fails : List (Fin 64)) (b : Fin 64) :
    (s.format fails).blockStatus b = .retired ↔ (s.blocksErased fails).blockStatus b = .retired := by
  obtain ⟨layout, -, -⟩ := s.layout_format fails
  obtain ⟨same, -⟩ := fields_of_layout layout
  rw [same, retired_beginRing]

theorem erased_format (fails : List (Fin 64)) (b : Fin 64) (p : Fin 16) (good : (s.format fails).blockStatus b ≠ .retired) :
    (s.format fails).arrayPage ⟨b, p⟩ = .erased := by
  obtain ⟨-, array, -⟩ := s.layout_format fails
  unfold arrayPage
  rw [array]
  exact s.erased_of_good fails b (fun gone => good ((s.status_format fails b).mpr gone)) p

theorem lowest_format (fails : List (Fin 64)) (b : Fin 64) (good : (s.format fails).blockStatus b ≠ .retired)
    (first : ∀ x, x < b → (s.format fails).blockStatus x = .retired) :
    (s.format fails).store.current = some b ∧ (s.format fails).store.writePage = 0 := by
  simp only [ne_eq, status_format] at good first
  obtain ⟨layout, -, -⟩ := s.layout_format fails
  rw [(s.blocksErased fails).lowest_beginRing good first] at layout
  obtain ⟨-, current, writePage, -⟩ := fields_of_layout layout
  exact ⟨current, writePage⟩

variable {s} in
theorem saveView_format (stage : s.stage = .store) (fails : List (Fin 64)) : (s.format fails).saveView =
    if ∃ b ∈ fails, s.blockStatus b ≠ .retired ∧ (s.array.get b).factoryBad = false then requested s.saveView
    else s.saveView := by
  obtain ⟨-, -, save⟩ := s.layout_format fails
  rw [← saveView_blocksErased stage fails, saveView, saveView, save]

end State

end Sys2Proof.Machine
end

section
/-! SUPPORT. The page table that a scan rebuilds, and the ring that it finds (R162, R163). -/

namespace Sys2Proof.Machine

namespace State

variable (s : State)

/-! ### The page table (R163) -/

/-- The entry of a page whose spare check passes. -/
def passedEntry (spare : Spare) (p : Page) : PageEntry :=
  { first := spare.first.toNat, count := spare.count.toNat, valid := pageSound p }

theorem scanPage_of_passes {records : List (List Byte)} {spare : Spare}
    (passes : sparePasses (.programmed records spare) = true) (before : Option Nat) :
    scanPage before (.programmed records spare) = some (passedEntry spare (.programmed records spare)) := if_pos passes

theorem array_foldl_scanOne (rs : List PageRef) (a : State × Option Nat) : (rs.foldl scanOne a).1.array = a.1.array := by
  induction rs generalizing a with
  | nil => rfl
  | cons r rs ih => exact (ih _).trans (scanOne_keeps State.array (fun _ _ _ => rfl) a r)

theorem tableEntry_setTableEntry (r q : PageRef) (e : PageEntry) :
    (s.setTableEntry r e).tableEntry q = if q = r then some e else s.tableEntry q := by
  obtain ⟨b, p⟩ := r
  obtain ⟨c, x⟩ := q
  by_cases block : c = b
  · subst block
    by_cases page : x = p
    · subst page
      simp [tableEntry, setTableEntry]
    · simp [tableEntry, setTableEntry, page]
  · simp [tableEntry, setTableEntry, block]

theorem tableEntry_scanOne (a : State × Option Nat) (r q : PageRef) : (scanOne a r).1.tableEntry q =
    if q = r then (scanPage a.2 (a.1.arrayPage r)).orElse (fun _ => a.1.tableEntry q) else a.1.tableEntry q := by
  unfold scanOne
  cases found : scanPage a.2 (a.1.arrayPage r) with
  | none => simp
  | some e =>
    rw [tableEntry_setTableEntry]
    rfl

/-- A page whose spare check passes is entered by its own spare area, wherever the scan meets it. -/
theorem tableEntry_foldl_scanOne {r : PageRef} {records : List (List Byte)} {spare : Spare}
    (page : s.arrayPage r = .programmed records spare) (passes : sparePasses (.programmed records spare) = true)
    (rs : List PageRef) (mem : r ∈ rs) (before : Option Nat) :
    (rs.foldl scanOne (s, before)).1.tableEntry r = some (passedEntry spare (.programmed records spare)) := by
  induction rs using List.reverseRecOn with
  | nil => exact absurd mem (by simp)
  | append_singleton rs q ih =>
    rw [List.foldl_concat, tableEntry_scanOne]
    by_cases here : r = q
    · subst here
      have same : (rs.foldl scanOne (s, before)).1.arrayPage r = s.arrayPage r := by
        simp only [arrayPage, array_foldl_scanOne]
      rw [if_pos rfl, same, page, scanPage_of_passes passes]
      rfl
    · rw [if_neg here]
      exact ih (by simpa [here] using mem)

theorem firstSpare_isSome {records : List (List Byte)} {spare : Spare} (b : Block) (p : Fin 16)
    (page : b.pages.get p = .programmed records spare) (passes : sparePasses (.programmed records spare) = true) :
    (firstSpare b).isSome = true := by
  unfold firstSpare
  rw [List.findSome?_isSome_iff]
  refine ⟨b.pages.get p, by simp [Vector.get_eq_getElem], ?_⟩
  rw [page]
  simp [passes]

theorem tableEntry_scanTable {r : PageRef} {records : List (List Byte)} {spare : Spare} (good : s.isRetired r.block = false)
    (page : s.arrayPage r = .programmed records spare) (passes : sparePasses (.programmed records spare) = true) :
    s.scanTable.tableEntry r = some (passedEntry spare (.programmed records spare)) := by
  have block : r.block ∈ s.blockOrder := by
    unfold blockOrder inRingOrder
    rw [sortByFirst_mem _ _ ((List.pairwise_lt_finRange 64).filter _)]
    simp [good, firstSpare_isSome _ _ page passes]
  refine s.tableEntry_foldl_scanOne page passes _ ?_ none
  rw [List.mem_flatMap]
  exact ⟨r.block, block, List.mem_map.mpr ⟨r.page, List.mem_finRange _, rfl⟩⟩

theorem kept_scanTable_store : s.scanTable.heldRecords = s.heldRecords ∧ s.scanTable.ports = s.ports :=
  ⟨s.scanTable_keeps heldRecords (fun _ _ _ => rfl), s.scanTable_keeps State.ports (fun _ _ _ => rfl)⟩

/-! ### The ring found (R163) -/

/-- What finding the ring keeps: the records held, the ports but for STORE on RECORD, and the page table. -/
structure RingFound (s t : State) : Prop where
  held : t.heldRecords = s.heldRecords
  tells : StoreTells s t
  table : t.store.table = s.store.table

variable {s} in
theorem RingFound.trans {t u : State} (first : RingFound s t) (second : RingFound t u) : RingFound s u :=
  ⟨second.held.trans first.held, first.tells.trans second.tells, second.table.trans first.table⟩

theorem ringFound_scanStatus (current : Option (Fin 64)) (b : Fin 64) : RingFound s (scanStatus current s b) := by
  unfold scanStatus
  split_ifs <;> exact ⟨rfl, .inl rfl, rfl⟩

theorem ringFound_foldl (current : Option (Fin 64)) (l : List (Fin 64)) : RingFound s (l.foldl (scanStatus current) s) := by
  induction l generalizing s with
  | nil => exact ⟨rfl, .inl rfl, rfl⟩
  | cons b l ih =>
    exact (s.ringFound_scanStatus current b).trans (ih (scanStatus current s b))

/-- The write point at a place, the store READY. -/
def pointed (c : Option (Fin 64)) (page : Nat) : State :=
  s.modStore (fun v => { v with current := c, writePage := page, state := .ready })

/-- The write point at page 0 of the next block, the block that it leaves FILLED. -/
def pointMoved (c : Option (Fin 64)) (b : Fin 64) : State :=
  let s := match c with
    | some x => s.setStatus x .filled
    | none => s
  (s.setStatus b .current).modStore (fun v => { v with current := some b, writePage := 0 })

/-- The ring from the statuses of the blocks on: the write point, past page 15 in the ERASED ahead block or nowhere. -/
def ringFrom (c : Option (Fin 64)) (page : Nat) : State :=
  if page < 16 then s.pointed c page
  else match (s.pointed c page).aheadErased with
    | none => (s.pointed c page).enterFull
    | some b => (s.pointed c page).pointMoved c b

theorem ringFound_pointMoved (c : Option (Fin 64)) (b : Fin 64) : RingFound s (s.pointMoved c b) := by
  have status (u : State) (x : Fin 64) (v : BlockStatus) : RingFound u (u.setStatus x v) := ⟨rfl, .inl rfl, rfl⟩
  have point (u : State) : RingFound u (u.modStore (fun v => { v with current := some b, writePage := 0 })) :=
    ⟨rfl, .inl rfl, rfl⟩
  cases c with
  | none => exact (status s b .current).trans (point _)
  | some x => exact ((status s x .filled).trans (status _ b .current)).trans (point _)

theorem state_pointMoved (c : Option (Fin 64)) (b : Fin 64) : (s.pointMoved c b).store.state = s.store.state := by
  cases c <;> rfl

/-- The statuses of the blocks found. -/
@[irreducible] def statusFound : State := (List.finRange 64).foldl (scanStatus s.blockOrder.getLast?) s

theorem statusFound_eq : s.statusFound = (List.finRange 64).foldl (scanStatus s.blockOrder.getLast?) s := by
  unfold statusFound
  with_reducible rfl

theorem scanRing_eq : s.scanRing = s.statusFound.ringFrom s.blockOrder.getLast?
    ((s.blockOrder.getLast?.map (fun b => scanWritePage (s.statusFound.array.get b))).getD 0) := by
  unfold scanRing
  dsimp only
  rw [← statusFound_eq]
  generalize s.statusFound = u
  rfl

theorem ringFound_ringFrom (c : Option (Fin 64)) (page : Nat) : RingFound s (s.ringFrom c page)
    ∧ ((s.ringFrom c page).store.state = .ready ∨ (s.ringFrom c page).store.state = .full) := by
  have pointed : RingFound s (s.pointed c page) := ⟨rfl, .inl rfl, rfl⟩
  unfold ringFrom
  split
  · exact ⟨pointed, .inl rfl⟩
  · cases (s.pointed c page).aheadErased with
    | none => exact ⟨pointed.trans ⟨rfl, .inr rfl, rfl⟩, .inr rfl⟩
    | some b => exact ⟨pointed.trans (ringFound_pointMoved _ c b), .inl ((state_pointMoved _ c b).trans rfl)⟩

theorem ringFound_scanRing : RingFound s s.scanRing ∧ (s.scanRing.store.state = .ready ∨ s.scanRing.store.state = .full) := by
  have found := s.ringFound_foldl s.blockOrder.getLast? (List.finRange 64)
  rw [← statusFound_eq] at found
  rw [scanRing_eq]
  obtain ⟨from_, state⟩ := s.statusFound.ringFound_ringFrom s.blockOrder.getLast?
    ((s.blockOrder.getLast?.map (fun b => scanWritePage (s.statusFound.array.get b))).getD 0)
  exact ⟨found.trans from_, state⟩

end State

end Sys2Proof.Machine
end

section
/-! SUPPORT. The store stage's end by a scan: the archive mark, the numbers and the totals restored (R139, R157, R163, R164). -/

namespace Sys2Proof.Machine

namespace State

variable (s : State)

/-! ### The steps of the scan -/

/-- The ring found, with the page table rebuilt. -/
@[irreducible] def scanned : State := s.scanTable.scanRing

theorem scanned_eq : s.scanned = s.scanTable.scanRing := by
  unfold scanned
  with_reducible rfl

/-- The next number taken from the pages found (R164, step 1). -/
def numbered : State := s.modStore (fun v => { v with nextSeq := s.scanNext })

/-- The archive mark, the notes and the period number restored (R164, step 3). -/
def markRestored (found : List (List Byte × Fin 64)) : State :=
  { s with
    store := { s.store with
      archiveMark := s.scanMark found
      notes := Vector.ofFn (fun o : Fin 8 =>
        (newestCounting found o).map (fun q => { sequence := recordSequence q.1, block := q.2 })) }
    spill := { s.spill with periodNumber := scanPeriod found } }

/-- The totals restored (R139). -/
@[irreducible] def totalled (found : List (List Byte × Fin 64)) : State :=
  (List.finRange 8).foldl (restoreTotals found (scanPeriod found)) (s.markRestored found)

theorem totalled_eq (found : List (List Byte × Fin 64)) :
    s.totalled found = (List.finRange 8).foldl (restoreTotals found (scanPeriod found)) (s.markRestored found) := by
  unfold totalled
  with_reducible rfl

/-- The events that were cut short closed, and the START record handed over (R164, steps 4 and 5). -/
@[irreducible] def eventsClosed (found : List (List Byte × Fin 64)) : State :=
  (interrupted found).foldl (fun u q => u.interruptedClose found q.1 q.2) s

theorem eventsClosed_eq (found : List (List Byte × Fin 64)) :
    s.eventsClosed found = (interrupted found).foldl (fun u q => interruptedClose found u q.1 q.2) s := by
  unfold eventsClosed
  with_reducible rfl

/-- The scan from the totals on. -/
def scanEnded (found : List (List Byte × Fin 64)) : State :=
  let s := s.eventsClosed found
  let s := (s.startRecord true s.badPages (interrupted found).length).settleStore
  (s.setCursor s.oldest).reclaimCheck

theorem backwardRecords_numbered : s.numbered.backwardRecords = s.backwardRecords := rfl

theorem scan_eq : s.scan = (s.scanned.numbered.totalled s.scanned.backwardRecords).scanEnded s.scanned.backwardRecords := by
  rw [← backwardRecords_numbered]
  unfold scan
  rw [← scanned_eq]
  generalize s.scanned = u
  simp only [scanEnded, eventsClosed_eq, totalled_eq, markRestored, numbered, modStore]

end State

end Sys2Proof.Machine
end

section
/-! SUPPORT. What a scan leaves: the ring found, the numbers and the totals restored (R139, R157, R163, R164). -/

namespace Sys2Proof.Machine

namespace State

variable (s : State)

/-! ### The totals restored (R139) -/

/-- The totals of an outfall by its newest counting record, where that record carries the period number restored. -/
def restoredTotals (found : List (List Byte × Fin 64)) (_ : Unit) (o : Fin 8) (w : Outfall) : Outfall :=
  match newestCounting found o with
  | some q => if fieldAt q.1 10 2 = scanPeriod found then { w with count := fieldAt q.1 12 2, seconds := fieldAt q.1 14 3 } else w
  | none => w

theorem outfall_restoreTotals (found : List (List Byte × Fin 64)) (o x : Fin 8) :
    (restoreTotals found (scanPeriod found) s o).outfall x =
      if x = o then restoredTotals found () o (s.outfall o) else s.outfall x := by
  have still : (if x = o then s.outfall o else s.outfall x) = s.outfall x := by
    split
    · rename_i here
      rw [here]
    · rfl
  unfold restoreTotals restoredTotals
  cases newestCounting found o with
  | none => exact still.symm
  | some q =>
    dsimp only
    split
    · exact outfall_modOutfall s o x _
    · exact still.symm

theorem kept_restoreTotals_more (found : List (List Byte × Fin 64)) (period : Nat) (o : Fin 8) :
    (restoreTotals found period s o).ports = s.ports
      ∧ (restoreTotals found period s o).spill.periodNumber = s.spill.periodNumber := by
  unfold restoreTotals
  split
  · split <;> exact ⟨rfl, rfl⟩
  · exact ⟨rfl, rfl⟩

theorem kept_foldl_restoreTotals (found : List (List Byte × Fin 64)) (period : Nat) (l : List (Fin 8)) :
    (l.foldl (restoreTotals found period) s).store = s.store ∧ (l.foldl (restoreTotals found period) s).media = s.media
      ∧ (l.foldl (restoreTotals found period) s).ports = s.ports
      ∧ (l.foldl (restoreTotals found period) s).spill.periodNumber = s.spill.periodNumber :=
  ⟨store_foldl s _ (fun u o => by simp) l, media_foldl s _ (fun u o => by simp) l,
    foldl_keeps s ports _ (fun u o => (u.kept_restoreTotals_more found period o).1) l,
    foldl_keeps s (fun u => u.spill.periodNumber) _ (fun u o => (u.kept_restoreTotals_more found period o).2) l⟩

theorem outfall_foldl_restoreTotals (found : List (List Byte × Fin 64)) (o : Fin 8) :
    ((List.finRange 8).foldl (restoreTotals found (scanPeriod found)) s).outfall o = restoredTotals found () o (s.outfall o) := by
  have all := get_foldl s outfall (fun _ => ()) (restoreTotals found (scanPeriod found)) (restoredTotals found)
    (fun u => u.outfall_restoreTotals found) (fun _ _ => rfl) (List.nodup_finRange 8) o
  rwa [if_pos (List.mem_finRange o)] at all

theorem kept_totalled (found : List (List Byte × Fin 64)) :
    (s.totalled found).store = (s.markRestored found).store ∧ (s.totalled found).media = s.media
      ∧ (s.totalled found).ports = s.ports ∧ (s.totalled found).spill.periodNumber = scanPeriod found := by
  rw [totalled_eq]
  exact kept_foldl_restoreTotals (s.markRestored found) found (scanPeriod found) (List.finRange 8)

theorem outfall_totalled (found : List (List Byte × Fin 64)) (o : Fin 8) :
    (s.totalled found).outfall o = restoredTotals found () o (s.outfall o) := by
  rw [totalled_eq, outfall_foldl_restoreTotals]
  rfl

/-! ### The events closed and the START record (R164, steps 4 and 5) -/

theorem stands_interruptedClose (found : List (List Byte × Fin 64)) (o : Fin 8) (r : List Byte) :
    StoreStands s (interruptedClose found s o r) ∧ StoreTells s (interruptedClose found s o r) := by
  have drawn : StoreStands s s.drawFree ∧ StoreTells s s.drawFree := ⟨.of_store rfl rfl rfl, .inl rfl⟩
  have kept : StoreStands s s ∧ StoreTells s s := ⟨.refl s, .refl s⟩
  have closes (u : State) (subject : Nat) (body : Nat → List Byte) (before : StoreStands s u ∧ StoreTells s u) :
      StoreStands s (u.handOver 5 subject body).2 ∧ StoreTells s (u.handOver 5 subject body).2 :=
    ⟨before.1.trans (u.stands_handOver 5 subject body), before.2.trans (u.tells_handOver 5 subject body)⟩
  unfold interruptedClose
  dsimp only
  cases openingRecord found o r with
  | none => exact closes _ _ _ kept
  | some x => exact closes _ _ _ drawn

theorem stands_foldl_interruptedClose (found : List (List Byte × Fin 64)) (cut : List (Fin 8 × List Byte)) :
    StoreStands s (cut.foldl (fun u q => interruptedClose found u q.1 q.2) s)
      ∧ StoreTells s (cut.foldl (fun u q => interruptedClose found u q.1 q.2) s)
      ∧ (cut.foldl (fun u q => interruptedClose found u q.1 q.2) s).spill = s.spill := by
  induction cut generalizing s with
  | nil => exact ⟨.refl s, .refl s, rfl⟩
  | cons q cut ih =>
    obtain ⟨stands, tells⟩ := s.stands_interruptedClose found q.1 q.2
    obtain ⟨stands', tells', spill⟩ := ih (interruptedClose found s q.1 q.2)
    exact ⟨stands.trans stands', tells.trans tells', spill.trans (by simp)⟩

theorem stands_eventsClosed (found : List (List Byte × Fin 64)) :
    StoreStands s (s.eventsClosed found) ∧ StoreTells s (s.eventsClosed found) ∧ (s.eventsClosed found).spill = s.spill := by
  rw [eventsClosed_eq]
  exact s.stands_foldl_interruptedClose found (interrupted found)

/-- The START record handed over, after the events closed. -/
def scanStarted (found : List (List Byte × Fin 64)) : State :=
  (s.eventsClosed found).startRecord true (s.eventsClosed found).badPages (interrupted found).length

theorem scanEnded_eq (found : List (List Byte × Fin 64)) : s.scanEnded found =
    ((s.scanStarted found).settleStore.setCursor (s.scanStarted found).settleStore.oldest).reclaimCheck := rfl

theorem stands_scanStarted (found : List (List Byte × Fin 64)) :
    StoreStands s (s.scanStarted found) ∧ StoreTells s (s.scanStarted found) := by
  obtain ⟨stands, tells, -⟩ := s.stands_eventsClosed found
  exact ⟨stands.trans (stands_startRecord _ _ _ _), tells.trans (tells_writeRecord _ _ _ _)⟩

theorem stands_settled (u : State) (n : Nat) : StoreStands u (u.setCursor n).reclaimCheck
    ∧ StoreTells u (u.setCursor n).reclaimCheck :=
  ⟨(u.stands_setCursor n).trans (stands_reclaimCheck _), StoreTells.trans (.inl rfl) (tells_reclaimCheck _)⟩

theorem stands_scanEnded (found : List (List Byte × Fin 64)) : StoreStands s (s.scanEnded found) := by
  rw [scanEnded_eq]
  exact ((s.stands_scanStarted found).1.trans (stands_settleStore _)).trans (stands_settled _ _).1

theorem spill_scanEnded (found : List (List Byte × Fin 64)) : (s.scanEnded found).spill = s.spill := by
  obtain ⟨-, -, closed⟩ := s.stands_eventsClosed found
  have ends (u : State) (n : Nat) : (u.settleStore.setCursor n).reclaimCheck.spill = u.spill := by simp [setCursor]
  rw [scanEnded_eq, ends, scanStarted, ← closed]
  simp only [kept_startRecord]

/-! ### What a scan leaves -/

/-- The records that a scan reads. -/
def foundRecords : List (List Byte × Fin 64) := s.scanned.backwardRecords

/-- The state that a scan has restored, before it closes the events cut short. -/
def restored : State := s.scanned.numbered.totalled s.foundRecords

theorem scan_eq_restored : s.scan = s.restored.scanEnded s.foundRecords := s.scan_eq

theorem stands_scan : StoreStands s.restored s.scan := by
  rw [scan_eq_restored]
  exact stands_scanEnded _ _

theorem store_restored : s.restored.store = { s.scanned.store with
    nextSeq := s.scanned.scanNext
    archiveMark := s.scanned.numbered.scanMark s.foundRecords
    notes := s.restored.store.notes } := by
  obtain ⟨store, -⟩ := s.scanned.numbered.kept_totalled s.foundRecords
  rw [restored, store]
  rfl

theorem media_restored : s.restored.media = s.media := by
  obtain ⟨-, media, -⟩ := s.scanned.numbered.kept_totalled s.foundRecords
  have found : s.scanned.media = s.media := by
    rw [scanned_eq]
    simp only [kept_scanRing, kept_scanTable]
  exact media.trans found

theorem ringFound_scanned : RingFound s.scanTable s.scanned
    ∧ (s.scanned.store.state = .ready ∨ s.scanned.store.state = .full) := by
  rw [scanned_eq]
  exact s.scanTable.ringFound_scanRing

theorem storeReady_scan : StoreReady s s.scan := by
  obtain ⟨⟨held, tells, -⟩, state⟩ := s.ringFound_scanned
  obtain ⟨tableHeld, tablePorts⟩ := s.kept_scanTable_store
  have store := s.store_restored
  have ports : s.restored.ports = s.scanned.ports := by
    obtain ⟨-, -, ports, -⟩ := s.scanned.numbered.kept_totalled s.foundRecords
    exact ports.trans rfl
  have kept : s.restored.heldRecords = s.heldRecords := by
    have program : s.restored.store.program = s.scanned.store.program := by rw [store]
    have assembly : s.restored.store.assembly = s.scanned.store.assembly := by rw [store]
    have queue : s.restored.store.queue = s.scanned.store.queue := by rw [store]
    rw [← tableHeld, ← held]
    simp only [heldRecords, program, assembly, queue]
  have phase : s.restored.store.state = s.scanned.store.state := by rw [store]
  obtain ⟨stands, told⟩ := s.restored.stands_scanStarted s.foundRecords
  obtain ⟨stands', told'⟩ := stands_settled (s.restored.scanStarted s.foundRecords).settleStore
    (s.restored.scanStarted s.foundRecords).settleStore.oldest
  rw [scan_eq_restored, scanEnded_eq]
  refine storeReady_of_settled (t := s.restored.scanStarted s.foundRecords) ?_ ?_ ?_ rfl stands' told'
  · rw [← kept]
    exact stands.held
  · exact ((StoreTells.of_ports tablePorts).trans tells).trans ((StoreTells.of_ports ports).trans told)
  · obtain same | worn := stands.state
    · rw [same, phase]
      exact state.imp_right .inl
    · exact .inr (.inr worn)

theorem array_scan : s.scan.array = s.array := s.stands_scan.array.trans (congrArg Prod.fst s.media_restored :)

theorem table_scan : s.scan.store.table = s.scanned.store.table := by
  rw [s.stands_scan.table, store_restored]

theorem archiveMark_scan : s.scan.store.archiveMark = s.scanned.numbered.scanMark s.foundRecords := by
  rw [s.stands_scan.archiveMark, store_restored]

theorem scanNext_le_scan : s.scanned.scanNext ≤ s.scan.store.nextSeq := by
  have le := s.stands_scan.next
  rwa [store_restored] at le

variable {s} in
theorem tableEntry_scanned {r : PageRef} {records : List (List Byte)} {spare : Spare} (good : s.isRetired r.block = false)
    (page : s.arrayPage r = .programmed records spare) (passes : sparePasses (.programmed records spare) = true) :
    s.scanned.tableEntry r = some (passedEntry spare (.programmed records spare)) := by
  obtain ⟨⟨-, -, table⟩, -⟩ := s.ringFound_scanned
  rw [← s.tableEntry_scanTable good page passes]
  simp only [tableEntry, table]

theorem spill_scan : s.scan.spill = s.restored.spill := by
  rw [scan_eq_restored, spill_scanEnded]

theorem periodNumber_scan : s.scan.spill.periodNumber = scanPeriod s.foundRecords := by
  obtain ⟨-, -, -, period⟩ := s.scanned.numbered.kept_totalled s.foundRecords
  rw [spill_scan]
  exact period

theorem outfall_scan (o : Fin 8) : s.scan.outfall o = restoredTotals s.foundRecords () o (s.outfall o) := by
  have found : s.scanned.numbered.outfall o = s.outfall o := by
    have spill : s.scanned.spill = s.spill := by
      rw [scanned_eq]
      simp only [kept_scanRing, kept_scanTable]
    exact outfall_congr (s := s) (u := s.scanned.numbered) spill o
  rw [outfall_congr s.spill_scan, restored, outfall_totalled, found]

theorem outfall_scan_rests (o : Fin 8) : (s.scan.outfall o).phase = (s.outfall o).phase
    ∧ (s.scan.outfall o).event = (s.outfall o).event := by
  rw [outfall_scan]
  unfold restoredTotals
  split
  · split <;> exact ⟨rfl, rfl⟩
  · exact ⟨rfl, rfl⟩

end State

end Sys2Proof.Machine
end

section
/-! SUPPORT. The store stage ends in RUNNING, by a format or by a scan (R162 to R164, R188, R191). -/

namespace Sys2Proof.Machine

open State

theorem startedAt_fields (moment : Nat × Nat) (k : Channel) : (startedAt moment k).binder = k.binder
    ∧ (startedAt moment k).status = .ok ∧ (startedAt moment k).settled = false ∧ (startedAt moment k).active = false
    ∧ (startedAt moment k).since = some moment.1 :=
  ⟨rfl, rfl, rfl, rfl, rfl⟩

theorem fields_of_drains {s t : State} (same : t.drains = s.drains) :
    t.drainList = s.drainList ∧ t.globalSerial = s.globalSerial := Prod.mk.inj same

/-- A save that another gives but for its changed flag and its request. -/
theorem save_of_view {s v : State} (view : v.saveView = { s.saveView with heldRequest := v.save.heldRequest }) :
    v.save = { s.save with changed := v.save.changed, heldRequest := v.save.heldRequest } := by
  cases save : v.save
  cases save' : s.save
  simp only [saveView, save, save', Save.mk.injEq] at view
  simp only [Save.mk.injEq]
  tauto

/-- What a format and a scan have in common: they leave every block but the record store, the save and the totals, the save is
as it was but for the changed flag and the request, and the request is held where one was asked for. -/
structure StageEnds (s v : State) (asked : Prop) : Prop where
  outer : v.outer = s.outer
  works : v.works = s.works
  channels : v.channels = s.channels
  tanks : v.tanks = s.tanks
  rain : v.rain = s.rain
  drains : v.drains = s.drains
  leg : v.leg = s.leg
  transfers : v.transfers = s.transfers
  outfalls : ∀ o, (v.outfall o).phase = (s.outfall o).phase ∧ (v.outfall o).event = (s.outfall o).event
  store : StoreReady s v
  save : v.saveView = { s.saveView with heldRequest := v.save.heldRequest }
  asks : v.save.heldRequest = true ↔ asked

namespace StageEnds

variable {s v : State} {asked : Prop} (ends : StageEnds s v asked)

include ends

theorem stage_works : v.enterRunning.stage = .running ∧ v.enterRunning.works = s.works ∧ v.enterRunning.eeprom = s.eeprom
    ∧ v.enterRunning.clock = s.clock ∧ v.enterRunning.civil = s.civil := by
  obtain ⟨outer, -, works, -⟩ := v.kept_enterRunning
  obtain ⟨stage, clock, civil, -, -, -, eeprom⟩ := outer_eq_iff.mp outer
  obtain ⟨-, clock', civil', -, -, -, eeprom'⟩ := outer_eq_iff.mp ends.outer
  exact ⟨stage, works.trans ends.works, eeprom.trans eeprom', clock.trans clock', civil.trans civil'⟩

theorem allowance : v.enterRunning.allow.sched = .idle ∧ v.enterRunning.allow.active = none ∧ v.enterRunning.allow.hold = none
    ∧ v.enterRunning.allow.lease = none ∧ v.enterRunning.allow.aEff = min s.works.fallback s.works.cLeg
    ∧ ∀ e, v.enterRunning.entry e = freshEntry := by
  obtain ⟨-, allow, -⟩ := v.kept_enterRunning
  rw [ends.works] at allow
  unfold entry
  rw [allow]
  exact ⟨rfl, rfl, rfl, rfl, rfl, fun e => by simp [idleAllow, Vector.get_eq_getElem]⟩

theorem channel (c : Fin 16) : if (s.channel c).binder = .none then v.enterRunning.channel c = s.channel c
    else (v.enterRunning.channel c).binder = (s.channel c).binder ∧ (v.enterRunning.channel c).status = .ok
      ∧ (v.enterRunning.channel c).settled = false ∧ (v.enterRunning.channel c).active = false
      ∧ (v.enterRunning.channel c).since = some s.clock := by
  obtain ⟨-, clock, -⟩ := outer_eq_iff.mp ends.outer
  have started := v.channel_enterRunning c
  rw [channel_congr ends.channels, clock] at started
  split
  · rename_i unbound
    exact started.trans (if_pos unbound)
  · rename_i bound
    rw [started.trans (if_neg bound)]
    exact startedAt_fields (s.clock, v.partTime) (s.channel c)

theorem tank (k : Fin 8) : (v.enterRunning.tank k).phase =
      (if (s.tank k).set.enabled = true ∧ (∃ c, (s.channel c).binder = .tank k .level) then .unknown else .offline)
    ∧ (v.enterRunning.tank k).set = (s.tank k).set ∧ (v.enterRunning.tank k).owner = (s.tank k).owner := by
  have entered := v.tank_enterRunning k
  simp only [tank_congr ends.tanks, channel_congr ends.channels] at entered
  exact entered

theorem port (p : Port) : (v.enterRunning.port p).transfer = .idle ∧ (v.enterRunning.port p).response = none
    ∧ (v.enterRunning.port p).received = [] ∧ (v.enterRunning.port p).mask = (s.port p).mask := by
  obtain ⟨idle, response, received, mask⟩ := v.port_enterRunning p
  have same : { v.port p with notices := 0#16 } = { s.port p with notices := 0#16 } := by
    have view := congrArg (·.get (portIndex p)) ends.transfers
    simpa only [State.transfers, State.port, Vector.get_eq_getElem, Vector.getElem_map] using view
  exact ⟨idle, response, received, mask.trans (congrArg PortState.mask same :)⟩

/-! ### What stays at rest -/

theorem rests (above : entriesAboveZero s.rain) (rest : atRest s) : atRest v.enterRunning
    ∧ (∀ p, p ≠ .record → (v.enterRunning.port p).notices = (s.port p).notices)
    ∧ ((v.enterRunning.port .record).notices = (s.port .record).notices
        ∨ (v.enterRunning.port .record).notices = (s.port .record).notices ||| noticeWord .store) := by
  obtain ⟨civil, list, serial, leg, catchment, timer, gauges, tanks, outfalls⟩ := rest
  obtain ⟨-, -, -, -, sameCivil⟩ := ends.stage_works
  obtain ⟨-, -, -, spill, drains, sameLeg, -⟩ := v.kept_enterRunning
  obtain ⟨sameList, sameSerial⟩ := fields_of_drains (drains.trans ends.drains)
  have before : v.rainRests := by
    unfold rainRests
    simp only [gauge_congr ends.rain, ends.rain]
    exact ⟨above, catchment, timer, gauges⟩
  obtain ⟨⟨-, clear, stopped, dry⟩, notices, sameTanks⟩ := enterRunning_rests before
  refine ⟨⟨sameCivil.trans civil, sameList.trans list, sameSerial.trans serial,
    (sameLeg.trans ends.leg).trans leg, clear, stopped, dry, fun k => ?_, fun o => ?_⟩, fun p other => ?_, ?_⟩
  · rw [sameTanks k, tank_congr ends.tanks]
    exact tanks k
  · obtain ⟨phase, event⟩ := ends.outfalls o
    rw [outfall_congr spill, phase, event]
    exact outfalls o
  · rw [notices, ends.store.tells.port_of_ne other]
  · rw [notices]
    obtain same | told := ends.store.tells.port_record
    · exact .inl (by rw [same])
    · exact .inr (by rw [told])

/-! ### The record store and the save -/

theorem records : (v.enterRunning.store.state = .ready ∨ v.enterRunning.store.state = .full ∨ v.enterRunning.store.state = .worn)
    ∧ (v.enterRunning.retired.worn = true ∨ goodBlocks v.enterRunning < 48 → v.enterRunning.store.state = .worn)
    ∧ s.heldRecords <+: v.enterRunning.heldRecords := by
  have stands := v.stands_enterRunning
  refine ⟨?_, fun few => stands.worn (ends.store.worn ?_), ends.store.held.trans stands.held⟩
  · obtain same | worn := stands.state
    · rw [same]
      exact ends.store.state
    · exact .inr (.inr worn)
  · rwa [stands.retired, stands.goodBlocks] at few

theorem saves : (¬ asked → v.enterRunning.save.run = s.save.run)
    ∧ (asked → v.enterRunning.save.changed = false ∧ v.enterRunning.save.run = some {
        page := 0, step := .sending, snapshot := formImage v.enterRunning.workingSettings, requesters := requester .record })
    ∧ v.enterRunning.save =
        { s.save with run := v.enterRunning.save.run, changed := v.enterRunning.save.changed, heldRequest := false } := by
  have view := save_of_view ends.save
  cases held : v.save.heldRequest with
  | false =>
    have quiet : ¬ asked := fun yes => absurd (ends.asks.mpr yes) (by rw [held]; decide)
    have save := (save_enterRunning_of_none v held).trans view
    rw [held] at save
    refine ⟨fun _ => (congrArg Save.run save :), fun yes => absurd yes quiet, ?_⟩
    rw [save]
  | true =>
    have yes : asked := ends.asks.mp held
    have save := save_enterRunning_of_held v held
    refine ⟨fun no => absurd yes no, fun _ => ?_, ?_⟩
    · exact ⟨(congrArg Save.changed save :), (congrArg Save.run save :)⟩
    · rw [view] at save
      rw [save]

end StageEnds

end Sys2Proof.Machine
end

section
/-! SUPPORT. The store stage ends in RUNNING: the format, the scan, and the statement of both (R162 to R164, R191). -/

namespace Sys2Proof.Machine

open State

namespace State

variable (s : State)

theorem heldRequest_saveView : s.save.heldRequest = s.saveView.heldRequest := rfl

/-! ### The two ends of the store stage -/

variable {s} in
theorem stageEnds_format (stage : s.stage = .store) (fails : List (Fin 64)) : StageEnds s (s.format fails)
    (s.save.heldRequest = true ∨ ∃ b ∈ fails, s.blockStatus b ≠ .retired ∧ (s.array.get b).factoryBad = false) := by
  obtain ⟨outer, transfers, -, works, channels, rain, spill, tanks, drains, leg, -⟩ := s.kept_format fails
  have view := saveView_format stage fails
  have request := (s.format fails).heldRequest_saveView
  refine ⟨outer, works, channels, tanks, rain, drains, leg, transfers, fun o => ?_, s.storeReady_format fails, ?_, ?_⟩
  · rw [outfall_congr spill]
    exact ⟨rfl, rfl⟩
  · rw [request, view]
    split <;> rfl
  · rw [request, view]
    split
    · rename_i fail
      exact ⟨fun _ => .inr fail, fun _ => rfl⟩
    · rename_i none_
      exact ⟨fun held => .inl held, fun asked => asked.resolve_right none_⟩

theorem stageEnds_scan : StageEnds s s.scan (s.save.heldRequest = true) := by
  obtain ⟨outer, transfers, -, works, channels, rain, tanks, drains, leg, -, save⟩ := s.kept_scan
  refine ⟨outer, works, channels, tanks, rain, drains, leg, transfers, s.outfall_scan_rests, s.storeReady_scan, ?_, ?_⟩
  · rw [saveView, saveView, save]
  · rw [save]

/-! ### What RUNNING keeps of a format -/

theorem format_enterRunning (fails : List (Fin 64)) :
    (s.format fails).enterRunning.store.archiveMark = 0
    ∧ (∀ b p, (s.format fails).enterRunning.blockStatus b ≠ .retired →
        (s.format fails).enterRunning.arrayPage ⟨b, p⟩ = .erased)
    ∧ ∀ b, (s.format fails).enterRunning.blockStatus b ≠ .retired →
        (∀ x, x < b → (s.format fails).enterRunning.blockStatus x = .retired) →
        (s.format fails).enterRunning.store.current = some b ∧ (s.format fails).enterRunning.store.writePage = 0 := by
  have stands := (s.format fails).stands_enterRunning
  simp only [stands.blockStatus, stands.archiveMark, stands.current, stands.writePage, arrayPage, stands.array]
  exact ⟨s.archiveMark_format fails, s.erased_format fails, s.lowest_format fails⟩

/-! ### What RUNNING keeps of a scan -/

theorem scan_enterRunning : s.scan.enterRunning.array = s.array ∧ s.scan.enterRunning.store.table = s.scanned.store.table
    ∧ s.scan.enterRunning.store.archiveMark = s.scanned.numbered.scanMark s.foundRecords
    ∧ s.scanned.scanNext < s.scan.enterRunning.store.nextSeq + 1 := by
  have stands := s.scan.stands_enterRunning
  refine ⟨stands.array.trans s.array_scan, stands.table.trans s.table_scan, stands.archiveMark.trans s.archiveMark_scan, ?_⟩
  exact Nat.lt_succ_of_le (s.scanNext_le_scan.trans stands.next)

variable {s} in
theorem tableEntry_scan_enterRunning {r : PageRef} {records : List (List Byte)} {spare : Spare}
    (good : s.isRetired r.block = false) (page : s.arrayPage r = .programmed records spare)
    (passes : sparePasses (.programmed records spare) = true) : s.scan.enterRunning.tableEntry r =
      some { first := spare.first.toNat, count := spare.count.toNat, valid := pageSound (.programmed records spare) } := by
  have entry := tableEntry_scanned good page passes
  obtain ⟨-, table, -⟩ := s.scan_enterRunning
  unfold tableEntry at entry ⊢
  rw [table]
  exact entry

theorem totals_scan_enterRunning : s.scan.enterRunning.spill.periodNumber = scanPeriod s.foundRecords
    ∧ ∀ o q, s.foundRecords.find? (fun x => isCounting x.1 && decide (recordOutfall x.1 = o)) = some q →
        fieldAt q.1 10 2 = s.scan.enterRunning.spill.periodNumber →
        (s.scan.enterRunning.outfall o).count = fieldAt q.1 12 2 ∧ (s.scan.enterRunning.outfall o).seconds = fieldAt q.1 14 3 := by
  obtain ⟨-, -, -, spill, -⟩ := s.scan.kept_enterRunning
  have period : s.scan.enterRunning.spill.periodNumber = scanPeriod s.foundRecords := by rw [spill, periodNumber_scan]
  refine ⟨period, fun o q newest carried => ?_⟩
  rw [period] at carried
  have found : newestCounting s.foundRecords o = some q := newest
  have restores : restoredTotals s.foundRecords () o (s.outfall o) =
      { s.outfall o with count := fieldAt q.1 12 2, seconds := fieldAt q.1 14 3 } := by
    unfold restoredTotals
    rw [found]
    exact if_pos carried
  rw [outfall_congr spill, outfall_scan, restores]
  exact ⟨rfl, rfl⟩

end State

theorem exec_storeFormat {s : State} (stage : s.stage = .store) (blank : s.store.state = .formatting) (fails : List (Fin 64)) :
    exec (.storeFormat fails) s = .next (s.format fails).enterRunning :=
  congrArg Host.Outcome.next (if_pos ⟨stage, blank⟩)

theorem exec_storeScan {s : State} (stage : s.stage = .store) (scanning : s.store.state = .scanning) :
    exec .storeScan s = .next s.scan.enterRunning :=
  congrArg Host.Outcome.next (if_pos ⟨stage, scanning⟩)

/-- Settles O10: a format and a scan each leave the blocks that the entry to RUNNING starts, and that entry leaves of the
record store what they have made of it. -/
theorem storeStageEndsInRunning : Obligations.StoreStageEndsInRunning := by
  unfold Obligations.StoreStageEndsInRunning
  intro fails s i stage is asked
  rcases is with ⟨rfl, blank⟩ | ⟨rfl, scanning⟩
  · have asks : asked ↔ (s.save.heldRequest = true
        ∨ ∃ b ∈ fails, s.blockStatus b ≠ .retired ∧ (s.array.get b).factoryBad = false) := by simp [asked]
    have ends := stageEnds_format stage fails
    rw [← asks] at ends
    obtain ⟨stage', works, eeprom, clock, civil⟩ := ends.stage_works
    obtain ⟨sched, active, hold, lease, eff, entries⟩ := ends.allowance
    obtain ⟨state, worn, held⟩ := ends.records
    obtain ⟨quiet, saved, save⟩ := ends.saves
    exact ⟨_, exec_storeFormat stage blank fails, stage', works, eeprom, clock, civil, sched, active, hold, lease, eff, entries,
      ends.channel, ends.tank, ends.port, ends.rests, state, worn, held, quiet, saved, save,
      fun _ => s.format_enterRunning fails, fun no => absurd no (by simp)⟩
  · have asks : asked ↔ s.save.heldRequest = true := by simp [asked]
    have ends := s.stageEnds_scan
    rw [← asks] at ends
    obtain ⟨stage', works, eeprom, clock, civil⟩ := ends.stage_works
    obtain ⟨sched, active, hold, lease, eff, entries⟩ := ends.allowance
    obtain ⟨state, worn, held⟩ := ends.records
    obtain ⟨quiet, saved, save⟩ := ends.saves
    obtain ⟨array, table, mark, next⟩ := s.scan_enterRunning
    obtain ⟨period, totals⟩ := s.totals_scan_enterRunning
    refine ⟨_, exec_storeScan stage scanning, stage', works, eeprom, clock, civil, sched, active, hold, lease, eff, entries,
      ends.channel, ends.tank, ends.port, ends.rests, state, worn, held, quiet, saved, save, fun no => absurd no (by simp),
      fun _ => ?_⟩
    rw [← scanned_eq]
    exact ⟨array, table, mark, next, fun _ _ _ => tableEntry_scan_enterRunning, period, totals⟩

end Sys2Proof.Machine
end
